-- ==== Sys2Proof/Word.lean ====
section
/-! DEFINITION. The words of the ZS62: bytes, System Counter times, sequence numbers and check values. -/

namespace Sys2Proof

/-- One byte of a packet, a cell or a table. -/
abbrev Byte := BitVec 8

/-- A time of the System Counter: 32 bits of microseconds, wrapping (00_scope.md, Time; R155). -/
abbrev Time := BitVec 32

/-- A display frame sequence number, 0..65535 (R138). -/
abbrev Seq := BitVec 16

/-- A check value: the 32-bit pair sum (R1). -/
abbrev Check := BitVec 32

end Sys2Proof
end

