-- ==== Sys2Proof/Config.lean ====
section
/-! DEFINITION. What the manual leaves open: each is an opaque constant, applied to the model's draw counter, so that no
proof can see its value. -/

namespace Sys2Proof.Config

/-- Free choice (DESIGN CHOICE, assumption 6): at a display frame start whose tracker is not OFF, whether GENLOCK_LOST is evaluated
before the view controller decides the frame. R63 lets an entry's HOLD be taken before or after the start. -/
opaque genlockFirst : Nat → Bool

/-- Free choice (DESIGN CHOICE, assumption 5): where an event falling due at one microsecond is taken among the others of that
microsecond. First argument: the draw; second: how many events it is placed among. -/
opaque dueOrder : Nat → Nat → Nat

/-- Free value (DESIGN CHOICE, assumption 7): how many bytes a scrub step in flight reads in one microsecond. The manual gives no rate
(01_the_table_store.md, 1.5: the time grows with the length). -/
opaque scrubBytes : Nat → Nat

end Sys2Proof.Config
end

