-- ==== Sys2Proof/Syntax.lean ====
section
/-! DEFINITION. The commands of the ZS62: one constructor of `Instr` per row of spec/opcode_table.json.

A command is one step of the part, whole and indivisible (95_what_each_step_holds.md). A packet or a cell arrives as the
bytes its link delivers (R210 to R212). A management request's command is the moment its execution ends (R199): it has no
operand, because the request stands in the management agent (R198). -/

namespace Sys2Proof

/-- A channel of the part, and the display link, camera link and monitor that belong to it. -/
inductive Channel where
  | left | right
  deriving DecidableEq, Repr

inductive Instr where
  /-- R36: a FRAME-START packet arrives on the channel's camera link. -/
  | frameStart (ch : Channel) (packet : List Byte)
  /-- R37: an EMBEDDED packet arrives. -/
  | embedded (ch : Channel) (packet : List Byte)
  /-- R38: a LINE packet arrives. -/
  | line (ch : Channel) (packet : List Byte)
  /-- R39: a FRAME-END packet arrives. -/
  | frameEnd (ch : Channel) (packet : List Byte)
  /-- R51: a REPLY packet arrives. -/
  | reply (ch : Channel) (packet : List Byte)
  /-- R34: a camera packet arrives that the receiver discards. -/
  | cameraPacketDiscard (ch : Channel) (packet : List Byte)
  /-- R145: a MONITOR-STATUS cell arrives on the return channel of the link. -/
  | monitorStatus (link : Channel) (cell : List Byte)
  /-- R151: a SIGNATURE cell arrives. -/
  | signature (link : Channel) (cell : List Byte)
  /-- R197: a REQUEST cell arrives. -/
  | requestCell (link : Channel) (cell : List Byte)
  /-- R143: a return cell arrives that the link unit discards. -/
  | returnCellDiscard (link : Channel) (cell : List Byte)
  /-- R198: the FREE agent takes a request. -/
  | agentTakesRequest
  | queryIdentity
  | queryChannel
  | queryBuffer
  | queryTile
  | queryFaultEntry
  | queryHistory
  | queryTable
  | queryParameter
  | queryCoverage
  | queryTiming
  | queryPass
  | set
  | tableOpen
  | tableData
  | tableCommit
  | tableAbandon
  | tableLockLock
  | tableLockUnlock
  | tableLockLockDown
  | faultAck
  | faultClear
  | viewRestart
  | timingTracker
  | timingBandwidth
  | timingSource
  | cameraPass
  | coverageWrite
  | coverageFix
  | partReset
  | unknownRequest
  /-- R158: the selected bit of the System Counter makes the selected transition. -/
  | supervisionTick
  /-- R52: the channel's WAITING pass meets its second tick. -/
  | passTimeout (ch : Channel)
  /-- R16: the engine starts the verify at the head of the verify queue. -/
  | verifyStart
  /-- R18: the running verify ends. -/
  | verifyEnd
  /-- R26: the scrub step in flight has read its last byte. -/
  | scrubStepEnd
  /-- R62, R159: the link's display frame start. -/
  | displayFrameStart (ch : Channel)
  /-- R62: the hold timer reaches HOLD_LIMIT at the link's display frame start. -/
  | holdLimitReached (ch : Channel)
  /-- R124: the next active line of the display frame starts. -/
  | activeLineStart (ch : Channel)
  /-- R59: the active line in progress ends. -/
  | activeLineEnd (ch : Channel)
  /-- R68: the display frame end. -/
  | displayFrameEnd (ch : Channel)
  /-- R141: the header cell is built and sent. -/
  | headerCell (ch : Channel)
  /-- R140: the next answer cell of the area is sent. -/
  | answerCellSent (ch : Channel)
  /-- R209: the ancillary area ends. -/
  | ancillaryAreaEnd (ch : Channel)
  /-- R163: a reference start of the link's tracker. -/
  | referenceStart (ch : Channel)
  /-- R165: the third empty reference start in a row. -/
  | holdover (ch : Channel)
  | powerOn
  | powerOnConditionEnd
  | resetNAssert
  | resetNDeassert
  | refclkLoss
  | refclkReturn
  | queryRefused
  | tableLockUnknownAction
  | timingUnknownItem
  deriving DecidableEq, Repr

end Sys2Proof
end

