-- ==== Sys2Proof/WellFormed.lean ====
section
/-! DEFINITION. Well-formed commands: a packet or cell command carries bytes of the kind its row names, no longer than the
link's layouts allow (R211, R212). The meanings do not rest on it: bytes of another form are handled as R34 and R143 say. -/

namespace Sys2Proof

/-- The bytes begin with the kind byte `k`. -/
def startsWith (k : Byte) (bytes : List Byte) : Bool :=
  bytes.head? == some k

/-- The longest camera packet: a LINE of 65,535 pixel values (R211). -/
def maxPacket : Nat := 9 + 2 * 65535

/-- The longest return cell: a REQUEST whose length byte is 255 (R212). -/
def maxCell : Nat := 10 + 255

def Instr.wellFormed : Instr → Bool
  | .frameStart _ p => startsWith 1 p && p.length ≤ maxPacket
  | .embedded _ p => startsWith 2 p && p.length ≤ maxPacket
  | .line _ p => startsWith 3 p && p.length ≤ maxPacket
  | .frameEnd _ p => startsWith 4 p && p.length ≤ maxPacket
  | .reply _ p => startsWith 5 p && p.length ≤ maxPacket
  | .cameraPacketDiscard _ p => p.length ≤ maxPacket
  | .monitorStatus _ c => startsWith 16 c && c.length ≤ maxCell
  | .signature _ c => startsWith 17 c && c.length ≤ maxCell
  | .requestCell _ c => startsWith 18 c && c.length ≤ maxCell
  | .returnCellDiscard _ c => c.length ≤ maxCell
  | .agentTakesRequest | .queryIdentity | .queryChannel | .queryBuffer | .queryTile | .queryFaultEntry | .queryHistory
  | .queryTable | .queryParameter | .queryCoverage | .queryTiming | .queryPass | .set | .tableOpen | .tableData
  | .tableCommit | .tableAbandon | .tableLockLock | .tableLockUnlock | .tableLockLockDown | .faultAck | .faultClear
  | .viewRestart | .timingTracker | .timingBandwidth | .timingSource | .cameraPass | .coverageWrite | .coverageFix
  | .partReset | .unknownRequest | .supervisionTick | .passTimeout _ | .verifyStart | .verifyEnd | .scrubStepEnd
  | .displayFrameStart _ | .holdLimitReached _ | .activeLineStart _ | .activeLineEnd _ | .displayFrameEnd _
  | .headerCell _ | .answerCellSent _ | .ancillaryAreaEnd _ | .referenceStart _ | .holdover _ | .powerOn
  | .powerOnConditionEnd | .resetNAssert | .resetNDeassert | .refclkLoss | .refclkReturn | .queryRefused
  | .tableLockUnknownAction | .timingUnknownItem => true

end Sys2Proof
end

