-- ==== Sys2Proof/Decode.lean ====
section
/-! DEFINITION. The opcode table gives its rows no bits (every row's "fields" is empty and none has "fixed"): no word spells
a command, so the decoder answers none on every word (DESIGN CHOICE, assumption 28). -/

namespace Sys2Proof

/-- The command that a word of the opcode table spells: none, since no row of spec/opcode_table.json has bits. -/
def decodeTableWord (_nbits _w : Nat) : Option Instr := none

end Sys2Proof
end

