-- ==== Sys2Proof/Machine/State.lean ====
section
/-! DEFINITION. The state of the ZS62, as plain data, and its value right after a part reset. Each type cites the rule
that gives its fields; INVENTORY.md lists them with their reset values. -/

namespace Sys2Proof.Machine

/-- A fault stops the machine. The manual gives every command of the table an effect, so no meaning raises one and the type
has no constructor. -/
inductive Fault where
  deriving DecidableEq, Repr

/-- A refusal says that the model gives a command no meaning. -/
inductive Refusal where
  /-- Raised only by an arm of `exec` that has no meaning (there is none). Safe: the machine stops. -/
  | notModelled (mnemonic : String)
  deriving DecidableEq, Repr

/-- One value for each channel (00_scope.md, Channels). -/
structure Pair (α : Type) where
  left : α
  right : α
  deriving DecidableEq, Repr

def Pair.get {α : Type} (p : Pair α) : Channel → α
  | .left => p.left
  | .right => p.right

def Pair.set {α : Type} (p : Pair α) (ch : Channel) (x : α) : Pair α :=
  match ch with
  | .left => { p with left := x }
  | .right => { p with right := x }

/-- The same value for both channels. -/
def Pair.both {α : Type} (x : α) : Pair α := ⟨x, x⟩

/-! ## The pair sum (R1) -/

/-- The two accumulators of a pair sum in progress (R1). -/
structure PairAcc where
  a : Nat
  b : Nat
  deriving DecidableEq, Repr

/-- R1: A = 1 and B = 0 before the first byte. -/
def PairAcc.start : PairAcc := ⟨1, 0⟩

/-! ## The table store (01_the_table_store.md) -/

/-- The thirteen tables of R2. -/
inductive TableId where
  | develop (ch : Channel)
  | defectList (ch : Channel)
  | warpMesh (ch : Channel)
  | toneCurves (ch : Channel)
  | glareResponse (ch : Channel)
  | overlaySet (ch : Channel)
  | faultActions
  deriving DecidableEq, Repr

/-- R10: the state of an active bank. -/
inductive ActiveState where
  | empty | valid | corrupt
  deriving DecidableEq, Repr

/-- R10: an active bank and its contents. -/
structure ActiveBank where
  state : ActiveState
  length : Nat
  checksum : Check
  generation : BitVec 16
  bytes : List Byte
  deriving DecidableEq, Repr

/-- R10, R12: a load under way. Bytes received is the number of bytes held. -/
structure Load where
  declared : Nat
  owner : Channel
  bytes : List Byte
  deriving DecidableEq, Repr

/-- R10: the staged bank. The fields R10 calls absent in a state are not there; a VERIFYING bank keeps the tag of the
COMMIT whose answer is held (R14, R196). -/
inductive Staged where
  | idle
  | loading (load : Load)
  | verifying (load : Load) (supplied : Check) (tag : Byte)
  | swapWait (load : Load) (supplied : Check)
  deriving DecidableEq, Repr

/-- R10: the lock of a table. -/
inductive Lock where
  | unlocked | locked | lockedDown
  deriving DecidableEq, Repr

/-- R10: one directory entry. -/
structure TableEntry where
  active : ActiveBank
  staged : Staged
  lock : Lock
  deriving DecidableEq, Repr

/-- R25, R27: a scrub step, in flight or suspended, the byte it has reached and its accumulators. -/
structure ScrubStep where
  table : TableId
  suspended : Bool
  reached : Nat
  acc : PairAcc
  deriving DecidableEq, Repr

/-- The table store and the table engine (R10, R16, R25). -/
structure TableStore where
  develop : Pair TableEntry
  defectList : Pair TableEntry
  warpMesh : Pair TableEntry
  toneCurves : Pair TableEntry
  glareResponse : Pair TableEntry
  overlaySet : Pair TableEntry
  faultActions : TableEntry
  /-- R16: oldest commit first. -/
  verifyQueue : List TableId
  /-- The table the engine is verifying (R16). -/
  verifying : Option TableId
  scrubPosition : TableId
  scrub : Option ScrubStep
  deriving DecidableEq, Repr

/-- R10: after a part reset. -/
def TableEntry.reset : TableEntry :=
  { active := { state := .empty, length := 0, checksum := 0, generation := 0, bytes := [] }
    staged := .idle
    lock := .locked }

/-- R10, R16, R25: after a part reset. -/
def TableStore.reset : TableStore :=
  { develop := .both .reset, defectList := .both .reset, warpMesh := .both .reset, toneCurves := .both .reset
    glareResponse := .both .reset, overlaySet := .both .reset, faultActions := .reset
    verifyQueue := [], verifying := none, scrubPosition := .develop .left, scrub := none }

/-- A rectangle in camera coordinates (R30). -/
structure Rect where
  x0 : Nat
  y0 : Nat
  x1 : Nat
  y1 : Nat
  deriving DecidableEq, Repr

/-- R30: the coverage record of a channel. -/
inductive Coverage where
  | unwritten
  | written (rect : Rect)
  | fixed (rect : Rect)
  deriving DecidableEq, Repr

/-! ## Pixels and decoded tables -/

/-- Three components: linear (0..4095) or output (0..255) (00_scope.md, Pixel values). -/
structure Rgb where
  r : Nat
  g : Nat
  b : Nat
  deriving DecidableEq, Repr

/-- R3: a Develop table, decoded. -/
structure DevelopTable where
  black : Nat
  bayer : Nat
  matrix : List Int
  offsets : List Int
  deriving DecidableEq, Repr

/-- R5: a mesh point, in sixteenths of a source pixel. -/
structure MeshPoint where
  sx : Int
  sy : Int
  deriving DecidableEq, Repr

/-- R120: one overlay layer. -/
structure Layer where
  x : Int
  y : Int
  width : Nat
  height : Nat
  offset : Nat
  foreground : Rgb
  background : Rgb
  code : Byte
  condition : Nat
  deriving DecidableEq, Repr

/-- R8: an Overlay Set, decoded. -/
structure OverlaySet where
  layers : List Layer
  pool : List Byte
  deriving DecidableEq, Repr

/-! ## The camera receiver (02_camera_links_and_frame_intake.md) -/

/-- The three buffers of a frame store (R55). -/
inductive BufferId where
  | b0 | b1 | b2
  deriving DecidableEq, Repr

/-- The facts of the frame being assembled (2.2), the items in force at its FRAME-START (R44), and the raw rows the
intake pipeline holds (R45). -/
structure FrameFacts where
  nextLine : Nat
  width : Nat
  height : Nat
  arrival : Time
  buffer : Option BufferId
  develop : DevelopTable
  defects : List (Nat × Nat)
  raw : List (List Nat)
  deriving DecidableEq, Repr

/-- R35: the phase, with the fields that 2.2 calls absent in the other phases. -/
inductive Assembly where
  | idle
  | header (frame : FrameFacts)
  | lines (frame : FrameFacts) (counter : BitVec 16) (status : Byte)
  | discard
  deriving DecidableEq, Repr

/-- R50: the pass record. -/
inductive PassRecord where
  | idle
  | waiting (link : Channel) (tag : Byte) (ticks : Nat)
  deriving DecidableEq, Repr

/-- The camera receiver of a channel (2.2, R43, R50). -/
structure Receiver where
  assembly : Assembly
  reference : Option (BitVec 16)
  startSeen : Bool
  silentTicks : Nat
  pass : PassRecord
  deriving DecidableEq, Repr

/-- R54: after a part reset. -/
def Receiver.reset : Receiver :=
  { assembly := .idle, reference := none, startSeen := false, silentTicks := 0, pass := .idle }

/-! ## Frame buffers and view states (03_frame_buffers_and_view_states.md) -/

/-- The arrival time, size and developed rows of a buffer (R55). -/
structure Picture where
  arrival : Time
  width : Nat
  height : Nat
  rows : List (List Rgb)
  deriving DecidableEq, Repr

/-- R55: a buffer record; a field absent in a state is not there, and READY's times shown is always 0. -/
inductive Buffer where
  | free
  | filling (picture : Picture)
  | ready (picture : Picture) (counter : BitVec 16)
  | shown (picture : Picture) (counter : BitVec 16) (times : Nat)
  deriving DecidableEq, Repr

/-- R55, R59: the three buffers, and whether the SHOWN buffer is released and waits for the end of the active line. -/
structure FrameStore where
  b0 : Buffer
  b1 : Buffer
  b2 : Buffer
  released : Bool
  deriving DecidableEq, Repr

def FrameStore.reset : FrameStore := { b0 := .free, b1 := .free, b2 := .free, released := false }

/-- 3.3: the view states. -/
inductive ViewState where
  | start | live | hold | fallback
  deriving DecidableEq, Repr

/-- R79: the two meshes of a Warp Mesh table. -/
inductive MeshChoice where
  | primary | turn
  deriving DecidableEq, Repr

/-- R60: the display frame record. Condition c of R126 is bit c of `conditions`. -/
structure FrameRecord where
  seq : Seq
  start : Time
  view : ViewState
  buffer : Option BufferId
  fresh : Bool
  mesh : Option MeshChoice
  night : Bool
  conditions : BitVec 16
  deriving DecidableEq, Repr

/-- R61: the view controller, with its display frame record (none before the first display frame start). -/
structure ViewControl where
  state : ViewState
  holdTimer : Nat
  record : Option FrameRecord
  deriving DecidableEq, Repr

def ViewControl.reset : ViewControl := { state := .start, holdTimer := 0, record := none }

/-! ## Glare dimming (05_glare_dimming.md) -/

/-- R100: the states of a tile. -/
inductive TileState where
  | clear | onset | glare | release
  deriving DecidableEq, Repr

/-- R100: a tile record. -/
structure Tile where
  state : TileState
  run : Nat
  qLast : Nat
  target : Nat
  gain : Nat
  deriving DecidableEq, Repr

def Tile.reset : Tile := { state := .clear, run := 0, qLast := 0, target := 256, gain := 256 }

/-- R93, R98, R100: the glare unit. `tiles`, `hot` and `last` have 80 entries, by tile number. -/
structure Glare where
  night : Bool
  dwell : Nat
  tiles : List Tile
  hot : List Nat
  last : List Nat
  deriving DecidableEq, Repr

def Glare.reset : Glare :=
  { night := false, dwell := 0, tiles := List.replicate 80 .reset, hot := List.replicate 80 0
    last := List.replicate 80 0 }

/-! ## Management requests (10_management_requests_and_formats.md) -/

/-- R197: a request, as its cell carried it, and its link. -/
structure Request where
  link : Channel
  tag : Byte
  kind : Byte
  channel : Byte
  item : Byte
  payload : List Byte
  deriving DecidableEq, Repr

/-- R213: the results of an answer. -/
inductive Result where
  | ok | clamped | busy | sequence | order | length | locked | drivingProtected | invalid | checksum | coverage | range
  | unknown | notLocked | inUse | fixed | serviceOnly | meshConflict | timeout | aborted
  deriving DecidableEq, Repr

/-- R213: an answer. -/
structure Answer where
  tag : Byte
  kind : Byte
  result : Result
  payload : List Byte
  deriving DecidableEq, Repr

/-- R198: the management agent; `executing` is none when it is FREE. -/
structure Agent where
  executing : Option Request
  lastServed : Channel
  deriving DecidableEq, Repr

def Agent.reset : Agent := { executing := none, lastServed := .right }

/-! ## Display links (07_display_links.md) -/

/-- What the display pipeline, the glare unit and the compositor use for a frame, fixed at its start (R78, R115, R119). -/
structure FrameItems where
  mesh : List MeshPoint
  knots : List Nat
  response : List Nat
  overlay : OverlaySet
  deriving DecidableEq, Repr

/-- Where the display frame in progress stands (R139, R140): before the first start, in its active lines, past its display
frame end, in its ancillary area with the answer cells still to send and whether a PART-RESET answer went out in it
(R209), or blanking. -/
inductive Stage where
  | beforeFirst
  | activeLines
  | ended
  | ancillary (remaining : Nat) (carriedReset : Bool)
  | blanking
  deriving DecidableEq, Repr

/-- The display frame in progress: its stage, its lines, its signature so far (R149) and its items. -/
structure ForwardFrame where
  stage : Stage
  nextLine : Nat
  lineInProgress : Option Nat
  signature : PairAcc
  items : FrameItems
  deriving DecidableEq, Repr

def ForwardFrame.reset : ForwardFrame :=
  { stage := .beforeFirst, nextLine := 0, lineInProgress := none, signature := .start
    items := { mesh := [], knots := [], response := [], overlay := { layers := [], pool := [] } } }

/-- R137: the display link unit; `nextSeq` is its sequence count and `frameSeq` the number of the frame whose start was
taken last (R179; assumption 32). -/
structure LinkUnit where
  nextSeq : Seq
  frameSeq : Seq
  expected : List (Seq × Check)
  rxDiscard : Bool
  statusSeen : Bool
  silentTicks : Nat
  /-- R153: lux, and whether the backlight was FAULT. -/
  lastStatus : Option (BitVec 16 × Bool)
  /-- R196: the QUEUED requests, oldest first. -/
  requests : List Request
  /-- R142: the answer queue, oldest first. -/
  answers : List Answer
  /-- R209: a pending part reset is recorded for this link. -/
  resetPending : Bool
  frame : ForwardFrame
  deriving DecidableEq, Repr

/-- R154: after a part reset. -/
def LinkUnit.reset : LinkUnit :=
  { nextSeq := 0, frameSeq := 0, expected := [], rxDiscard := false, statusSeen := false, silentTicks := 0
    lastStatus := none, requests := [], answers := [], resetPending := false, frame := .reset }

/-! ## Display timing and genlock (08_display_timing_and_genlock.md) -/

inductive TrackerState where
  | off | acquire | track | holdover
  deriving DecidableEq, Repr

inductive Bandwidth where
  | auto | wide | narrow
  deriving DecidableEq, Repr

/-- R161: the genlock tracker of a link. `frameEnd` is the latest frame-end time while frame-end seen is set. -/
structure Tracker where
  state : TrackerState
  locked : Bool
  bandwidth : Bandwidth
  period : Nat
  nextRef : Option Time
  frameEnd : Option Time
  lastError : Option Int
  lockRun : Nat
  unlockRun : Nat
  emptyCount : Nat
  deriving DecidableEq, Repr

/-- R161: after a part reset. -/
def Tracker.reset : Tracker :=
  { state := .off, locked := false, bandwidth := .auto, period := 16667, nextRef := none, frameEnd := none
    lastError := none, lockRun := 0, unlockRun := 0, emptyCount := 0 }

inductive Source where
  | internal | tracked
  deriving DecidableEq, Repr

/-- R159: the timing generator of a link and its tracker. `start` is none before the first display frame start; `landing`
says that the clamp of R166 did not act when the period of the frame in progress was chosen (DEDUCED, assumption 14). -/
structure LinkTiming where
  source : Source
  start : Option Time
  period : Nat
  aligned : Bool
  landing : Bool
  tracker : Tracker
  deriving DecidableEq, Repr

def LinkTiming.reset : LinkTiming :=
  { source := .internal, start := none, period := 16667, aligned := false, landing := false, tracker := .reset }

/-! ## Fault supervision (09_fault_supervision.md) -/

/-- The thirteen fault kinds of R173, in number order. -/
inductive FaultKind where
  | camLost | camFrozen | camSkip | camSensor | frameMalformed | viewStale | latency | dispMismatch | dispSilent
  | dispBacklight | tableCorrupt | genlockLost | glareSaturated
  deriving DecidableEq, Repr

inductive Action where
  | report | hold | fallback
  deriving DecidableEq, Repr

/-- 9.2: the action values of a kind. -/
structure ActionValues where
  action : Action
  debounce : Nat
  recovery : Nat
  latch : Bool
  assertLine : Bool
  deriving DecidableEq, Repr

inductive EntryState where
  | inactive | pending | active | recovering | latched
  deriving DecidableEq, Repr

/-- R178: the time and display frame of an activation. -/
structure Activation where
  time : Time
  seq : Seq
  deriving DecidableEq, Repr

/-- R175: a fault entry. -/
structure FaultEntry where
  state : EntryState
  run : Nat
  applied : ActionValues
  occurrences : Nat
  first : Option Activation
  last : Option Activation
  detail : Option Nat
  unacknowledged : Bool
  deriving DecidableEq, Repr

/-- R172: the thirteen entries of a channel. -/
structure FaultEntries where
  camLost : FaultEntry
  camFrozen : FaultEntry
  camSkip : FaultEntry
  camSensor : FaultEntry
  frameMalformed : FaultEntry
  viewStale : FaultEntry
  latency : FaultEntry
  dispMismatch : FaultEntry
  dispSilent : FaultEntry
  dispBacklight : FaultEntry
  tableCorrupt : FaultEntry
  genlockLost : FaultEntry
  glareSaturated : FaultEntry
  deriving DecidableEq, Repr

/-- R174: the built-in action values. -/
def FaultKind.builtIn : FaultKind → ActionValues
  | .camLost => ⟨.hold, 1, 2, false, true⟩
  | .camFrozen => ⟨.hold, 3, 3, false, true⟩
  | .camSkip => ⟨.report, 1, 30, false, false⟩
  | .camSensor => ⟨.fallback, 2, 30, true, true⟩
  | .frameMalformed => ⟨.hold, 2, 10, false, true⟩
  | .viewStale => ⟨.hold, 1, 2, false, false⟩
  | .latency => ⟨.fallback, 3, 30, true, true⟩
  | .dispMismatch => ⟨.fallback, 2, 60, true, true⟩
  | .dispSilent => ⟨.report, 2, 1, false, true⟩
  | .dispBacklight => ⟨.report, 1, 1, false, true⟩
  | .tableCorrupt => ⟨.report, 1, 1, true, true⟩
  | .genlockLost => ⟨.report, 120, 8, false, false⟩
  | .glareSaturated => ⟨.report, 30, 30, false, false⟩

/-- R175: an entry after a part reset. -/
def FaultEntry.reset (k : FaultKind) : FaultEntry :=
  { state := .inactive, run := 0, applied := k.builtIn, occurrences := 0, first := none, last := none, detail := none
    unacknowledged := false }

/-- R194: the entries of a channel after a part reset. -/
def FaultEntries.reset : FaultEntries :=
  { camLost := .reset .camLost, camFrozen := .reset .camFrozen, camSkip := .reset .camSkip
    camSensor := .reset .camSensor, frameMalformed := .reset .frameMalformed, viewStale := .reset .viewStale
    latency := .reset .latency, dispMismatch := .reset .dispMismatch, dispSilent := .reset .dispSilent
    dispBacklight := .reset .dispBacklight, tableCorrupt := .reset .tableCorrupt, genlockLost := .reset .genlockLost
    glareSaturated := .reset .glareSaturated }

/-- R190: a fault history record. -/
structure HistoryRecord where
  kind : FaultKind
  channel : Channel
  time : Time
  seq : Seq
  detail : Nat
  deriving DecidableEq, Repr

/-- R192: the causes of a part reset. -/
inductive ResetCause where
  | powerOn | line | clock | management
  deriving DecidableEq, Repr

/-- The MODE strap (00_scope.md, External connections). -/
inductive Mode where
  | normal | service
  deriving DecidableEq, Repr

/-- R192: the reset cause record. -/
structure ResetRecord where
  cause : ResetCause
  mode : Mode
  deriving DecidableEq, Repr

/-! ## The Parameter Set (R206) -/

/-- The thirty parameters of R206, in id order. -/
inductive Param where
  | camWidth | camHeight | holdLimit | repeatLimit | latencyLimit | dispWidth | dispHeight | borderColour | hotLevel
  | glareOn | glareOff | onsetFrames | releaseFrames | attackStep | releaseStep | gainFloor | glareTileLimit
  | fieldColour | checkWindow | periodNom | span | offset | lockWindow | unlockWindow | nightMode | nightEnter
  | nightExit | nightDwell | tickBit | tickEdge
  deriving DecidableEq, Repr

inductive NightMode where
  | auto | day | night
  deriving DecidableEq, Repr

inductive TickEdge where
  | rising | falling
  deriving DecidableEq, Repr

/-- R148: CHECK_WINDOW. -/
structure Window where
  x : Nat
  y : Nat
  w : Nat
  h : Nat
  deriving DecidableEq, Repr

/-- R206: the in-force values of a channel's parameters. -/
structure ChannelParams where
  camWidth : Nat
  camHeight : Nat
  holdLimit : Nat
  repeatLimit : Nat
  latencyLimit : Nat
  dispWidth : Nat
  dispHeight : Nat
  borderColour : Rgb
  hotLevel : Nat
  glareOn : Nat
  glareOff : Nat
  onsetFrames : Nat
  releaseFrames : Nat
  attackStep : Nat
  releaseStep : Nat
  gainFloor : Nat
  glareTileLimit : Nat
  fieldColour : Rgb
  checkWindow : Window
  periodNom : Nat
  span : Nat
  offset : Nat
  lockWindow : Nat
  unlockWindow : Nat
  nightMode : NightMode
  nightEnter : Nat
  nightExit : Nat
  nightDwell : Nat
  deriving DecidableEq, Repr

/-- R206: the defaults. -/
def ChannelParams.reset : ChannelParams :=
  { camWidth := 1920, camHeight := 1080, holdLimit := 30, repeatLimit := 3, latencyLimit := 50000, dispWidth := 800
    dispHeight := 1280, borderColour := ⟨0, 0, 0⟩, hotLevel := 3600, glareOn := 8, glareOff := 3, onsetFrames := 2
    releaseFrames := 12, attackStep := 32, releaseStep := 8, gainFloor := 96, glareTileLimit := 48
    fieldColour := ⟨64, 64, 64⟩, checkWindow := ⟨0, 0, 1280, 1920⟩, periodNom := 16667, span := 500, offset := 1500
    lockWindow := 200, unlockWindow := 1000, nightMode := .auto, nightEnter := 20, nightExit := 60, nightDwell := 30 }

/-- R156: the part-wide parameters held once. -/
structure PartParams where
  tickBit : Nat
  tickEdge : TickEdge
  deriving DecidableEq, Repr

def PartParams.reset : PartParams := { tickBit := 15, tickEdge := .rising }

/-- A pending value: the parameter and its fields in the order of its SET payload (R205, R214). -/
abbrev PendingValue := Param × List Nat

/-! ## Lines, reset conditions and outputs -/

/-- The levels of the input lines (00_scope.md, External connections). No command of the table moves one (DESIGN CHOICE, assumption 1). -/
structure Pins where
  modeStrap : Mode
  drive : Bool
  turn : Pair Bool
  reverse : Bool
  deriving DecidableEq, Repr

/-- R207: the conditions that hold the part in reset, and whether the reset began with power being applied (R192; DEDUCED,
assumption 33). -/
structure ResetHold where
  powerOn : Bool
  resetN : Bool
  clockAbsent : Bool
  fromPower : Bool
  deriving DecidableEq, Repr

/-- What a channel's links carried out last: the PASS packet, the active line's composited pixels, the ancillary cell
(DESIGN CHOICE, assumption 21). -/
structure Outputs where
  passPacket : Option (List Byte)
  lineOut : List Rgb
  cellOut : List Byte
  deriving DecidableEq, Repr

def Outputs.reset : Outputs := { passPacket := none, lineOut := [], cellOut := [] }

/-- The state of the part. -/
structure State where
  /-- The commands waiting to be taken, first in, first out (the model's own). -/
  pending : List Instr
  /-- R155: the System Counter. -/
  counter : Time
  /-- The counter time of the last tick taken, or of the last change of the tick schedule (the model's own; R156, R157). -/
  lastTick : Option Time
  pins : Pins
  hold : ResetHold
  tables : TableStore
  coverage : Pair Coverage
  receiver : Pair Receiver
  store : Pair FrameStore
  view : Pair ViewControl
  glare : Pair Glare
  link : Pair LinkUnit
  timing : Pair LinkTiming
  entries : Pair FaultEntries
  /-- R190: newest first. -/
  history : List HistoryRecord
  historyCount : BitVec 8
  resetRecord : ResetRecord
  agent : Agent
  params : Pair ChannelParams
  pendingParams : Pair (List PendingValue)
  partParams : PartParams
  outputs : Pair Outputs
  /-- How many free values have been drawn from Config (the model's own). -/
  draws : Nat
  deriving DecidableEq, Repr

/-- The part right after a part reset (R208), taken as the POWER-ON reset of a new part whose straps and lines are at
NORMAL and deasserted (DESIGN CHOICE, assumption 2). -/
def State.reset : State :=
  { pending := []
    counter := 0
    lastTick := some 0
    pins := { modeStrap := .normal, drive := false, turn := .both false, reverse := false }
    hold := { powerOn := false, resetN := false, clockAbsent := false, fromPower := false }
    tables := .reset
    coverage := .both .unwritten
    receiver := .both .reset
    store := .both .reset
    view := .both .reset
    glare := .both .reset
    link := .both .reset
    timing := .both .reset
    entries := .both .reset
    history := []
    historyCount := 0
    resetRecord := { cause := .powerOn, mode := .normal }
    agent := .reset
    params := .both .reset
    pendingParams := .both []
    partParams := .reset
    outputs := .both .reset
    draws := 0 }

end Sys2Proof.Machine
end

