-- ==== Sys2Proof/Machine/Bytes.lean ====
section
/-! DEFINITION. Byte order and the pair sum: multi-byte fields are little-endian (00_scope.md, Byte order), and R1 is the
part's one check value. -/

namespace Sys2Proof.Machine

/-- The byte at an offset, as a number; 0 past the end. -/
def byteAt (bytes : List Byte) (i : Nat) : Nat := (bytes.getD i 0).toNat

/-- The little-endian 2-byte field at an offset. -/
def le16 (bytes : List Byte) (i : Nat) : Nat := byteAt bytes i + 256 * byteAt bytes (i + 1)

/-- The little-endian 4-byte field at an offset. -/
def le32 (bytes : List Byte) (i : Nat) : Nat := le16 bytes i + 65536 * le16 bytes (i + 2)

/-- The two's complement 2-byte field at an offset. -/
def signed16 (bytes : List Byte) (i : Nat) : Int := (BitVec.ofNat 16 (le16 bytes i)).toInt

/-- The two's complement 4-byte field at an offset. -/
def signed32 (bytes : List Byte) (i : Nat) : Int := (BitVec.ofNat 32 (le32 bytes i)).toInt

/-- The `n` bytes from an offset on. -/
def slice (bytes : List Byte) (i n : Nat) : List Byte := (bytes.drop i).take n

/-- A number as `width` bytes, least significant first. -/
def toLe : (width : Nat) → (n : Nat) → List Byte
  | 0, _ => []
  | w + 1, n => BitVec.ofNat 8 n :: toLe w (n / 256)

/-- A signed number as 4 bytes, two's complement. -/
def toLeSigned32 (n : Int) : List Byte := toLe 4 (BitVec.ofInt 32 n).toNat

/-- A truth as one byte: 0 no, 1 yes. R212 and R216 give these codes for the backlight, latch and assert-line; for the other
truths of an answer's payload (R214, R215) the manual gives none (DESIGN CHOICE, assumption 37). -/
def boolByte (b : Bool) : List Byte := toLe 1 b.toNat

/-- The number whose bit k is the k-th truth of the list. -/
def bitsOf : List Bool → Nat
  | [] => 0
  | b :: bs => b.toNat + 2 * bitsOf bs

/-- clamp(a, lo, hi) of the Conventions. -/
def clampNat (a lo hi : Nat) : Nat := if a < lo then lo else if hi < a then hi else a

/-- clamp(a, lo, hi) on signed numbers. -/
def clampInt (a lo hi : Int) : Int := if a < lo then lo else if hi < a then hi else a

/-- R1: one byte of a pair sum. -/
def PairAcc.step (acc : PairAcc) (byte : Byte) : PairAcc :=
  let a := (acc.a + byte.toNat) % 65521
  { a := a, b := (acc.b + a) % 65521 }

/-- R1: the bytes of a sequence, in order. -/
def PairAcc.over (acc : PairAcc) (bytes : List Byte) : PairAcc := bytes.foldl PairAcc.step acc

/-- R1: B × 65536 + A. -/
def PairAcc.value (acc : PairAcc) : Check := BitVec.ofNat 32 (acc.b * 65536 + acc.a)

/-- R1: the pair sum of a sequence of bytes. -/
def pairSum (bytes : List Byte) : Check := (PairAcc.start.over bytes).value

/-- R210: the bytes followed by their 4-byte check, as the part sends it. -/
def withCheck (bytes : List Byte) : List Byte := bytes ++ toLe 4 (pairSum bytes).toNat

/-- R210: a delivered run of bytes of the length its layout gives passes its check when its last four bytes are the pair sum
of all before them. A run of another length is one whose check fails. -/
def checkPasses (bytes : List Byte) (length : Nat) : Bool :=
  bytes.length == length && 5 ≤ length && le32 bytes (length - 4) == (pairSum (bytes.take (length - 4))).toNat

end Sys2Proof.Machine
end

