-- ==== Sys2Proof/Machine/Operands.lean ====
section
/-! DEFINITION. The forms a command's operand takes: the camera packets of R211, the return cells of R212, and the request
kinds of R212 with the rows of the opcode table they belong to. -/

namespace Sys2Proof.Machine

/-- What the receiver finds in a delivered camera packet (R34). -/
inductive CameraPacket where
  | frameStart
  | embedded (counter : BitVec 16) (status : Byte)
  | line (index : Nat) (pixels : List Nat)
  | frameEnd (linesSent : Nat)
  | reply (payload : List Byte)
  /-- An EMBEDDED, LINE or FRAME-END whose check fails: its frame handles it (R34, R40). -/
  | embeddedFailed
  | lineFailed
  | frameEndFailed
  /-- A packet of unknown kind, a FRAME-START or REPLY whose check fails, a REPLY over 48 bytes. -/
  | discarded
  deriving DecidableEq, Repr

/-- R211: the `n` pixel values of a LINE. -/
def pixelValues (bytes : List Byte) (n : Nat) : List Nat := (List.range n).map fun k => le16 bytes (5 + 2 * k)

/-- R34, R210, R211: reads a delivered camera packet. -/
def readCameraPacket (bytes : List Byte) : CameraPacket :=
  match byteAt bytes 0 with
  | 1 => if checkPasses bytes 5 then .frameStart else .discarded
  | 2 =>
    if checkPasses bytes 8 then .embedded (BitVec.ofNat 16 (le16 bytes 1)) (BitVec.ofNat 8 (byteAt bytes 3))
    else .embeddedFailed
  | 3 =>
    if checkPasses bytes (9 + 2 * le16 bytes 3) then .line (le16 bytes 1) (pixelValues bytes (le16 bytes 3))
    else .lineFailed
  | 4 => if checkPasses bytes 7 then .frameEnd (le16 bytes 1) else .frameEndFailed
  | 5 =>
    if byteAt bytes 1 ≤ 48 ∧ checkPasses bytes (6 + byteAt bytes 1) = true then .reply (slice bytes 2 (byteAt bytes 1))
    else .discarded
  | _ => .discarded

/-- R50, R211: a PASS packet. -/
def passPacket (command : List Byte) : List Byte := withCheck (toLe 1 6 ++ toLe 1 command.length ++ command)

/-- What the display link unit finds in a delivered return cell (R143). -/
inductive ReturnCell where
  | monitorStatus (lux : BitVec 16) (backlightFault : Bool)
  | signature (seq : Seq) (value : Check)
  | request (tag kind channel item : Byte) (payload : List Byte)
  /-- A failed check, an unknown kind, a bad backlight code or a REQUEST payload over 48 bytes. -/
  | discarded
  deriving DecidableEq, Repr

/-- R143, R210, R212: reads a delivered return cell. -/
def readReturnCell (bytes : List Byte) : ReturnCell :=
  match byteAt bytes 0 with
  | 16 =>
    if checkPasses bytes 8 ∧ byteAt bytes 3 ≤ 1 then
      .monitorStatus (BitVec.ofNat 16 (le16 bytes 1)) (byteAt bytes 3 == 1)
    else .discarded
  | 17 =>
    if checkPasses bytes 11 then .signature (BitVec.ofNat 16 (le16 bytes 1)) (BitVec.ofNat 32 (le32 bytes 3))
    else .discarded
  | 18 =>
    if byteAt bytes 5 ≤ 48 ∧ checkPasses bytes (10 + byteAt bytes 5) = true then
      .request (bytes.getD 1 0) (bytes.getD 2 0) (bytes.getD 3 0) (bytes.getD 4 0) (slice bytes 6 (byteAt bytes 5))
    else .discarded
  | _ => .discarded

/-- R212: the request kinds. -/
inductive RequestKind where
  | query | set | tableOpen | tableData | tableCommit | tableAbandon | tableLock | faultAck | faultClear | viewRestart
  | timing | cameraPass | coverageWrite | coverageFix | partReset | unknown
  deriving DecidableEq, Repr

/-- R212: a request's kind, by its code. -/
def Request.kindOf (r : Request) : RequestKind :=
  match r.kind.toNat with
  | 1 => .query
  | 2 => .set
  | 3 => .tableOpen
  | 4 => .tableData
  | 5 => .tableCommit
  | 6 => .tableAbandon
  | 7 => .tableLock
  | 8 => .faultAck
  | 9 => .faultClear
  | 10 => .viewRestart
  | 11 => .timing
  | 12 => .cameraPass
  | 13 => .coverageWrite
  | 14 => .coverageFix
  | 15 => .partReset
  | _ => .unknown

/-- R212: L or R in a channel field. -/
def channelOf (code : Byte) : Option Channel :=
  match code.toNat with
  | 0 => some .left
  | 1 => some .right
  | _ => none

/-- R212, R185: L, R or the part in a channel field, as the channels it names. -/
def channelsNamed (code : Byte) : Option (List Channel) :=
  match code.toNat with
  | 0 => some [.left]
  | 1 => some [.right]
  | 2 => some [.left, .right]
  | _ => none

/-- The code of a channel or a link in a query record (R215), 0 for L and 1 for R. R212 gives these codes for a REQUEST only
(DESIGN CHOICE, assumption 37). -/
def channelCode : Channel → Nat
  | .left => 0
  | .right => 1

/-- R214: the record kinds of QUERY. -/
inductive RecordKind where
  | identity | channel | buffer | tile | faultEntry | history | table | parameter | coverage | timing | pass
  deriving DecidableEq, Repr

/-- R202, R214: the record a QUERY names; none when its payload is not 1 byte or its record kind is unknown. -/
def Request.recordKind (r : Request) : Option RecordKind :=
  match r.payload.map BitVec.toNat with
  | [0] => some .identity
  | [1] => some .channel
  | [2] => some .buffer
  | [3] => some .tile
  | [4] => some .faultEntry
  | [5] => some .history
  | [6] => some .table
  | [7] => some .parameter
  | [8] => some .coverage
  | [9] => some .timing
  | [10] => some .pass
  | _ => none

/-- R22, R214: the action of a TABLE-LOCK. -/
inductive LockAction where
  | lock | unlock | lockDown
  deriving DecidableEq, Repr

/-- R22, R214: the action a TABLE-LOCK names; none when its payload is not 1 byte or names none. -/
def Request.lockAction (r : Request) : Option LockAction :=
  match r.payload.map BitVec.toNat with
  | [0] => some .lock
  | [1] => some .unlock
  | [2] => some .lockDown
  | _ => none

/-- R168, R214: the setting a TIMING request's item names. -/
inductive TimingItem where
  | tracker | bandwidth | source
  deriving DecidableEq, Repr

def Request.timingItem (r : Request) : Option TimingItem :=
  match r.item.toNat with
  | 0 => some .tracker
  | 1 => some .bandwidth
  | 2 => some .source
  | _ => none

/-- R213: the code of a result. -/
def Result.code : Result → Nat
  | .ok => 0
  | .clamped => 1
  | .busy => 2
  | .sequence => 3
  | .order => 4
  | .length => 5
  | .locked => 6
  | .drivingProtected => 7
  | .invalid => 8
  | .checksum => 9
  | .coverage => 10
  | .range => 11
  | .unknown => 12
  | .notLocked => 13
  | .inUse => 14
  | .fixed => 15
  | .serviceOnly => 16
  | .meshConflict => 17
  | .timeout => 18
  | .aborted => 19

/-- R213: an answer cell. -/
def Answer.cell (a : Answer) : List Byte :=
  withCheck (toLe 1 33 ++ [a.tag, a.kind] ++ toLe 1 a.result.code ++ toLe 1 a.payload.length ++ a.payload)

/-- R209: the answer to a PART-RESET that was taken. -/
def Answer.isPartReset (a : Answer) : Bool := a.kind == 15 && a.result == .ok

end Sys2Proof.Machine
end

