-- ==== Sys2Proof/Machine/Ops.lean ====
section
/-! DEFINITION. The named operations over the state: one home for each read and write, shared by the meanings. -/

namespace Sys2Proof.Machine

/-! ## Writes of one part of the state -/

def State.setReceiver (s : State) (ch : Channel) (x : Receiver) : State := { s with receiver := s.receiver.set ch x }
def State.setStore (s : State) (ch : Channel) (x : FrameStore) : State := { s with store := s.store.set ch x }
def State.setView (s : State) (ch : Channel) (x : ViewControl) : State := { s with view := s.view.set ch x }
def State.setGlare (s : State) (ch : Channel) (x : Glare) : State := { s with glare := s.glare.set ch x }
def State.setLink (s : State) (ch : Channel) (x : LinkUnit) : State := { s with link := s.link.set ch x }
def State.setTiming (s : State) (ch : Channel) (x : LinkTiming) : State := { s with timing := s.timing.set ch x }
def State.setEntries (s : State) (ch : Channel) (x : FaultEntries) : State := { s with entries := s.entries.set ch x }
def State.setCoverage (s : State) (ch : Channel) (x : Coverage) : State := { s with coverage := s.coverage.set ch x }
def State.setParams (s : State) (ch : Channel) (x : ChannelParams) : State := { s with params := s.params.set ch x }
def State.setPending (s : State) (ch : Channel) (x : List PendingValue) : State :=
  { s with pendingParams := s.pendingParams.set ch x }
def State.setOutputs (s : State) (ch : Channel) (x : Outputs) : State := { s with outputs := s.outputs.set ch x }
def State.setTables (s : State) (x : TableStore) : State := { s with tables := x }
def State.setAgent (s : State) (x : Agent) : State := { s with agent := x }

/-! ## Reset -/

/-- R207: the part is held in reset while any of the conditions holds. -/
def State.held (s : State) : Bool := s.hold.powerOn || s.hold.resetN || s.hold.clockAbsent

/-- R207: while the part is held in reset it takes no packet, no cell and no event of its own; otherwise the command has
its effect. -/
def whenRunning (s : State) (effect : State → State) : Host.Outcome State Fault Refusal :=
  .next (if s.held then s else effect s)

/-! ## The tables -/

/-- R2: the id of a table. -/
def TableId.number : TableId → Nat
  | .develop .left => 0
  | .develop .right => 1
  | .defectList .left => 2
  | .defectList .right => 3
  | .warpMesh .left => 4
  | .warpMesh .right => 5
  | .toneCurves .left => 6
  | .toneCurves .right => 7
  | .glareResponse .left => 8
  | .glareResponse .right => 9
  | .overlaySet .left => 10
  | .overlaySet .right => 11
  | .faultActions => 12

/-- R2, R11: the table of an id; none outside 0..12. -/
def tableOfNumber (n : Nat) : Option TableId :=
  match n with
  | 0 => some (.develop .left)
  | 1 => some (.develop .right)
  | 2 => some (.defectList .left)
  | 3 => some (.defectList .right)
  | 4 => some (.warpMesh .left)
  | 5 => some (.warpMesh .right)
  | 6 => some (.toneCurves .left)
  | 7 => some (.toneCurves .right)
  | 8 => some (.glareResponse .left)
  | 9 => some (.glareResponse .right)
  | 10 => some (.overlaySet .left)
  | 11 => some (.overlaySet .right)
  | 12 => some .faultActions
  | _ => none

/-- The directory entry of a table (R10). -/
def TableStore.get (ts : TableStore) : TableId → TableEntry
  | .develop ch => ts.develop.get ch
  | .defectList ch => ts.defectList.get ch
  | .warpMesh ch => ts.warpMesh.get ch
  | .toneCurves ch => ts.toneCurves.get ch
  | .glareResponse ch => ts.glareResponse.get ch
  | .overlaySet ch => ts.overlaySet.get ch
  | .faultActions => ts.faultActions

/-- The store with one directory entry replaced. -/
def TableStore.set (ts : TableStore) (t : TableId) (e : TableEntry) : TableStore :=
  match t with
  | .develop ch => { ts with develop := ts.develop.set ch e }
  | .defectList ch => { ts with defectList := ts.defectList.set ch e }
  | .warpMesh ch => { ts with warpMesh := ts.warpMesh.set ch e }
  | .toneCurves ch => { ts with toneCurves := ts.toneCurves.set ch e }
  | .glareResponse ch => { ts with glareResponse := ts.glareResponse.set ch e }
  | .overlaySet ch => { ts with overlaySet := ts.overlaySet.set ch e }
  | .faultActions => { ts with faultActions := e }

/-- The directory entry of a table (R10). -/
def State.table (s : State) (t : TableId) : TableEntry := s.tables.get t

/-- Writes a directory entry. -/
def State.setTable (s : State) (t : TableId) (e : TableEntry) : State := s.setTables (s.tables.set t e)

/-- Writes a staged bank. -/
def State.setStaged (s : State) (t : TableId) (x : Staged) : State := s.setTable t { s.table t with staged := x }

/-- R2: the channels a table belongs to, left first (R172). -/
def TableId.channels : TableId → List Channel
  | .develop ch | .defectList ch | .warpMesh ch | .toneCurves ch | .glareResponse ch | .overlaySet ch => [ch]
  | .faultActions => [.left, .right]

/-- R2: the tables of a channel, in id order. -/
def channelTables (ch : Channel) : List TableId :=
  [.develop ch, .defectList ch, .warpMesh ch, .toneCurves ch, .glareResponse ch, .overlaySet ch, .faultActions]

/-- The table is VALID. -/
def State.isValid (s : State) (t : TableId) : Bool := (s.table t).active.state == .valid

/-- R20, R26: the lowest CORRUPT id of a channel's tables. -/
def State.lowestCorrupt (s : State) (ch : Channel) : Option Nat :=
  ((channelTables ch).find? fun t => (s.table t).active.state == .corrupt).map TableId.number

/-- R61: the channel's warp mesh is VALID. -/
def State.meshValid (s : State) (ch : Channel) : Bool := s.isValid (.warpMesh ch)

/-! ## Frame buffers -/

def FrameStore.get (fs : FrameStore) : BufferId → Buffer
  | .b0 => fs.b0
  | .b1 => fs.b1
  | .b2 => fs.b2

def FrameStore.set (fs : FrameStore) (b : BufferId) (x : Buffer) : FrameStore :=
  match b with
  | .b0 => { fs with b0 := x }
  | .b1 => { fs with b1 := x }
  | .b2 => { fs with b2 := x }

/-- The code of a buffer, 0 to 2. -/
def BufferId.number : BufferId → Nat
  | .b0 => 0
  | .b1 => 1
  | .b2 => 2

def Buffer.isFree : Buffer → Bool
  | .free => true
  | _ => false

def Buffer.isFilling : Buffer → Bool
  | .filling _ => true
  | _ => false

def Buffer.isReady : Buffer → Bool
  | .ready _ _ => true
  | _ => false

def Buffer.isShown : Buffer → Bool
  | .shown _ _ _ => true
  | _ => false

/-- The picture a buffer holds. -/
def Buffer.picture : Buffer → Option Picture
  | .free => none
  | .filling p | .ready p _ | .shown p _ _ => some p

/-- The lowest-numbered buffer that a test holds of. -/
def FrameStore.find (fs : FrameStore) (p : Buffer → Bool) : Option BufferId :=
  if p fs.b0 then some .b0 else if p fs.b1 then some .b1 else if p fs.b2 then some .b2 else none

/-- Every buffer that a test holds of becomes FREE. -/
def FrameStore.freeWhere (fs : FrameStore) (p : Buffer → Bool) : FrameStore :=
  { fs with
    b0 := if p fs.b0 then .free else fs.b0
    b1 := if p fs.b1 then .free else fs.b1
    b2 := if p fs.b2 then .free else fs.b2 }

/-- R69: a READY buffer exists. -/
def FrameStore.hasReady (fs : FrameStore) : Bool := (fs.find Buffer.isReady).isSome

/-- R56: the lowest-numbered FREE buffer becomes FILLING with an arrival time and a frame size. -/
def FrameStore.fill (fs : FrameStore) (arrival : Time) (width height : Nat) : FrameStore × Option BufferId :=
  match fs.find Buffer.isFree with
  | none => (fs, none)
  | some b => (fs.set b (.filling { arrival := arrival, width := width, height := height, rows := [] }), some b)

/-- R57, Discard: the FILLING buffer becomes FREE. -/
def FrameStore.discard (fs : FrameStore) : FrameStore := fs.freeWhere Buffer.isFilling

/-- R57, Complete: the READY buffer, if any, is superseded and becomes FREE; the FILLING buffer becomes READY. -/
def FrameStore.complete (fs : FrameStore) (counter : BitVec 16) : FrameStore :=
  match fs.find Buffer.isFilling with
  | none => fs
  | some b =>
    match fs.get b with
    | .filling p => (fs.freeWhere Buffer.isReady).set b (.ready p counter)
    | _ => fs

/-- R58, Take: the SHOWN buffer, if any, becomes FREE and the READY buffer becomes SHOWN with times shown 1. -/
def FrameStore.take (fs : FrameStore) : FrameStore :=
  match fs.find Buffer.isReady with
  | none => fs
  | some b =>
    match fs.get b with
    | .ready p counter => (fs.freeWhere Buffer.isShown).set b (.shown p counter 1)
    | _ => fs

/-- R58, Repeat: times shown rises by one, stopping at 255. -/
def FrameStore.repeatShown (fs : FrameStore) : FrameStore :=
  match fs.find Buffer.isShown with
  | none => fs
  | some b =>
    match fs.get b with
    | .shown p counter times => fs.set b (.shown p counter (min 255 (times + 1)))
    | _ => fs

/-- R59: a released SHOWN buffer becomes FREE. -/
def FrameStore.freeReleased (fs : FrameStore) : FrameStore :=
  if fs.released then { fs.freeWhere Buffer.isShown with released := false } else fs

/-- R59: releases the SHOWN buffer; with an active line in progress it becomes FREE at that line's end. -/
def FrameStore.release (fs : FrameStore) (lineInProgress : Bool) : FrameStore :=
  if (fs.find Buffer.isShown).isSome then
    if lineInProgress then { fs with released := true }
    else { fs.freeWhere Buffer.isShown with released := false }
  else fs

/-- The picture and times shown of the SHOWN buffer. -/
def FrameStore.shownPicture (fs : FrameStore) : Option (Picture × Nat) :=
  match fs.find Buffer.isShown with
  | none => none
  | some b =>
    match fs.get b with
    | .shown p _ times => some (p, times)
    | _ => none

/-! ## Requests, slots and answers -/

/-- R196: the COMMIT and CAMERA-PASS requests of a link whose answers are held. -/
def State.heldCommits (s : State) (link : Channel) : Nat :=
  ((channelTables .left).dropLast ++ (channelTables .right)).countP fun t =>
    match (s.table t).staged with
    | .verifying load _ _ => load.owner == link
    | _ => false

def PassRecord.heldOn (p : PassRecord) (link : Channel) : Nat :=
  match p with
  | .waiting l _ _ => if l = link then 1 else 0
  | .idle => 0

/-- R196: the slots held on a link: its QUEUED, HELD and ANSWERED requests and the one the agent is executing. -/
def State.slotsHeld (s : State) (link : Channel) : Nat :=
  (s.link.get link).requests.length + (s.link.get link).answers.length + s.heldCommits link
    + (s.receiver.left.pass.heldOn link + s.receiver.right.pass.heldOn link)
    + (match s.agent.executing with
       | some r => if r.link = link then 1 else 0
       | none => 0)

/-- R142: an answer joins the tail of a link's answer queue. -/
def State.answer (s : State) (link : Channel) (a : Answer) : State :=
  s.setLink link { s.link.get link with answers := (s.link.get link).answers ++ [a] }

/-- R199: the execution ends and the agent becomes FREE. -/
def State.freeAgent (s : State) : State := s.setAgent { s.agent with executing := none }

/-- R199, Answered: the request's answer joins its link's queue and the agent becomes FREE. -/
def State.finish (s : State) (r : Request) (result : Result) (payload : List Byte) : State :=
  (s.answer r.link { tag := r.tag, kind := r.kind, result := result, payload := payload }).freeAgent

/-- R199: the moment the execution of a request of this command's row ends. With the agent FREE, or executing a request of
another row, no such moment comes (DESIGN CHOICE, assumption 4). -/
def whenExecuting (s : State) (row : Request → Bool) (effect : State → Request → State) :
    Host.Outcome State Fault Refusal :=
  whenRunning s fun s =>
    match s.agent.executing with
    | some r => if row r then effect s r else s
    | none => s

/-! ## Counters -/

/-- A count that stops at 255. -/
def upTo255 (n : Nat) : Nat := min 255 (n + 1)

/-- A time difference, modulo 2^32, read as signed (00_scope.md, Time). -/
def timeDiff (a b : Time) : Int := (a - b).toInt

end Sys2Proof.Machine
end

