-- ==== Sys2Proof/Machine/Flags.lean ====
section
/-! DEFINITION. The flags computed from the state: what an entry drives, FAULT_N, the sixteen overlay conditions and the
flag words of the header cell. -/

namespace Sys2Proof.Machine

/-! ## Fault entries -/

/-- R173: the kinds in number order. -/
def allKinds : List FaultKind :=
  [.camLost, .camFrozen, .camSkip, .camSensor, .frameMalformed, .viewStale, .latency, .dispMismatch, .dispSilent,
   .dispBacklight, .tableCorrupt, .genlockLost, .glareSaturated]

/-- R173: the number of a kind, 1 to 13. -/
def FaultKind.number : FaultKind → Nat
  | .camLost => 1
  | .camFrozen => 2
  | .camSkip => 3
  | .camSensor => 4
  | .frameMalformed => 5
  | .viewStale => 6
  | .latency => 7
  | .dispMismatch => 8
  | .dispSilent => 9
  | .dispBacklight => 10
  | .tableCorrupt => 11
  | .genlockLost => 12
  | .glareSaturated => 13

/-- R173, R195: the kind of a number; none outside 1..13. -/
def kindOfNumber (n : Nat) : Option FaultKind := allKinds.find? fun k => k.number == n

def FaultEntries.get (es : FaultEntries) : FaultKind → FaultEntry
  | .camLost => es.camLost
  | .camFrozen => es.camFrozen
  | .camSkip => es.camSkip
  | .camSensor => es.camSensor
  | .frameMalformed => es.frameMalformed
  | .viewStale => es.viewStale
  | .latency => es.latency
  | .dispMismatch => es.dispMismatch
  | .dispSilent => es.dispSilent
  | .dispBacklight => es.dispBacklight
  | .tableCorrupt => es.tableCorrupt
  | .genlockLost => es.genlockLost
  | .glareSaturated => es.glareSaturated

def FaultEntries.set (es : FaultEntries) (k : FaultKind) (e : FaultEntry) : FaultEntries :=
  match k with
  | .camLost => { es with camLost := e }
  | .camFrozen => { es with camFrozen := e }
  | .camSkip => { es with camSkip := e }
  | .camSensor => { es with camSensor := e }
  | .frameMalformed => { es with frameMalformed := e }
  | .viewStale => { es with viewStale := e }
  | .latency => { es with latency := e }
  | .dispMismatch => { es with dispMismatch := e }
  | .dispSilent => { es with dispSilent := e }
  | .dispBacklight => { es with dispBacklight := e }
  | .tableCorrupt => { es with tableCorrupt := e }
  | .genlockLost => { es with genlockLost := e }
  | .glareSaturated => { es with glareSaturated := e }

/-- The same change made to each of the thirteen entries. -/
def FaultEntries.map (f : FaultEntry → FaultEntry) (es : FaultEntries) : FaultEntries :=
  { camLost := f es.camLost, camFrozen := f es.camFrozen, camSkip := f es.camSkip, camSensor := f es.camSensor
    frameMalformed := f es.frameMalformed, viewStale := f es.viewStale, latency := f es.latency
    dispMismatch := f es.dispMismatch, dispSilent := f es.dispSilent, dispBacklight := f es.dispBacklight
    tableCorrupt := f es.tableCorrupt, genlockLost := f es.genlockLost, glareSaturated := f es.glareSaturated }

/-- How many of the thirteen entries a test holds of. -/
def FaultEntries.count (p : FaultEntry → Bool) (es : FaultEntries) : Nat := allKinds.countP fun k => p (es.get k)

/-- A test holds of at least one of the thirteen entries. -/
def FaultEntries.any (p : FaultEntry → Bool) (es : FaultEntries) : Bool := allKinds.any fun k => p (es.get k)

/-- The entry of a channel and kind (R172). -/
def State.entry (s : State) (ch : Channel) (k : FaultKind) : FaultEntry := (s.entries.get ch).get k

/-- Writes an entry. -/
def State.setEntry (s : State) (ch : Channel) (k : FaultKind) (e : FaultEntry) : State :=
  s.setEntries ch ((s.entries.get ch).set k e)

/-- R182: an entry drives its applied action while it is ACTIVE, RECOVERING or LATCHED. -/
def FaultEntry.drives (e : FaultEntry) : Bool :=
  e.state == .active || e.state == .recovering || e.state == .latched

/-- R62, R182: the entry drives HOLD or FALLBACK. -/
def FaultEntry.withholds (e : FaultEntry) : Bool := e.drives && e.applied.action != .report

/-- R141: the header's active flag of the entry. -/
def FaultEntry.isActive (e : FaultEntry) : Bool := e.state == .active || e.state == .recovering

/-- R141: the header's latched flag of the entry. -/
def FaultEntry.isLatched (e : FaultEntry) : Bool := e.state == .latched

/-- R127: the entry makes WARN true. -/
def FaultEntry.warns (e : FaultEntry) : Bool := e.isActive && e.applied.action == .report

/-- R62: some entry of the channel drives HOLD or FALLBACK. -/
def State.withheld (s : State) (ch : Channel) : Bool := (s.entries.get ch).any FaultEntry.withholds

/-- R187: the part asserts FAULT_N exactly while some entry of either channel holds the unacknowledged mark. -/
def State.faultN (s : State) : Bool :=
  s.entries.left.any FaultEntry.unacknowledged || s.entries.right.any FaultEntry.unacknowledged

/-- R174, R214: the code of an action. -/
def Action.code : Action → Nat
  | .report => 0
  | .hold => 1
  | .fallback => 2

/-- R9, R215: action values, coded as a Fault Actions entry. -/
def ActionValues.bytes (v : ActionValues) : List Byte :=
  toLe 1 v.action.code ++ toLe 1 v.debounce ++ toLe 1 v.recovery ++ boolByte v.latch ++ boolByte v.assertLine

/-! ## Overlay conditions -/

/-- R107, R116: the number of tiles in GLARE. -/
def Glare.tilesInGlare (g : Glare) : Nat := g.tiles.countP fun t => t.state == .glare

/-- R126: the sixteen conditions, code 0 first, for a record of the given view state, mesh and night flag, from the sources
as they stand. -/
def State.conditionList (s : State) (ch : Channel) (view : ViewState) (mesh : Option MeshChoice) (night : Bool) :
    List Bool :=
  [ true,                                              -- ALWAYS
    night,                                             -- NIGHT
    !night,                                            -- DAY
    0 < (s.glare.get ch).tilesInGlare,                 -- GLARE
    (s.glare.get ch).tilesInGlare == 0,                -- NO-GLARE
    s.pins.turn.get ch,                                -- TURN
    s.pins.reverse,                                    -- REVERSE
    view == .hold,                                     -- HOLD
    view == .fallback,                                 -- FALLBACK
    view == .hold || view == .fallback,                -- DEGRADED
    view == .live,                                     -- LIVE
    (s.entries.get ch).any FaultEntry.warns,           -- WARN
    mesh == some .turn,                                -- PANNED
    s.faultN,                                          -- FAULT-LINE
    s.pins.drive,                                      -- DRIVE
    false ]                                            -- NEVER

/-- R126: the conditions as the record holds them, condition c in bit c. -/
def State.conditions (s : State) (ch : Channel) (view : ViewState) (mesh : Option MeshChoice) (night : Bool) :
    BitVec 16 :=
  BitVec.ofNat 16 (bitsOf (s.conditionList ch view mesh night))

/-! ## Header flags -/

/-- R213: a flag word with bit k − 1 for fault kind k. -/
def FaultEntries.flagWord (p : FaultEntry → Bool) (es : FaultEntries) : Nat :=
  bitsOf (allKinds.map fun k => p (es.get k))

/-- R213: the code of a view state. -/
def ViewState.code : ViewState → Nat
  | .start => 0
  | .live => 1
  | .hold => 2
  | .fallback => 3

/-- R213: the code of a tracker state. -/
def TrackerState.code : TrackerState → Nat
  | .off => 0
  | .acquire => 1
  | .track => 2
  | .holdover => 3

end Sys2Proof.Machine
end

