-- ==== Sys2Proof/Machine/View.lean ====
section
/-! DEFINITION. The view controller's reactions (R59 to R66, R70): releases, amendments, and entries to HOLD and FALLBACK. -/

namespace Sys2Proof.Machine

/-- R100: a map reset. -/
def Glare.mapReset (g : Glare) : Glare :=
  { g with tiles := List.replicate 80 .reset, last := List.replicate 80 0 }

/-- R100: the channel's tile map is reset. -/
def State.mapReset (s : State) (ch : Channel) : State := s.setGlare ch (s.glare.get ch).mapReset

/-- R59: the channel's SHOWN buffer is released. -/
def State.releaseShown (s : State) (ch : Channel) : State :=
  s.setStore ch ((s.store.get ch).release (s.link.get ch).frame.lineInProgress.isSome)

/-- R65, R70, R128: the record is amended to a view state without a buffer, and its conditions are evaluated anew. -/
def State.amendRecord (s : State) (ch : Channel) (view : ViewState) : State :=
  match (s.view.get ch).record with
  | none => s
  | some r =>
    s.setView ch { s.view.get ch with
      record := some { r with
        view := view, buffer := none, fresh := false, mesh := none
        conditions := s.conditions ch view none r.night } }

/-- The view state and hold timer. -/
def State.setViewState (s : State) (ch : Channel) (view : ViewState) (timer : Nat) : State :=
  s.setView ch { s.view.get ch with state := view, holdTimer := timer }

/-- R65: the view enters FALLBACK. -/
def State.enterFallback (s : State) (ch : Channel) : State :=
  (((s.releaseShown ch).setViewState ch .fallback 0).mapReset ch).amendRecord ch .fallback

/-- R63, R66: an entry of the channel begins to drive FALLBACK. -/
def State.onDriveFallback (s : State) (ch : Channel) : State :=
  if (s.view.get ch).state = .fallback then s else s.enterFallback ch

/-- R63: an entry of the channel begins to drive HOLD. -/
def State.onDriveHold (s : State) (ch : Channel) : State :=
  if (s.view.get ch).state = .live then s.setViewState ch .hold 0 else s

/-- R63, R66: the channel's warp mesh becomes not VALID. -/
def State.onMeshLost (s : State) (ch : Channel) : State :=
  if (s.view.get ch).state = .live ∨ (s.view.get ch).state = .hold then s.enterFallback ch else s

end Sys2Proof.Machine
end

