-- ==== Sys2Proof/Machine/Faults.lean ====
section
/-! DEFINITION. The fault supervisor: evaluations (R172 to R182), the fault history (R190), FAULT-CLEAR, FAULT-ACK and the
restart of a channel's entries. -/

namespace Sys2Proof.Machine

/-- R9, R216: the action values of item `i` of a Fault Actions table. A VALID bank whose bytes were upset and are not yet
scrubbed may hold codes that R9 bars, and the manual gives them no meaning: an action code above 2 is read as FALLBACK, a
latch or assert-line byte other than 1 as no (DESIGN CHOICE, assumption 36). -/
def actionItem (bytes : List Byte) (i : Nat) : ActionValues :=
  { action := match byteAt bytes (5 * i) with
      | 0 => .report
      | 1 => .hold
      | _ => .fallback
    debounce := byteAt bytes (5 * i + 1)
    recovery := byteAt bytes (5 * i + 2)
    latch := byteAt bytes (5 * i + 3) == 1
    assertLine := byteAt bytes (5 * i + 4) == 1 }

/-- R174: the action values in force for a kind. -/
def State.valuesInForce (s : State) (k : FaultKind) : ActionValues :=
  if s.isValid .faultActions then actionItem s.tables.faultActions.active.bytes (k.number - 1) else k.builtIn

/-- R177, the Observation column: the state, the run, and whether it is a new activation. -/
def FaultEntry.observed (e : FaultEntry) : EntryState × Nat × Bool :=
  match e.state with
  | .inactive => if e.applied.debounce ≤ 1 then (.active, 0, true) else (.pending, 1, false)
  | .pending => if e.applied.debounce ≤ e.run + 1 then (.active, 0, true) else (.pending, e.run + 1, false)
  | .active => (.active, 0, false)
  | .recovering => (.active, 0, false)
  | .latched => (.active, 0, true)

/-- R177: where a recovery that ends leads. -/
def FaultEntry.recovered (e : FaultEntry) : EntryState := if e.applied.latch then .latched else .inactive

/-- R177, the Clean evaluation column. -/
def FaultEntry.clean (e : FaultEntry) : EntryState × Nat :=
  match e.state with
  | .inactive => (.inactive, 0)
  | .pending => (.inactive, 0)
  | .active => if e.applied.recovery ≤ 1 then (e.recovered, 0) else (.recovering, 1)
  | .recovering => if e.applied.recovery ≤ e.run + 1 then (e.recovered, 0) else (.recovering, e.run + 1)
  | .latched => (.latched, 0)

/-- R178: what a new activation writes into the entry. -/
def FaultEntry.activate (e : FaultEntry) (now : Time) (seq : Seq) : FaultEntry :=
  { e with
    occurrences := upTo255 e.occurrences
    first := if e.occurrences = 0 then some ⟨now, seq⟩ else e.first
    last := some ⟨now, seq⟩
    unacknowledged := e.unacknowledged || e.applied.assertLine }

/-- R176, R178: an entry takes one evaluation, `none` being clean and `some d` an observation with detail d; whether it is a
new activation. -/
def FaultEntry.evaluate (e : FaultEntry) (values : ActionValues) (outcome : Option Nat) (now : Time) (seq : Seq) :
    FaultEntry × Bool :=
  let e := { e with applied := values }
  match outcome with
  | none => ({ e with state := e.clean.1, run := e.clean.2 }, false)
  | some d =>
    let moved := { e with detail := some d, state := e.observed.1, run := e.observed.2.1 }
    if e.observed.2.2 then (moved.activate now seq, true) else (moved, false)

/-- R182: the action the entry begins to drive at an evaluation that changed it from `before` to `after`. -/
def beginsToDrive (before after : FaultEntry) : Option Action :=
  if after.drives then
    if before.drives then
      if before.applied.action = after.applied.action then none else some after.applied.action
    else some after.applied.action
  else none

/-- R190: a record is written, newest first, the oldest of 32 being overwritten. -/
def State.writeHistory (s : State) (h : HistoryRecord) : State :=
  { s with history := (h :: s.history).take 32, historyCount := s.historyCount + 1 }

/-- R182: the view controller is told that an entry has begun to drive. -/
def State.tellView (s : State) (ch : Channel) (a : Option Action) : State :=
  match a with
  | some .hold => s.onDriveHold ch
  | some .fallback => s.onDriveFallback ch
  | some .report => s
  | none => s

/-- R172, R176 to R182: an evaluation of a kind for a channel. The seq of an activation is that of the channel's display
frame whose start was taken last (R179). -/
def State.evaluate (s : State) (ch : Channel) (k : FaultKind) (outcome : Option Nat) : State :=
  let seq := (s.link.get ch).frameSeq
  let before := s.entry ch k
  let after := before.evaluate (s.valuesInForce k) outcome s.counter seq
  let s := s.setEntry ch k after.1
  let s :=
    if after.2 then
      s.writeHistory { kind := k, channel := ch, time := s.counter, seq := seq, detail := outcome.getD 0 }
    else s
  s.tellView ch (beginsToDrive before after.1)

/-- R20, R26: an evaluation of TABLE_CORRUPT for a channel: clean when none of its tables is CORRUPT, else an observation
with the lowest CORRUPT id. -/
def State.evaluateTableCorrupt (s : State) (ch : Channel) : State := s.evaluate ch .tableCorrupt (s.lowestCorrupt ch)

/-- R185: a LATCHED entry becomes INACTIVE. -/
def FaultEntry.clearLatched (e : FaultEntry) : FaultEntry :=
  if e.isLatched then { e with state := .inactive, run := 0 } else e

/-- R188: the unacknowledged mark is cleared. -/
def FaultEntry.acknowledge (e : FaultEntry) : FaultEntry := { e with unacknowledged := false }

/-- R193: VIEW-RESTART of the entry's channel. -/
def FaultEntry.restart (e : FaultEntry) : FaultEntry :=
  { e with state := .inactive, run := 0, unacknowledged := false }

end Sys2Proof.Machine
end

