-- ==== Sys2Proof/Machine/Tables.lean ====
section
/-! DEFINITION. The contents of the thirteen tables: legal lengths (R2), validity rules (R3 to R9), the envelope check
(R33), the decoded contents (R216) and the defaults (R29). -/

namespace Sys2Proof.Machine

/-! ## Legal lengths (R2) -/

/-- R2: the kind's legal lengths. -/
def TableId.legalLength (t : TableId) (n : Nat) : Bool :=
  match t with
  | .develop _ => n == 27
  | .defectList _ => 2 ≤ n && n ≤ 4098 && (n - 2) % 4 == 0
  | .warpMesh _ => n == 793 || n == 1585
  | .toneCurves _ => n == 130
  | .glareResponse _ => n == 32
  | .overlaySet _ => 3 ≤ n && n ≤ 33059
  | .faultActions => n == 65

/-! ## Validity (R3 to R9): the lowest offending item -/

/-- The lowest of the items 0 to n − 1 that offends. -/
def lowestItem (n : Nat) (offends : Nat → Bool) : Option Nat := (List.range n).find? offends

/-- R3. -/
def developOffends (bs : List Byte) (item : Nat) : Bool :=
  if item = 0 then 1023 < le16 bs 0
  else if item = 1 then 3 < byteAt bs 2
  else if item ≤ 10 then
    decide (signed16 bs (3 + 2 * (item - 2)) < -4096) || decide (4095 < signed16 bs (3 + 2 * (item - 2)))
  else decide (signed16 bs (21 + 2 * (item - 11)) < -2048) || decide (2047 < signed16 bs (21 + 2 * (item - 11)))

/-- R4, R216: entry `k` of a Defect List, {column, row}. -/
def defectEntry (bs : List Byte) (k : Nat) : Nat × Nat := (le16 bs (2 + 4 * k), le16 bs (4 + 4 * k))

/-- R4: `e` comes strictly after `d`. -/
def defectAfter (d e : Nat × Nat) : Bool := d.2 < e.2 || (d.2 == e.2 && d.1 < e.1)

/-- R4. -/
def defectOffends (bs : List Byte) (item : Nat) : Bool :=
  match item with
  | 0 => 4 * le16 bs 0 + 2 != bs.length
  | k + 1 =>
    2047 < (defectEntry bs k).1 || 1535 < (defectEntry bs k).2
      || (1 ≤ k && !defectAfter (defectEntry bs (k - 1)) (defectEntry bs k))

/-- R5, R216: point `p` of mesh `h`. -/
def meshPoint (bs : List Byte) (h p : Nat) : MeshPoint :=
  { sx := signed32 bs (1 + 792 * h + 8 * p), sy := signed32 bs (5 + 792 * h + 8 * p) }

/-- R5: a coordinate outside −1024..33,791. -/
def meshCoordOffends (c : Int) : Bool := decide (c < -1024) || decide (33791 < c)

/-- R5. -/
def meshOffends (bs : List Byte) (item : Nat) : Bool :=
  match item with
  | 0 => (byteAt bs 0 != 1 && byteAt bs 0 != 2) || 792 * byteAt bs 0 + 1 != bs.length
  | q + 1 =>
    meshCoordOffends (meshPoint bs (q / 99) (q % 99)).sx || meshCoordOffends (meshPoint bs (q / 99) (q % 99)).sy

/-- R6. -/
def toneOffends (bs : List Byte) (item : Nat) : Bool :=
  item != 0 && item != 65 && byteAt bs item < byteAt bs (item - 1)

/-- R7. -/
def responseOffends (bs : List Byte) (item : Nat) : Bool :=
  256 < le16 bs (2 * item) || (1 ≤ item && le16 bs (2 * (item - 1)) < le16 bs (2 * item))

/-- R8, R216: layer `i` of an Overlay Set. -/
def layerAt (bs : List Byte) (i : Nat) : Layer :=
  let o := 3 + 18 * i
  { x := signed16 bs o
    y := signed16 bs (o + 2)
    width := le16 bs (o + 4)
    height := le16 bs (o + 6)
    offset := le16 bs (o + 8)
    foreground := ⟨byteAt bs (o + 10), byteAt bs (o + 11), byteAt bs (o + 12)⟩
    background := ⟨byteAt bs (o + 13), byteAt bs (o + 14), byteAt bs (o + 15)⟩
    code := bs.getD (o + 16) 0
    condition := byteAt bs (o + 17) }

/-- R8, R121: the bytes of one row of a layer's mask, ceil(width/8). -/
def Layer.rowBytes (l : Layer) : Nat := (l.width + 7) / 8

/-- R8. -/
def overlayOffends (bs : List Byte) (item : Nat) : Bool :=
  match item with
  | 0 => 16 < byteAt bs 0
  | 1 => 32768 < le16 bs 1 || 3 + 18 * byteAt bs 0 + le16 bs 1 != bs.length
  | i + 2 =>
    let l := layerAt bs i
    l.width == 0 || l.height == 0 || 15 < l.condition || le16 bs 1 < l.offset + l.height * l.rowBytes

/-- R9. -/
def actionsOffends (bs : List Byte) (item : Nat) : Bool :=
  2 < byteAt bs (5 * item) || byteAt bs (5 * item + 1) == 0 || byteAt bs (5 * item + 2) == 0
    || 1 < byteAt bs (5 * item + 3) || 1 < byteAt bs (5 * item + 4)

/-- R3 to R9: the lowest-numbered offending item of a table's bytes; none when they are valid. -/
def TableId.offendingItem (t : TableId) (bs : List Byte) : Option Nat :=
  match t with
  | .develop _ => lowestItem 14 (developOffends bs)
  | .defectList _ => lowestItem (1 + le16 bs 0) (defectOffends bs)
  | .warpMesh _ => lowestItem (1 + 99 * byteAt bs 0) (meshOffends bs)
  | .toneCurves _ => lowestItem 130 (toneOffends bs)
  | .glareResponse _ => lowestItem 16 (responseOffends bs)
  | .overlaySet _ => lowestItem (2 + byteAt bs 0) (overlayOffends bs)
  | .faultActions => lowestItem 13 (actionsOffends bs)

/-! ## The envelope check (R33) -/

/-- R18: the edges, in their order. -/
inductive Edge where
  | lowX | highX | lowY | highY
  deriving DecidableEq, Repr

/-- R214: the code of an edge. -/
def edgeCode : Edge → Nat
  | .lowX => 0
  | .highX => 1
  | .lowY => 2
  | .highY => 3

/-- R216: mesh `h` of a Warp Mesh table, 99 points in storage order. -/
def meshOf (bs : List Byte) (h : Nat) : List MeshPoint := (List.range 99).map (meshPoint bs h)

/-- R81: the point at column `c` and row `r` of a mesh. -/
def meshAt (mesh : List MeshPoint) (c r : Nat) : MeshPoint := mesh.getD (9 * r + c) ⟨0, 0⟩

/-- The sum of a list of signed numbers. -/
def sumInt (xs : List Int) : Int := xs.foldl (· + ·) 0

/-- R33: one axis of the check. `first` and `last` are the two boundary lines; the one with the smaller sum, or `first` when
equal, is the low edge. Whether the low edge and the high edge pass. -/
def envelopeAxis (first last : List Int) (lo hi : Int) : Bool × Bool :=
  let swapped := sumInt last < sumInt first
  let low := if swapped then last else first
  let high := if swapped then first else last
  (low.all fun v => v ≤ lo, high.all fun v => hi ≤ v)

/-- R33, R18: the first failing edge of a mesh against a rectangle; none when it passes. -/
def envelopeFailure (mesh : List MeshPoint) (rect : Rect) : Option Edge :=
  let column (c : Nat) := (List.range 11).map fun r => (meshAt mesh c r).sx
  let row (r : Nat) := (List.range 9).map fun c => (meshAt mesh c r).sy
  let x := envelopeAxis (column 0) (column 8) (16 * rect.x0) (16 * rect.x1)
  let y := envelopeAxis (row 0) (row 10) (16 * rect.y0) (16 * rect.y1)
  if !x.1 then some .lowX else if !x.2 then some .highX else if !y.1 then some .lowY
  else if !y.2 then some .highY else none

/-- R17, R31: the first failing mesh of a Warp Mesh table (0 primary, 1 turn) and its edge. -/
def coverageFailure (bs : List Byte) (rect : Rect) : Option (Nat × Edge) :=
  match envelopeFailure (meshOf bs 0) rect with
  | some e => some (0, e)
  | none =>
    if byteAt bs 0 = 2 then (envelopeFailure (meshOf bs 1) rect).map fun e => (1, e) else none

/-- R30: the rectangle of a WRITTEN or FIXED record. -/
def Coverage.rect : Coverage → Option Rect
  | .unwritten => none
  | .written r | .fixed r => some r

/-! ## Outcomes of a verify (R17, R18) -/

/-- R18: the four outcomes. -/
inductive VerifyOutcome where
  | checksum (computed : Check)
  | invalid (item : Nat)
  | coverage (mesh : Nat) (edge : Edge)
  | ok
  deriving DecidableEq, Repr

/-- R17: the coverage check of a table's bytes; only a Warp Mesh with a WRITTEN or FIXED record has one. -/
def State.coverageCheck (s : State) (t : TableId) (bs : List Byte) : Option (Nat × Edge) :=
  match t with
  | .warpMesh ch =>
    match (s.coverage.get ch).rect with
    | some rect => coverageFailure bs rect
    | none => none
  | _ => none

/-- R17: the checks of a verify, in order. -/
def State.verifyOutcome (s : State) (t : TableId) (load : Load) (supplied : Check) : VerifyOutcome :=
  let bs := load.bytes.take load.declared
  if pairSum bs ≠ supplied then .checksum (pairSum bs)
  else
    match t.offendingItem bs with
    | some item => .invalid item
    | none =>
      match s.coverageCheck t bs with
      | some (mesh, edge) => .coverage mesh edge
      | none => .ok

/-! ## Decoded contents and defaults (R216, R29) -/

/-- R29: the default Develop table. -/
def DevelopTable.default : DevelopTable :=
  { black := 0, bayer := 0, matrix := [1024, 0, 0, 0, 1024, 0, 0, 0, 1024], offsets := [0, 0, 0] }

/-- R216: a Develop table's bytes. -/
def readDevelop (bs : List Byte) : DevelopTable :=
  { black := le16 bs 0
    bayer := byteAt bs 2
    matrix := (List.range 9).map fun k => signed16 bs (3 + 2 * k)
    offsets := (List.range 3).map fun o => signed16 bs (21 + 2 * o) }

/-- R29, R44: the Develop table in use: the VALID bank's contents or the default. -/
def State.developInUse (s : State) (ch : Channel) : DevelopTable :=
  if s.isValid (.develop ch) then readDevelop (s.table (.develop ch)).active.bytes else .default

/-- R29, R44: the Defect List in use, as {column, row} entries. -/
def State.defectsInUse (s : State) (ch : Channel) : List (Nat × Nat) :=
  let bs := (s.table (.defectList ch)).active.bytes
  if s.isValid (.defectList ch) then (List.range (le16 bs 0)).map (defectEntry bs) else []

/-- R5: the mesh count of the channel's Warp Mesh table. -/
def State.meshCount (s : State) (ch : Channel) : Nat := byteAt (s.table (.warpMesh ch)).active.bytes 0

/-- R80: the chosen mesh of the Warp Mesh table's active bank. -/
def State.meshInUse (s : State) (ch : Channel) (choice : MeshChoice) : List MeshPoint :=
  meshOf (s.table (.warpMesh ch)).active.bytes (match choice with | .primary => 0 | .turn => 1)

/-- R29, R88: the knots T[0] to T[64] of the curve a night flag chooses. -/
def State.knotsInUse (s : State) (ch : Channel) (night : Bool) : List Nat :=
  let bs := (s.table (.toneCurves ch)).active.bytes
  if s.isValid (.toneCurves ch) then (List.range 65).map fun k => byteAt bs (k + if night then 65 else 0)
  else (List.range 65).map fun k => min 255 (4 * k)

/-- R29, R104: the Glare Response in use, 16 entries. -/
def State.responseInUse (s : State) (ch : Channel) : List Nat :=
  let bs := (s.table (.glareResponse ch)).active.bytes
  if s.isValid (.glareResponse ch) then (List.range 16).map fun k => le16 bs (2 * k) else List.replicate 16 256

/-- R216: an Overlay Set's bytes. -/
def readOverlay (bs : List Byte) : OverlaySet :=
  { layers := (List.range (byteAt bs 0)).map (layerAt bs)
    pool := slice bs (3 + 18 * byteAt bs 0) (le16 bs 1) }

/-- R29, R119: the Overlay Set in use. -/
def State.overlayInUse (s : State) (ch : Channel) : OverlaySet :=
  if s.isValid (.overlaySet ch) then readOverlay (s.table (.overlaySet ch)).active.bytes
  else { layers := [], pool := [] }

end Sys2Proof.Machine
end

