-- ==== Sys2Proof/Machine/Params.lean ====
section
/-! DEFINITION. The Parameter Set (R203 to R206): ids, ranges, clamping, values in force, pending and in use. -/

namespace Sys2Proof.Machine

/-- R206: the thirty parameters in id order. -/
def allParams : List Param :=
  [.camWidth, .camHeight, .holdLimit, .repeatLimit, .latencyLimit, .dispWidth, .dispHeight, .borderColour, .hotLevel,
   .glareOn, .glareOff, .onsetFrames, .releaseFrames, .attackStep, .releaseStep, .gainFloor, .glareTileLimit,
   .fieldColour, .checkWindow, .periodNom, .span, .offset, .lockWindow, .unlockWindow, .nightMode, .nightEnter,
   .nightExit, .nightDwell, .tickBit, .tickEdge]

/-- R206: the parameter of an id. -/
def paramOfId (id : Byte) : Option Param := allParams[id.toNat]?

/-- R206: the classes. -/
inductive ParamClass where
  | camera | display | part
  deriving DecidableEq, Repr

/-- R206: a parameter's class. -/
def Param.cls : Param → ParamClass
  | .camWidth | .camHeight => .camera
  | .nightMode | .nightEnter | .nightExit | .nightDwell | .tickBit | .tickEdge => .part
  | _ => .display

/-- R203: TICK_BIT and TICK_EDGE are held once for the part. -/
def Param.partScope : Param → Bool
  | .tickBit | .tickEdge => true
  | _ => false

/-- R203: the parameters whose codes name values. -/
def Param.enumeration : Param → Bool
  | .nightMode | .tickEdge => true
  | _ => false

/-- R206, R214: the width in bytes of each field of a parameter. -/
def Param.fieldWidth : Param → Nat
  | .camWidth | .camHeight | .dispWidth | .dispHeight | .borderColour | .hotLevel | .gainFloor | .checkWindow
  | .periodNom | .span | .offset | .lockWindow | .unlockWindow | .nightEnter | .nightExit => 2
  | .latencyLimit => 4
  | .holdLimit | .repeatLimit | .glareOn | .glareOff | .onsetFrames | .releaseFrames | .attackStep | .releaseStep
  | .glareTileLimit | .fieldColour | .nightMode | .nightDwell | .tickBit | .tickEdge => 1

/-- R206: the range of each field, lowest and highest value. -/
def Param.ranges : Param → List (Nat × Nat)
  | .camWidth => [(640, 2048)]
  | .camHeight => [(480, 1536)]
  | .holdLimit => [(1, 255)]
  | .repeatLimit => [(1, 15)]
  | .latencyLimit => [(10000, 200000)]
  | .dispWidth => [(480, 1280)]
  | .dispHeight => [(640, 1920)]
  | .borderColour => [(0, 4095), (0, 4095), (0, 4095)]
  | .hotLevel => [(0, 4095)]
  | .glareOn => [(1, 255)]
  | .glareOff => [(0, 254)]
  | .onsetFrames => [(1, 15)]
  | .releaseFrames => [(1, 63)]
  | .attackStep => [(1, 192)]
  | .releaseStep => [(1, 192)]
  | .gainFloor => [(64, 256)]
  | .glareTileLimit => [(1, 80)]
  | .fieldColour => [(0, 255), (0, 255), (0, 255)]
  | .checkWindow => [(0, 1279), (0, 1919), (1, 1280), (1, 1920)]
  | .periodNom => [(8000, 50000)]
  | .span => [(0, 2000)]
  | .offset => [(0, 8000)]
  | .lockWindow => [(10, 2000)]
  | .unlockWindow => [(10, 8000)]
  | .nightMode => [(0, 2)]
  | .nightEnter => [(0, 65534)]
  | .nightExit => [(1, 65535)]
  | .nightDwell => [(1, 255)]
  | .tickBit => [(12, 24)]
  | .tickEdge => [(0, 1)]

/-- R206: the step a value is a multiple of. -/
def Param.step : Param → Nat
  | .camWidth | .camHeight => 2
  | .dispWidth => 16
  | .dispHeight => 20
  | _ => 1

/-- R206: the width of a SET payload. -/
def Param.width (p : Param) : Nat := p.fieldWidth * p.ranges.length

/-- R214: the fields of a payload in the parameter's layout. -/
def Param.read (p : Param) (payload : List Byte) : List Nat :=
  (List.range p.ranges.length).map fun i =>
    match p.fieldWidth with
    | 1 => byteAt payload i
    | 2 => le16 payload (2 * i)
    | _ => le32 payload (4 * i)

/-- R214: fields laid out as a payload. -/
def Param.write (p : Param) (fields : List Nat) : List Byte := (fields.map (toLe p.fieldWidth)).flatten

/-- R203, test 4: a code that names no value of an enumeration. -/
def Param.badCode (p : Param) (fields : List Nat) : Bool :=
  p.enumeration && (List.zip fields p.ranges).any fun fr => fr.2.2 < fr.1

/-- R204: each field clamped to its range, then rounded down to its step. -/
def Param.taken (p : Param) (fields : List Nat) : List Nat :=
  (List.zip fields p.ranges).map fun fr => clampNat fr.1 fr.2.1 fr.2.2 / p.step * p.step

/-! ## Values in force -/

def rgbFields (c : Rgb) : List Nat := [c.r, c.g, c.b]

def rgbOf (v : List Nat) : Rgb := ⟨v.getD 0 0, v.getD 1 0, v.getD 2 0⟩

/-- R206: the codes of NIGHT_MODE. -/
def NightMode.code : NightMode → Nat
  | .auto => 0
  | .day => 1
  | .night => 2

def nightModeOf (n : Nat) : NightMode :=
  match n with
  | 0 => .auto
  | 1 => .day
  | _ => .night

/-- R206: the codes of TICK_EDGE. -/
def TickEdge.code : TickEdge → Nat
  | .rising => 0
  | .falling => 1

/-- The value in force of a parameter, as fields. -/
def State.paramValue (s : State) (ch : Channel) (p : Param) : List Nat :=
  let c := s.params.get ch
  match p with
  | .camWidth => [c.camWidth]
  | .camHeight => [c.camHeight]
  | .holdLimit => [c.holdLimit]
  | .repeatLimit => [c.repeatLimit]
  | .latencyLimit => [c.latencyLimit]
  | .dispWidth => [c.dispWidth]
  | .dispHeight => [c.dispHeight]
  | .borderColour => rgbFields c.borderColour
  | .hotLevel => [c.hotLevel]
  | .glareOn => [c.glareOn]
  | .glareOff => [c.glareOff]
  | .onsetFrames => [c.onsetFrames]
  | .releaseFrames => [c.releaseFrames]
  | .attackStep => [c.attackStep]
  | .releaseStep => [c.releaseStep]
  | .gainFloor => [c.gainFloor]
  | .glareTileLimit => [c.glareTileLimit]
  | .fieldColour => rgbFields c.fieldColour
  | .checkWindow => [c.checkWindow.x, c.checkWindow.y, c.checkWindow.w, c.checkWindow.h]
  | .periodNom => [c.periodNom]
  | .span => [c.span]
  | .offset => [c.offset]
  | .lockWindow => [c.lockWindow]
  | .unlockWindow => [c.unlockWindow]
  | .nightMode => [c.nightMode.code]
  | .nightEnter => [c.nightEnter]
  | .nightExit => [c.nightExit]
  | .nightDwell => [c.nightDwell]
  | .tickBit => [s.partParams.tickBit]
  | .tickEdge => [s.partParams.tickEdge.code]

/-- A channel parameter's value put in force; TICK_BIT and TICK_EDGE are not held here. -/
def ChannelParams.put (c : ChannelParams) (p : Param) (v : List Nat) : ChannelParams :=
  match p with
  | .camWidth => { c with camWidth := v.getD 0 0 }
  | .camHeight => { c with camHeight := v.getD 0 0 }
  | .holdLimit => { c with holdLimit := v.getD 0 0 }
  | .repeatLimit => { c with repeatLimit := v.getD 0 0 }
  | .latencyLimit => { c with latencyLimit := v.getD 0 0 }
  | .dispWidth => { c with dispWidth := v.getD 0 0 }
  | .dispHeight => { c with dispHeight := v.getD 0 0 }
  | .borderColour => { c with borderColour := rgbOf v }
  | .hotLevel => { c with hotLevel := v.getD 0 0 }
  | .glareOn => { c with glareOn := v.getD 0 0 }
  | .glareOff => { c with glareOff := v.getD 0 0 }
  | .onsetFrames => { c with onsetFrames := v.getD 0 0 }
  | .releaseFrames => { c with releaseFrames := v.getD 0 0 }
  | .attackStep => { c with attackStep := v.getD 0 0 }
  | .releaseStep => { c with releaseStep := v.getD 0 0 }
  | .gainFloor => { c with gainFloor := v.getD 0 0 }
  | .glareTileLimit => { c with glareTileLimit := v.getD 0 0 }
  | .fieldColour => { c with fieldColour := rgbOf v }
  | .checkWindow => { c with checkWindow := ⟨v.getD 0 0, v.getD 1 0, v.getD 2 0, v.getD 3 0⟩ }
  | .periodNom => { c with periodNom := v.getD 0 0 }
  | .span => { c with span := v.getD 0 0 }
  | .offset => { c with offset := v.getD 0 0 }
  | .lockWindow => { c with lockWindow := v.getD 0 0 }
  | .unlockWindow => { c with unlockWindow := v.getD 0 0 }
  | .nightMode => { c with nightMode := nightModeOf (v.getD 0 0) }
  | .nightEnter => { c with nightEnter := v.getD 0 0 }
  | .nightExit => { c with nightExit := v.getD 0 0 }
  | .nightDwell => { c with nightDwell := v.getD 0 0 }
  | .tickBit | .tickEdge => c

/-! ## Values in use -/

/-- R93: the exit level in use. -/
def ChannelParams.exitLevel (c : ChannelParams) : Nat := max c.nightExit (c.nightEnter + 1)

/-- R102: the GLARE_OFF in use. -/
def ChannelParams.glareOffInUse (c : ChannelParams) : Nat := min c.glareOff (c.glareOn - 1)

/-- R160: the span in use. -/
def ChannelParams.spanInUse (c : ChannelParams) : Nat := min c.span (c.periodNom / 16)

/-- R164: the unlock window in use. -/
def ChannelParams.unlockWindowInUse (c : ChannelParams) : Nat := max c.unlockWindow c.lockWindow

/-- R204, R206: the value in use of a parameter. -/
def State.paramInUse (s : State) (ch : Channel) (p : Param) : List Nat :=
  let c := s.params.get ch
  match p with
  | .nightExit => [c.exitLevel]
  | .glareOff => [c.glareOffInUse]
  | .span => [c.spanInUse]
  | .unlockWindow => [c.unlockWindowInUse]
  | _ => s.paramValue ch p

/-! ## Pending values (R205) -/

/-- R205: the pending value of a parameter. -/
def pendingOf (ps : List PendingValue) (p : Param) : Option (List Nat) := (ps.find? fun pv => pv.1 == p).map Prod.snd

/-- R205: a value becomes the pending value, replacing an earlier one. -/
def addPending (ps : List PendingValue) (p : Param) (v : List Nat) : List PendingValue :=
  (ps.filter fun pv => pv.1 != p) ++ [(p, v)]

/-- R205: every pending value of a class takes effect in a channel, together. -/
def State.applyPending (s : State) (ch : Channel) (cls : ParamClass) : State :=
  let due := (s.pendingParams.get ch).filter fun pv => pv.1.cls == cls
  let rest := (s.pendingParams.get ch).filter fun pv => pv.1.cls != cls
  (s.setParams ch (due.foldl (fun c pv => c.put pv.1 pv.2) (s.params.get ch))).setPending ch rest

/-! ## Part-wide values, in force at the SET -/

/-- R94: what a SET of NIGHT_MODE does to the night detector. -/
def Glare.changeMode (g : Glare) (before after : NightMode) : Glare :=
  if before = after then g
  else
    match after with
    | .auto => { g with dwell := 0 }
    | .day => { g with night := false, dwell := 0 }
    | .night => { g with night := true, dwell := 0 }

/-- R157: the tick schedule takes new values. A change makes no tick itself: the next tick is the next time the new bit
makes the new transition. -/
def State.setTickSchedule (s : State) (x : PartParams) : State :=
  if x = s.partParams then s else { s with partParams := x, lastTick := some s.counter }

/-- R93, R157, R205: a part-wide value is in force at the SET. -/
def State.putPartWide (s : State) (ch : Channel) (p : Param) (v : List Nat) : State :=
  match p with
  | .tickBit => s.setTickSchedule { s.partParams with tickBit := v.getD 0 0 }
  | .tickEdge => s.setTickSchedule { s.partParams with tickEdge := if v.getD 0 0 = 0 then .rising else .falling }
  | .nightMode =>
    (s.setGlare ch ((s.glare.get ch).changeMode (s.params.get ch).nightMode (nightModeOf (v.getD 0 0)))).setParams ch
      ((s.params.get ch).put p v)
  | _ => s.setParams ch ((s.params.get ch).put p v)

end Sys2Proof.Machine
end

