-- ==== Sys2Proof/Machine/Swap.lean ====
section
/-! DEFINITION. Swaps and consumer boundaries (R19, R20, R28, R44, R205), and the suspension of the scrub (R27). -/

namespace Sys2Proof.Machine

/-- R10: the generation after a swap; 65535 is followed by 1. -/
def nextGeneration (g : BitVec 16) : BitVec 16 := if g = 65535 then 1 else g + 1

/-- R20: the active bank a swap leaves. -/
def ActiveBank.swapped (a : ActiveBank) (load : Load) (supplied : Check) : ActiveBank :=
  { state := .valid, length := load.declared, checksum := supplied, generation := nextGeneration a.generation
    bytes := load.bytes }

/-- R28: a swap of the table being scrubbed restarts its step at byte 0. -/
def restartScrub (scrub : Option ScrubStep) (t : TableId) : Option ScrubStep :=
  scrub.map fun st => if st.table = t then { st with reached := 0, acc := .start } else st

/-- R20: an evaluation of TABLE_CORRUPT for each channel of the table, left first (R172). -/
def State.evaluateTableCorruptFor (s : State) (chs : List Channel) : State :=
  chs.foldl State.evaluateTableCorrupt s

/-- R20: the contents of a verified load become the active contents of a table. -/
def State.swapIn (s : State) (t : TableId) (load : Load) (supplied : Check) : State :=
  let e := s.table t
  let s := s.setTable t { e with active := e.active.swapped load supplied, staged := .idle }
  let s := s.setTables { s.tables with scrub := restartScrub s.tables.scrub t }
  if e.active.state = .corrupt then s.evaluateTableCorruptFor t.channels else s

/-- R19: a table in SWAP-WAIT swaps. -/
def State.swapIfWaiting (s : State) (t : TableId) : State :=
  match (s.table t).staged with
  | .swapWait load supplied => s.swapIn t load supplied
  | _ => s

/-- R34, R44: a camera frame is in progress. -/
def Assembly.inProgress : Assembly → Bool
  | .header _ => true
  | .lines _ _ _ => true
  | .idle => false
  | .discard => false

/-- R44: a moment with no camera frame in progress: every camera-side item pending takes effect. The manual says that they take
effect together and leaves the order of two swaps, and so of their evaluations of TABLE_CORRUPT (R20, R181), open: the
Develop table swaps and is evaluated before the Defect List (DESIGN CHOICE, assumption 34). -/
def State.cameraBoundary (s : State) (ch : Channel) : State :=
  ((s.applyPending ch .camera).swapIfWaiting (.develop ch)).swapIfWaiting (.defectList ch)

/-- R44: the camera-side boundary falls at once when the receiver has no frame in progress. -/
def State.cameraBoundaryIfIdle (s : State) (ch : Channel) : State :=
  if (s.receiver.get ch).assembly.inProgress then s else s.cameraBoundary ch

/-- R106: every gain and target below a floor is raised to it. -/
def Glare.raiseFloor (g : Glare) (floor : Nat) : Glare :=
  { g with tiles := g.tiles.map fun t => { t with gain := max t.gain floor, target := max t.target floor } }

/-- R19, R205: the display-side swaps and parameters of a display frame start. A size change resets the tile map (R76) and
a GAIN_FLOOR in force raises gains and targets (R106). Several tables that swap here do so in id order, each with its own
evaluation of TABLE_CORRUPT (R20) before the next swap, where R181 leaves the order open (DESIGN CHOICE, assumption 34). -/
def State.displayBoundary (s : State) (ch : Channel) : State :=
  let s := (((s.swapIfWaiting (.warpMesh ch)).swapIfWaiting (.toneCurves ch)).swapIfWaiting
    (.glareResponse ch)).swapIfWaiting (.overlaySet ch)
  let before := s.params.get ch
  let s := s.applyPending ch .display
  let after := s.params.get ch
  let s := if before.dispWidth = after.dispWidth ∧ before.dispHeight = after.dispHeight then s else s.mapReset ch
  if before.gainFloor = after.gainFloor then s
  else s.setGlare ch ((s.glare.get ch).raiseFloor after.gainFloor)

/-- R27: the verify queue takes a new value; a scrub step stands suspended exactly while it is non-empty. -/
def State.setVerifyQueue (s : State) (queue : List TableId) : State :=
  s.setTables { s.tables with
    verifyQueue := queue
    scrub := s.tables.scrub.map fun st => { st with suspended := !queue.isEmpty } }

end Sys2Proof.Machine
end

