-- ==== Sys2Proof/Machine/Intake.lean ====
section
/-! DEFINITION. The intake pipeline (R45 to R49): defect substitution, black level, demosaic and the develop matrix. -/

namespace Sys2Proof.Machine

/-- The raw value at (column, row) of the rows taken. -/
def rawAt (raw : List (List Nat)) (c r : Nat) : Nat := (raw.getD r []).getD c 0

/-- round half up of a / b (00_scope.md, Arithmetic words). -/
def meanOf (n : Nat) (sum : Nat) : Nat := (sum + n / 2) / n

/-- R46: a usable neighbour is a position inside the frame that is not itself listed. -/
def FrameFacts.usable (f : FrameFacts) (c r : Nat) : Bool :=
  c < f.width && r < f.height && !f.defects.contains (c, r)

/-- R46: the substitute of a listed position. -/
def FrameFacts.substitute (f : FrameFacts) (c r : Nat) : Nat :=
  let left := 2 ≤ c && f.usable (c - 2) r
  let right := f.usable (c + 2) r
  if left && right then meanOf 2 (rawAt f.raw (c - 2) r + rawAt f.raw (c + 2) r)
  else if left then rawAt f.raw (c - 2) r
  else if right then rawAt f.raw (c + 2) r
  else if 2 ≤ r && f.usable c (r - 2) then rawAt f.raw c (r - 2)
  else if f.usable c (r + 2) then rawAt f.raw c (r + 2)
  else f.develop.black

/-- R46, R47: the value after defect substitution and black level. -/
def FrameFacts.levelled (f : FrameFacts) (c r : Nat) : Nat :=
  (if f.defects.contains (c, r) then f.substitute c r else rawAt f.raw c r) - f.develop.black

/-- R48: a coordinate −1..size, given raised by one, reflected about the outermost positions. -/
def reflect (raised size : Nat) : Nat :=
  if raised = 0 then 1 else if raised = size + 1 then size - 2 else raised - 1

/-- R48: the value after black level at a position one of whose coordinates may lie one outside the frame; both are given
raised by one. -/
def FrameFacts.neighbour (f : FrameFacts) (c1 r1 : Nat) : Nat := f.levelled (reflect c1 f.width) (reflect r1 f.height)

/-- R48: the colours of the 2×2 pattern. -/
inductive Site where
  | red | blue | greenInRed | greenInBlue
  deriving DecidableEq, Repr

/-- R48: which colour a position carries. Red stands at the column and row parities of the Bayer phase's bits 0 and 1.
R48 gives the phases 0 to 3, and one above 3 is read by these two bits (DESIGN CHOICE, assumption 36). -/
def siteOf (phase c r : Nat) : Site :=
  let redColumn := c % 2 == phase % 2
  let redRow := r % 2 == phase / 2 % 2
  if redColumn && redRow then .red
  else if !redColumn && !redRow then .blue
  else if redRow then .greenInRed
  else .greenInBlue

/-- R48: the demosaiced triple of a position. -/
def FrameFacts.demosaic (f : FrameFacts) (c r : Nat) : Rgb :=
  let own := f.levelled c r
  let sides := f.neighbour c (r + 1) + f.neighbour (c + 2) (r + 1)
  let stack := f.neighbour (c + 1) r + f.neighbour (c + 1) (r + 2)
  let corners := f.neighbour c r + f.neighbour (c + 2) r + f.neighbour c (r + 2) + f.neighbour (c + 2) (r + 2)
  match siteOf f.develop.bayer c r with
  | .red => ⟨own, meanOf 4 (sides + stack), meanOf 4 corners⟩
  | .blue => ⟨meanOf 4 corners, meanOf 4 (sides + stack), own⟩
  | .greenInRed => ⟨meanOf 2 sides, own, meanOf 2 stack⟩
  | .greenInBlue => ⟨meanOf 2 stack, own, meanOf 2 sides⟩

/-- R49: one output component of the develop matrix. -/
def DevelopTable.component (d : DevelopTable) (o : Nat) (p : Rgb) : Nat :=
  let sum := d.matrix.getD (3 * o) 0 * p.r + d.matrix.getD (3 * o + 1) 0 * p.g + d.matrix.getD (3 * o + 2) 0 * p.b
  (clampInt ((sum + 512) / 1024 + d.offsets.getD o 0) 0 4095).toNat

/-- R49: the developed pixel of a position. -/
def FrameFacts.developed (f : FrameFacts) (c r : Nat) : Rgb :=
  let p := f.demosaic c r
  ⟨f.develop.component 0 p, f.develop.component 1 p, f.develop.component 2 p⟩

/-- R45: one developed row. -/
def FrameFacts.developedRow (f : FrameFacts) (r : Nat) : List Rgb := (List.range f.width).map fun c => f.developed c r

/-- R45: the number of developed rows whose camera rows have all been taken: a row reaches one row down for the demosaic
and two more for a defect's substitute (DESIGN CHOICE, assumption 10). -/
def FrameFacts.rowsReady (f : FrameFacts) : Nat := f.raw.length - 3

/-- R45: the developed rows up to a count are in the FILLING buffer, in row order. -/
def Picture.extendTo (p : Picture) (f : FrameFacts) (count : Nat) : Picture :=
  { p with
    rows := p.rows ++ ((List.range (count - p.rows.length)).map fun k => f.developedRow (p.rows.length + k)) }

/-- R45: the FILLING buffer receives the developed rows up to a count. -/
def FrameStore.extendTo (fs : FrameStore) (f : FrameFacts) (count : Nat) : FrameStore :=
  match fs.find Buffer.isFilling with
  | none => fs
  | some b =>
    match fs.get b with
    | .filling p => fs.set b (.filling (p.extendTo f count))
    | _ => fs

end Sys2Proof.Machine
end

