-- ==== Sys2Proof/Machine/Camera.lean ====
section
/-! DEFINITION. The meanings of the camera packets (R34 to R44, R51) and the camera receiver's part of a restart (R54). -/

namespace Sys2Proof.Machine

/-- Writes the assembly of a channel's receiver. -/
def State.setAssembly (s : State) (ch : Channel) (a : Assembly) : State :=
  s.setReceiver ch { s.receiver.get ch with assembly := a }

/-- R57: the frame store discards the FILLING buffer. -/
def State.discardBuffer (s : State) (ch : Channel) : State := s.setStore ch (s.store.get ch).discard

/-- R162: a camera FRAME-END's time reaches the link's tracker; in OFF it is ignored. -/
def State.frameEndTime (s : State) (ch : Channel) : State :=
  let g := s.timing.get ch
  if g.tracker.state = .off then s
  else s.setTiming ch { g with tracker := { g.tracker with frameEnd := some s.counter } }

/-- R40: the frame in progress is malformed: observed at once, its buffer discarded, the receiver left in a phase with no
frame in progress, which is a camera-side boundary (R44). -/
def State.malformed (s : State) (ch : Channel) (detail : Nat) (after : Assembly) : State :=
  ((((s.evaluate ch .frameMalformed (some detail)).discardBuffer ch).setAssembly ch after)).cameraBoundary ch

/-- R36: a frame begins with the items in force. -/
def State.beginFrame (s : State) (ch : Channel) : State :=
  let p := s.params.get ch
  let filled := (s.store.get ch).fill s.counter p.camWidth p.camHeight
  let facts : FrameFacts :=
    { nextLine := 0, width := p.camWidth, height := p.camHeight, arrival := s.counter, buffer := filled.2
      develop := s.developInUse ch, defects := s.defectsInUse ch, raw := [] }
  (s.setStore ch filled.1).setReceiver ch
    { s.receiver.get ch with assembly := .header facts, startSeen := true, silentTicks := 0 }

/-- R36: an accepted FRAME-START. -/
def State.takeFrameStart (s : State) (ch : Channel) : State :=
  (if (s.receiver.get ch).assembly.inProgress then s.malformed ch 6 .idle else s).beginFrame ch

/-- R34, R35, R37: an EMBEDDED whose check passes, with its fields, or fails. -/
def State.takeEmbedded (s : State) (ch : Channel) (fields : Option (BitVec 16 × Byte)) : State :=
  match (s.receiver.get ch).assembly, fields with
  | .header f, some (counter, status) => s.setAssembly ch (.lines f counter status)
  | .header _, none => s.malformed ch 3 .discard
  | .lines _ _ _, some _ => s.malformed ch 1 .discard
  | .lines _ _ _, none => s.malformed ch 3 .discard
  | .idle, _ => s
  | .discard, _ => s

/-- R38: the tests of a LINE whose check passes, in order; the detail of the first that fails. -/
def FrameFacts.lineFailure (f : FrameFacts) (index : Nat) (pixels : List Nat) : Option Nat :=
  if index ≠ f.nextLine then some 2
  else if f.height ≤ f.nextLine then some 5
  else if pixels.length ≠ f.width then some 4
  else none

/-- R38: the frame after a line is taken, each pixel clamped to 4095. -/
def FrameFacts.takeLine (f : FrameFacts) (pixels : List Nat) : FrameFacts :=
  { f with nextLine := f.nextLine + 1, raw := f.raw ++ [pixels.map (min 4095)] }

/-- R35, R38: a LINE whose check passes, with its index and pixels, or fails. -/
def State.takeLine (s : State) (ch : Channel) (fields : Option (Nat × List Nat)) : State :=
  match (s.receiver.get ch).assembly, fields with
  | .header _, some _ => s.malformed ch 1 .discard
  | .header _, none => s.malformed ch 3 .discard
  | .lines _ _ _, none => s.malformed ch 3 .discard
  | .lines f counter status, some (index, pixels) =>
    match f.lineFailure index pixels with
    | some detail => s.malformed ch detail .discard
    | none =>
      let f := f.takeLine pixels
      (s.setStore ch ((s.store.get ch).extendTo f f.rowsReady)).setAssembly ch (.lines f counter status)
  | .idle, _ => s
  | .discard, _ => s

/-- R41: the counter verdict: the outcome of CAM_FROZEN, that of CAM_SKIP when it is evaluated, and whether the counter
advanced. -/
def counterCheck (reference : Option (BitVec 16)) (counter : BitVec 16) : Option Nat × Option (Option Nat) × Bool :=
  match reference with
  | none => (none, some none, true)
  | some ref =>
    let d := (counter - ref).toNat
    if d = 0 then (some counter.toNat, none, false)
    else if 2 ≤ d ∧ d ≤ 32767 then (none, some (some (d - 1)), true)
    else (none, some none, true)

/-- R41, R42: the counter and sensor checks of a structurally good frame, and the fate of its buffer. -/
def State.judgeFrame (s : State) (ch : Channel) (counter : BitVec 16) (status : Byte) : State :=
  let verdict := counterCheck (s.receiver.get ch).reference counter
  let s := s.evaluate ch .camFrozen verdict.1
  let s := match verdict.2.1 with
    | some outcome => s.evaluate ch .camSkip outcome
    | none => s
  let s := s.setReceiver ch { s.receiver.get ch with reference := some counter }
  let s := s.evaluate ch .camSensor (if status = 0 then none else some status.toNat)
  if verdict.2.2 ∧ status = 0 then s.setStore ch ((s.store.get ch).complete counter) else s.discardBuffer ch

/-- R39: the end of a structurally good frame. -/
def State.goodFrame (s : State) (ch : Channel) (f : FrameFacts) (counter : BitVec 16) (status : Byte) : State :=
  let s := s.evaluate ch .frameMalformed none
  let s := s.setStore ch ((s.store.get ch).extendTo f f.height)
  ((s.judgeFrame ch counter status).setAssembly ch .idle).cameraBoundary ch

/-- R35, R39: a FRAME-END whose check passes, with its lines sent, or fails. -/
def State.takeFrameEnd (s : State) (ch : Channel) (fields : Option Nat) : State :=
  match (s.receiver.get ch).assembly, fields with
  | .header _, some _ => (s.frameEndTime ch).malformed ch 1 .idle
  | .header _, none => (s.frameEndTime ch).malformed ch 3 .idle
  | .lines _ _ _, none => (s.frameEndTime ch).malformed ch 3 .idle
  | .lines f counter status, some sent =>
    if sent = f.height ∧ f.nextLine = f.height then (s.frameEndTime ch).goodFrame ch f counter status
    else (s.frameEndTime ch).malformed ch 5 .idle
  | .discard, _ => (s.frameEndTime ch).setAssembly ch .idle
  | .idle, _ => s

/-- R51 to R53: a WAITING pass is answered and its record becomes IDLE. -/
def State.endPass (s : State) (ch : Channel) (result : Result) (payload : List Byte) : State :=
  match (s.receiver.get ch).pass with
  | .idle => s
  | .waiting link tag _ =>
    (s.setReceiver ch { s.receiver.get ch with pass := .idle }).answer link
      { tag := tag, kind := 12, result := result, payload := payload }

/-- R52: a WAITING pass record meets a supervision tick. -/
def State.tickPass (s : State) (ch : Channel) : State :=
  match (s.receiver.get ch).pass with
  | .idle => s
  | .waiting link tag ticks =>
    if ticks = 0 then s.setReceiver ch { s.receiver.get ch with pass := .waiting link tag 1 }
    else s.endPass ch .timeout []

/-- R43: CAM_LOST is evaluated at a supervision tick and the start-seen flag cleared. -/
def State.tickCamera (s : State) (ch : Channel) : State :=
  let r := s.receiver.get ch
  if r.startSeen then (s.setReceiver ch { r with startSeen := false }).evaluate ch .camLost none
  else
    (s.setReceiver ch { r with silentTicks := upTo255 r.silentTicks }).evaluate ch .camLost
      (some (upTo255 r.silentTicks))

/-- R54: VIEW-RESTART abandons the frame without an observation and drops the counter reference; the phase becomes IDLE,
which is a camera-side boundary. -/
def State.restartReceiver (s : State) (ch : Channel) : State :=
  (s.setReceiver ch { s.receiver.get ch with assembly := .idle, reference := none }).cameraBoundary ch

/-! ## Meanings -/

/-- FRAME_START (R34, R36). -/
def execFrameStart (ch : Channel) (packet : List Byte) (s : State) : Host.Outcome State Fault Refusal :=
  whenRunning s fun s =>
    match readCameraPacket packet with
    | .frameStart => s.takeFrameStart ch
    | _ => s

/-- EMBEDDED (R34, R37, R40). -/
def execEmbedded (ch : Channel) (packet : List Byte) (s : State) : Host.Outcome State Fault Refusal :=
  whenRunning s fun s =>
    match readCameraPacket packet with
    | .embedded counter status => s.takeEmbedded ch (some (counter, status))
    | .embeddedFailed => s.takeEmbedded ch none
    | _ => s

/-- LINE (R34, R38, R40). -/
def execLine (ch : Channel) (packet : List Byte) (s : State) : Host.Outcome State Fault Refusal :=
  whenRunning s fun s =>
    match readCameraPacket packet with
    | .line index pixels => s.takeLine ch (some (index, pixels))
    | .lineFailed => s.takeLine ch none
    | _ => s

/-- FRAME_END (R34, R39, R40). -/
def execFrameEnd (ch : Channel) (packet : List Byte) (s : State) : Host.Outcome State Fault Refusal :=
  whenRunning s fun s =>
    match readCameraPacket packet with
    | .frameEnd sent => s.takeFrameEnd ch (some sent)
    | .frameEndFailed => s.takeFrameEnd ch none
    | _ => s

/-- REPLY (R34, R51). -/
def execReply (ch : Channel) (packet : List Byte) (s : State) : Host.Outcome State Fault Refusal :=
  whenRunning s fun s =>
    match readCameraPacket packet with
    | .reply payload => s.endPass ch .ok payload
    | _ => s

/-- CAMERA_PACKET_DISCARD (R34): a discarded packet changes no state of the receiver. -/
def execCameraPacketDiscard (_ch : Channel) (_packet : List Byte) (s : State) : Host.Outcome State Fault Refusal :=
  whenRunning s fun s => s

end Sys2Proof.Machine
end

