-- ==== Sys2Proof/Machine/Remap.lean ====
section
/-! DEFINITION. The display pipeline (R75 to R89): display geometry, warp mapping, sampling, luminance and tone. -/

namespace Sys2Proof.Machine

/-- R75: the cell width CW, which is the tile width TW. -/
def ChannelParams.cellWidth (p : ChannelParams) : Nat := p.dispWidth / 8

/-- R75: the cell height CH, which is the tile height TH. -/
def ChannelParams.cellHeight (p : ChannelParams) : Nat := p.dispHeight / 10

/-- R82: one source coordinate from those of the four corner points, in the order of its table. -/
def interpolate (cw ch u v : Nat) (p00 p10 p01 p11 : Int) : Int :=
  (p00 * ((cw - u) * (ch - v) : Nat) + p10 * (u * (ch - v) : Nat) + p01 * ((cw - u) * v : Nat) + p11 * (u * v : Nat)
    + (cw * ch / 2 : Nat)) / (cw * ch : Nat)

/-- R81, R82: the source position of display pixel (x, y), in sixteenths of a camera pixel. -/
def sourcePosition (mesh : List MeshPoint) (cw ch x y : Nat) : MeshPoint :=
  let i := x / cw
  let j := y / ch
  let u := x - i * cw
  let v := y - j * ch
  let p00 := meshAt mesh i j
  let p10 := meshAt mesh (i + 1) j
  let p01 := meshAt mesh i (j + 1)
  let p11 := meshAt mesh (i + 1) (j + 1)
  { sx := interpolate cw ch u v p00.sx p10.sx p01.sx p11.sx
    sy := interpolate cw ch u v p00.sy p10.sy p01.sy p11.sy }

/-- R84: one component from the four samples, by the fractions fx and fy. -/
def sampleComponent (fx fy a b c d : Nat) : Nat :=
  (a * ((16 - fx) * (16 - fy)) + b * (fx * (16 - fy)) + c * ((16 - fx) * fy) + d * (fx * fy) + 128) / 256

/-- The pixel of a picture at a camera position. -/
def Picture.at (p : Picture) (c r : Nat) : Rgb := (p.rows.getD r []).getD c ⟨0, 0, 0⟩

/-- R83 to R85: the sample at a source position, or the border colour when one of the four positions lies outside the
picture's frame. -/
def samplePicture (p : Picture) (border : Rgb) (pos : MeshPoint) : Rgb :=
  let px := pos.sx / 16
  let py := pos.sy / 16
  if 0 ≤ px ∧ px + 1 < p.width ∧ 0 ≤ py ∧ py + 1 < p.height then
    let fx := (pos.sx - 16 * px).toNat
    let fy := (pos.sy - 16 * py).toNat
    let a := p.at px.toNat py.toNat
    let b := p.at (px.toNat + 1) py.toNat
    let c := p.at px.toNat (py.toNat + 1)
    let d := p.at (px.toNat + 1) (py.toNat + 1)
    ⟨sampleComponent fx fy a.r b.r c.r d.r, sampleComponent fx fy a.g b.g c.g d.g,
     sampleComponent fx fy a.b b.b c.b d.b⟩
  else border

/-- R77, stage 1: the remapped pixel at (x, y). -/
def remapPixel (mesh : List MeshPoint) (cw ch : Nat) (p : Picture) (border : Rgb) (x y : Nat) : Rgb :=
  samplePicture p border (sourcePosition mesh cw ch x y)

/-- R87: the luminance of a remapped pixel. -/
def luminance (p : Rgb) : Nat := (77 * p.r + 150 * p.g + 29 * p.b + 128) / 256

/-- A knot of a curve, as a signed number. -/
def knotAt (knots : List Nat) (i : Nat) : Int := (knots.getD i 0 : Nat)

/-- R89: one gained component through a curve's 65 knots. The floor is that of a signed number, so a curve that falls (a bank
that is upset or CORRUPT and still serves, R29, R78) is followed down. -/
def toneComponent (knots : List Nat) (c : Nat) : Nat :=
  let i := c / 64
  let f := c - 64 * i
  (knotAt knots i + ((knotAt knots (i + 1) - knotAt knots i) * f + 32) / 64).toNat

/-- R89: the three components, one by one. -/
def tonePixel (knots : List Nat) (p : Rgb) : Rgb :=
  ⟨toneComponent knots p.r, toneComponent knots p.g, toneComponent knots p.b⟩

end Sys2Proof.Machine
end

