-- ==== Sys2Proof/Machine/GlareUnit.lean ====
section
/-! DEFINITION. The glare unit (R93 to R114): night detector, tile statistics, tile updates and the gain field. -/

namespace Sys2Proof.Machine

/-! ## Night detector -/

/-- R95: a lux reading judged in AUTO mode. -/
def Glare.reading (g : Glare) (p : ChannelParams) (lux : Nat) : Glare :=
  let counts := if g.night then p.exitLevel ≤ lux else lux ≤ p.nightEnter
  if counts then
    if p.nightDwell ≤ g.dwell + 1 then { g with night := !g.night, dwell := 0 }
    else { g with dwell := g.dwell + 1 }
  else { g with dwell := 0 }

/-- R94, R95: a lux reading reaches the detector in AUTO mode only. -/
def State.nightReading (s : State) (ch : Channel) (lux : Nat) : State :=
  if (s.params.get ch).nightMode = .auto then s.setGlare ch ((s.glare.get ch).reading (s.params.get ch) lux) else s

/-! ## Tile statistics -/

/-- R97: adds the hot pixels of line `y`, given its luminances from x = 0, to the tiles' hot counts. -/
def countHot (hotLevel tw th y : Nat) (hot : List Nat) (ys : List Nat) : List Nat :=
  let row := y / th
  hot.mapIdx fun n count =>
    if n / 8 = row then
      count + ((ys.drop (n % 8 * tw)).take tw).countP fun l => hotLevel ≤ l
    else count

/-- R99: the hot fraction of a tile. -/
def hotFraction (tw th count : Nat) : Nat := min 255 (256 * count / (tw * th))

/-! ## Tile updates -/

/-- R102: the tile qualifies. -/
def qualifies (p : ChannelParams) (night : Bool) (q : Nat) : Bool := night && p.glareOn ≤ q

/-- R102: the state and run after an update whose hot fraction is q. -/
def Tile.move (t : Tile) (p : ChannelParams) (night : Bool) (q : Nat) : TileState × Nat :=
  match t.state with
  | .clear =>
    if qualifies p night q then (if p.onsetFrames ≤ 1 then (.glare, 0) else (.onset, 1)) else (.clear, 0)
  | .onset =>
    if qualifies p night q then (if p.onsetFrames ≤ t.run + 1 then (.glare, 0) else (.onset, t.run + 1)) else (.clear, 0)
  | .glare =>
    if !night || q < p.glareOffInUse then (if p.releaseFrames ≤ 1 then (.clear, 0) else (.release, 1)) else (.glare, 0)
  | .release =>
    if qualifies p night q then (.glare, 0)
    else if p.releaseFrames ≤ t.run + 1 then (.clear, 0) else (.release, t.run + 1)

/-- R104: the target after the move. -/
def Tile.nextTarget (t : Tile) (p : ChannelParams) (response : List Nat) (after : TileState) (q : Nat) : Nat :=
  match after with
  | .clear => 256
  | .onset => 256
  | .glare => max p.gainFloor (response.getD (q / 16) 256)
  | .release => t.target

/-- R105: the gain moves one step toward the target. -/
def rampGain (p : ChannelParams) (gain target : Nat) : Nat :=
  if target < gain then max target (gain - p.attackStep)
  else if gain < target then min target (gain + p.releaseStep)
  else gain

/-- R101: one tile's update, from its last count. -/
def Tile.update (t : Tile) (p : ChannelParams) (response : List Nat) (night : Bool) (count : Nat) : Tile :=
  let q := hotFraction p.cellWidth p.cellHeight count
  let moved := t.move p night q
  let target := t.nextTarget p response moved.1 q
  { state := moved.1, run := moved.2, qLast := q, target := target, gain := rampGain p t.gain target }

/-- R101: the update of the whole map. -/
def Glare.update (g : Glare) (p : ChannelParams) (response : List Nat) (night : Bool) : Glare :=
  { g with tiles := (List.zip g.tiles g.last).map fun tc => tc.1.update p response night tc.2 }

/-! ## The gain field -/

/-- R112: the position among tile centres along one axis: the lower centre and the fraction in 64ths. `size` is TW or TH,
`centres` the number of centres. -/
def centrePlace (size centres x : Nat) : Nat × Nat :=
  let u := min (x - size / 2) ((centres - 1) * size)
  let c0 := min (u / size) (centres - 2)
  (c0, 64 * (u - c0 * size) / size)

/-- The gain of the tile at (column, row). -/
def tileGain (tiles : List Tile) (c r : Nat) : Nat := (tiles.getD (8 * r + c) .reset).gain

/-- R112, R113: the pixel gain at display position (x, y). -/
def pixelGain (tiles : List Tile) (tw th x y : Nat) : Nat :=
  let h := centrePlace tw 8 x
  let v := centrePlace th 10 y
  (tileGain tiles h.1 v.1 * ((64 - h.2) * (64 - v.2)) + tileGain tiles (h.1 + 1) v.1 * (h.2 * (64 - v.2))
    + tileGain tiles h.1 (v.1 + 1) * ((64 - h.2) * v.2) + tileGain tiles (h.1 + 1) (v.1 + 1) * (h.2 * v.2)
    + 2048) / 4096

/-- R114: one gained component. -/
def gainComponent (gain c : Nat) : Nat := min 4095 ((c * gain + 128) / 256)

/-- R114: the gained pixel. -/
def gainPixel (gain : Nat) (p : Rgb) : Rgb := ⟨gainComponent gain p.r, gainComponent gain p.g, gainComponent gain p.b⟩

end Sys2Proof.Machine
end

