-- ==== Sys2Proof/Machine/Compositor.lean ====
section
/-! DEFINITION. The compositor (R119 to R132): layers, masks, combine codes and what each view state composites. -/

namespace Sys2Proof.Machine

/-- R120, R122: the layer covers display position (X, Y). -/
def Layer.covers (l : Layer) (x y : Nat) : Bool :=
  decide (l.x ≤ x) && decide ((x : Int) ≤ l.x + l.width - 1) && decide (l.y ≤ y) && decide ((y : Int) ≤ l.y + l.height - 1)

/-- R121: the mask bit at a display position the layer covers. -/
def Layer.maskBit (l : Layer) (pool : List Byte) (x y : Nat) : Bool :=
  let col := ((x : Int) - l.x).toNat
  let row := ((y : Int) - l.y).toNat
  (pool.getD (l.offset + row * l.rowBytes + col / 8) 0).getLsbD (7 - col % 8)

/-- R125: one component, bit by bit, through the combine code. -/
def combineComponent (code : Byte) (mask : Bool) (a b : Nat) : Nat :=
  bitsOf ((List.range 8).map fun k => code.getLsbD (4 * mask.toNat + 2 * (b.testBit k).toNat + (a.testBit k).toNat))

/-- R125: a layer combined with the pixel beneath. -/
def Layer.combine (l : Layer) (mask : Bool) (beneath : Rgb) : Rgb :=
  let colour := if mask then l.foreground else l.background
  ⟨combineComponent l.code mask beneath.r colour.r, combineComponent l.code mask beneath.g colour.g,
   combineComponent l.code mask beneath.b colour.b⟩

/-- R124: the layer's condition is true in the record. -/
def Layer.visible (l : Layer) (conditions : BitVec 16) : Bool := conditions.getLsbD l.condition

/-- R123: the layers drawn in list order over the base pixel of a position. -/
def drawLayers (set : OverlaySet) (conditions : BitVec 16) (x y : Nat) (base : Rgb) : Rgb :=
  set.layers.foldl
    (fun beneath l =>
      if l.visible conditions && l.covers x y then l.combine (l.maskBit set.pool x y) beneath else beneath)
    base

/-- R77: the remapped pixels of line `y` of a picture. -/
def remapLine (p : ChannelParams) (items : FrameItems) (pic : Picture) (y : Nat) : List Rgb :=
  (List.range p.dispWidth).map fun x => remapPixel items.mesh p.cellWidth p.cellHeight pic p.borderColour x y

/-- R77, R111: the toned pixels of a remapped line. -/
def tonedLine (p : ChannelParams) (items : FrameItems) (tiles : List Tile) (remapped : List Rgb) (y : Nat) : List Rgb :=
  remapped.mapIdx fun x c => tonePixel items.knots (gainPixel (pixelGain tiles p.cellWidth p.cellHeight x y) c)

/-- R130, R131: a line of the fallback field. -/
def fieldLine (p : ChannelParams) : List Rgb := List.replicate p.dispWidth p.fieldColour

/-- R129 to R131: the composited line over a base, by the record's view state. -/
def compositeLine (items : FrameItems) (r : FrameRecord) (base : List Rgb) (y : Nat) : List Rgb :=
  match r.view with
  | .start => base
  | .live | .hold | .fallback => base.mapIdx fun x c => drawLayers items.overlay r.conditions x y c

/-- R139: a pixel as sent, in the order R, G, B. -/
def pixelBytes (p : Rgb) : List Byte := toLe 1 p.r ++ toLe 1 p.g ++ toLe 1 p.b

/-- R148: the position lies in the check window (the display's own bounds hold of every pixel sent). -/
def Window.holds (w : Window) (x y : Nat) : Bool :=
  w.x ≤ x && x + 1 ≤ w.x + w.w && w.y ≤ y && y + 1 ≤ w.y + w.h

/-- R149: the bytes of a line that the signature covers. -/
def windowBytes (w : Window) (line : List Rgb) (y : Nat) : List Byte :=
  ((List.zip (List.range line.length) line).map fun xp => if w.holds xp.1 y then pixelBytes xp.2 else []).flatten

/-- R67: the view states whose active lines show a buffer. -/
def ViewState.showsBuffer : ViewState → Bool
  | .live => true
  | .hold => true
  | .start => false
  | .fallback => false

/-- R60, R67, R84: the picture of the buffer that a LIVE or HOLD record names. -/
def State.recordPicture (s : State) (ch : Channel) (r : FrameRecord) : Option Picture :=
  if r.view.showsBuffer then
    match r.buffer with
    | some b => ((s.store.get ch).get b).picture
    | none => none
  else none

/-- R67, R97, R129 to R131 (DESIGN CHOICE, assumption 9): the composited line `y` of a frame with the given record, and the hot counts after it. -/
def State.renderLine (s : State) (ch : Channel) (r : FrameRecord) (y : Nat) : List Rgb × List Nat :=
  let p := s.params.get ch
  let g := s.glare.get ch
  let items := (s.link.get ch).frame.items
  match s.recordPicture ch r with
  | some pic =>
    let remapped := remapLine p items pic y
    (compositeLine items r (tonedLine p items g.tiles remapped y) y,
     countHot p.hotLevel p.cellWidth p.cellHeight y g.hot (remapped.map luminance))
  | none => (compositeLine items r (fieldLine p) y, g.hot)

end Sys2Proof.Machine
end

