-- ==== Sys2Proof/Machine/Timing.lean ====
section
/-! DEFINITION. The timing unit (R155 to R170): the System Counter's ticks, the timing generators and the genlock trackers. -/

namespace Sys2Proof.Machine

/-! ## Supervision ticks (R156) -/

/-- R156: the counter stands where the selected bit has just made the selected transition: at 2^n modulo 2^(n+1) for RISING,
at 0 for FALLING. -/
def PartParams.transitionAt (p : PartParams) (t : Time) : Bool :=
  t.toNat % 2 ^ (p.tickBit + 1) == (match p.tickEdge with | .rising => 2 ^ p.tickBit | .falling => 0)

/-- R156, R157: a tick is due: the transition stands at the counter's value and has not been taken, nor the schedule
changed, at that value. A part reset is not itself a tick (DEDUCED, assumption 25). -/
def State.tickDue (s : State) : Bool := s.partParams.transitionAt s.counter && s.lastTick != some s.counter

/-- R156: the first transition after the counter's value. -/
def State.tickAfter (s : State) : Time :=
  let period := 2 ^ (s.partParams.tickBit + 1)
  let phase := match s.partParams.tickEdge with | .rising => 2 ^ s.partParams.tickBit | .falling => 0
  s.counter + BitVec.ofNat 32 (period - (s.counter.toNat + period - phase) % period)

/-- R171: the time of the next tick. A tick that is due now and not yet taken is the next one, at the counter's own value; the
manual does not say whether it or the following one is (DESIGN CHOICE, assumption 35). -/
def State.nextTick (s : State) : Time := if s.tickDue then s.counter else s.tickAfter

/-! ## Period bounds (R160) -/

/-- R160: the lower and upper period bounds. -/
def ChannelParams.periodBounds (p : ChannelParams) : Int × Int :=
  ((p.periodNom : Int) - p.spanInUse, (p.periodNom : Int) + p.spanInUse)

/-- R160, R163: a period clamped to the bounds in force. -/
def ChannelParams.clampPeriod (p : ChannelParams) (period : Int) : Nat :=
  (clampInt period p.periodBounds.1 p.periodBounds.2).toNat

/-! ## The tracker (R161 to R165) -/

/-- R161: the tracker as at enable: ACQUIRE, its next reference start set at `next`, the time of the link's next display frame
start. The bandwidth mode is kept. -/
def Tracker.acquire (t : Tracker) (p : ChannelParams) (next : Time) : Tracker :=
  { t with
    state := .acquire, locked := false, period := p.periodNom, nextRef := some next, frameEnd := none, lastError := none
    lockRun := 0, unlockRun := 0, emptyCount := 0 }

/-- R163: the divisor of a measurement. -/
def divisorFor (mode : Bandwidth) (state : TrackerState) : Int :=
  match mode with
  | .auto => if state = .track then 32 else 4
  | .wide => 4
  | .narrow => 32

/-- R164: the lock rules applied to a measurement's phase error. -/
def Tracker.lockRules (t : Tracker) (p : ChannelParams) (e : Int) : Tracker :=
  match t.state with
  | .acquire =>
    if e.natAbs ≤ p.lockWindow then
      if 8 ≤ t.lockRun + 1 then { t with state := .track, locked := true, lockRun := 0, unlockRun := 0 }
      else { t with lockRun := t.lockRun + 1 }
    else { t with lockRun := 0 }
  | .track =>
    if p.unlockWindowInUse < e.natAbs then
      if 2 ≤ t.unlockRun + 1 then { t with state := .acquire, locked := false, unlockRun := 0, lockRun := 0 }
      else { t with unlockRun := t.unlockRun + 1 }
    else { t with unlockRun := 0 }
  | .off => t
  | .holdover => t

/-- R163, R165: a reference start V that makes a measurement against the frame end E. -/
def Tracker.measure (t : Tracker) (p : ChannelParams) (v e : Time) : Tracker :=
  let state := if t.state = .holdover then .acquire else t.state
  let error := timeDiff v (e + BitVec.ofNat 32 p.offset)
  let period := p.clampPeriod (p.periodNom - error.tdiv (divisorFor t.bandwidth state))
  Tracker.lockRules
    { t with
      state := state, period := period, nextRef := some (v + BitVec.ofNat 32 period), lastError := some error
      frameEnd := none, emptyCount := 0 }
    p error

/-- R165: an empty reference start is counted; the third in ACQUIRE or TRACK enters HOLDOVER. -/
def Tracker.countEmpty (t : Tracker) : Tracker :=
  let count := min 3 (t.emptyCount + 1)
  if (t.state = .acquire ∨ t.state = .track) ∧ 3 ≤ count then
    { t with state := .holdover, locked := false, lockRun := 0, unlockRun := 0, emptyCount := count }
  else { t with emptyCount := count }

/-- R163, R165: an empty reference start V. -/
def Tracker.emptyStart (t : Tracker) (p : ChannelParams) (v : Time) : Tracker :=
  let period := p.clampPeriod t.period
  { t.countEmpty with period := period, nextRef := some (v + BitVec.ofNat 32 period) }

/-- R163: a reference start V. -/
def Tracker.referenceStart (t : Tracker) (p : ChannelParams) (v : Time) : Tracker :=
  match t.frameEnd with
  | some e => t.measure p v e
  | none => t.emptyStart p v

/-- R167: when LOCKED is clear while the source is TRACKED, the source reverts to INTERNAL and the aligned flag is
cleared. -/
def LinkTiming.revert (g : LinkTiming) : LinkTiming :=
  if g.source = .tracked ∧ g.tracker.locked = false then
    { g with source := .internal, aligned := false, landing := false }
  else g

/-- R163, R167: a reference start of the link at V, with the revert of its source. -/
def LinkTiming.referenceStart (g : LinkTiming) (p : ChannelParams) (v : Time) : LinkTiming :=
  LinkTiming.revert { g with tracker := g.tracker.referenceStart p v }

/-! ## The generator (R159, R166) -/

/-- R159: the time of the next display frame start: S + P, or 0 for the first after a part reset. -/
def LinkTiming.nextStart (g : LinkTiming) : Time :=
  match g.start with
  | none => 0
  | some t => t + BitVec.ofNat 32 g.period

/-- R159: the link's display frame start falls now. -/
def State.startDue (s : State) (ch : Channel) : Bool := (s.timing.get ch).nextStart == s.counter

/-- R166: a display frame start at V and a reference start at V are one event: the source is TRACKED, a reference start
falls at V, and the aligned flag is set, or is set there because the clamp did not act on the frame that ends. -/
def LinkTiming.oneEvent (g : LinkTiming) (v : Time) : Bool :=
  g.source == .tracked && g.tracker.nextRef == some v && (g.aligned || g.landing)

/-- R163: a reference start of the link falls now, as an event of its own. -/
def State.referenceDue (s : State) (ch : Channel) : Bool :=
  let g := s.timing.get ch
  g.tracker.state != .off && g.tracker.nextRef == some s.counter
    && !(g.nextStart == s.counter && g.oneEvent s.counter)

/-- R166: the time from a display frame start S to the target, before the clamp. A reference start that falls at S itself is
not after S (DEDUCED, assumption 14). -/
def Tracker.targetDistance (t : Tracker) (v : Time) : Int :=
  let ahead : Nat := match t.nextRef with
    | some r => if r = v then t.period else (r - v).toNat
    | none => t.period
  if t.period ≤ 2 * ahead then ahead else ahead + t.period

/-- R159, R160, R166: a display frame start at V: the period of the frame that begins, and the flags. -/
def LinkTiming.displayStart (g : LinkTiming) (p : ChannelParams) (v : Time) : LinkTiming :=
  if g.oneEvent v then
    let g := LinkTiming.referenceStart { g with aligned := true, landing := false } p v
    { g with start := some v, period := g.tracker.period }
  else
    match g.source with
    | .internal => { g with start := some v, period := p.periodNom, aligned := false, landing := false }
    | .tracked =>
      let distance := g.tracker.targetDistance v
      let period := p.clampPeriod distance
      { g with start := some v, period := period, aligned := false, landing := (period : Int) == distance }

/-- R169: GENLOCK_LOST is evaluated at a display frame start while the tracker is not OFF. -/
def State.evaluateGenlock (s : State) (ch : Channel) : State :=
  let t := (s.timing.get ch).tracker
  if t.state = .off then s
  else s.evaluate ch .genlockLost (if t.locked then none else some t.state.code)

/-- R170: VIEW-RESTART of the channel: the source becomes INTERNAL and a tracker not OFF is put back into ACQUIRE,
with its next reference start at the link's next display frame start. -/
def LinkTiming.restart (g : LinkTiming) (p : ChannelParams) : LinkTiming :=
  { g with
    source := .internal, aligned := false, landing := false
    tracker := if g.tracker.state = .off then g.tracker else g.tracker.acquire p g.nextStart }

/-! ## The tick's effects (R158) -/

/-- R146: DISP_SILENT is evaluated at a supervision tick and the status-seen flag cleared. -/
def State.tickDisplay (s : State) (ch : Channel) : State :=
  let l := s.link.get ch
  if l.statusSeen then
    (s.setLink ch { l with statusSeen := false, silentTicks := 0 }).evaluate ch .dispSilent none
  else
    (s.setLink ch { l with silentTicks := upTo255 l.silentTicks }).evaluate ch .dispSilent
      (some (upTo255 l.silentTicks))

/-- R25: the table after one in cyclic id order. -/
def TableId.next (t : TableId) : TableId := (tableOfNumber ((t.number + 1) % 13)).getD .faultActions

/-- R25: the tables from a position onward in cyclic order, as many as given. -/
def tablesFrom : (n : Nat) → TableId → List TableId
  | 0, _ => []
  | n + 1, t => t :: tablesFrom n t.next

/-- R25: a supervision tick at the table engine. -/
def State.tickScrub (s : State) : State :=
  match s.tables.scrub with
  | some _ => s
  | none =>
    match (tablesFrom 13 s.tables.scrubPosition).find? s.isValid with
    | none => s
    | some t =>
      s.setTables { s.tables with
        scrubPosition := t.next
        scrub := some { table := t, suspended := !s.tables.verifyQueue.isEmpty, reached := 0, acc := .start } }

/-- R158: the reactions to a supervision tick. -/
def State.superviseTick (s : State) : State :=
  let s := { s with lastTick := some s.counter }
  let s := (s.tickCamera .left).tickCamera .right
  let s := (s.tickDisplay .left).tickDisplay .right
  let s := s.tickScrub
  (s.tickPass .left).tickPass .right

/-! ## Meanings -/

/-- SUPERVISION_TICK (R158), taken when the tick is due (R156). -/
def execSupervisionTick (s : State) : Host.Outcome State Fault Refusal :=
  whenRunning s fun s => if s.tickDue then s.superviseTick else s

/-- PASS_TIMEOUT (R52): the channel's WAITING pass, its tick count at 1, meets the tick that is due and is answered TIMEOUT.
The tick's other effects are SUPERVISION_TICK's (DESIGN CHOICE, assumption 13). -/
def execPassTimeout (ch : Channel) (s : State) : Host.Outcome State Fault Refusal :=
  whenRunning s fun s =>
    match (s.receiver.get ch).pass with
    | .waiting _ _ 1 => if s.tickDue then s.endPass ch .timeout [] else s
    | _ => s

/-- REFERENCE_START (R163), taken when the tracker's next reference start falls now. -/
def execReferenceStart (ch : Channel) (s : State) : Host.Outcome State Fault Refusal :=
  whenRunning s fun s =>
    if s.referenceDue ch then
      s.setTiming ch ((s.timing.get ch).referenceStart (s.params.get ch) s.counter)
    else s

/-- R165: the reference start due now is the empty one at which the tracker enters HOLDOVER. -/
def Tracker.losesCamera (t : Tracker) : Bool :=
  t.frameEnd.isNone && (t.state == .acquire || t.state == .track) && 2 ≤ t.emptyCount

/-- HOLDOVER (R165, R167): at the reference start due now the empty count reaches 3 and the tracker enters HOLDOVER, its
period held; the start's other effects are REFERENCE_START's (DESIGN CHOICE, assumption 13). Where that reference start is
one event with a display frame start (R166), it is not due by itself: HOLDOVER changes nothing there, and
DISPLAY_FRAME_START carries the entry to HOLDOVER (DESIGN CHOICE, assumption 13). -/
def execHoldover (ch : Channel) (s : State) : Host.Outcome State Fault Refusal :=
  whenRunning s fun s =>
    let g := s.timing.get ch
    if s.referenceDue ch ∧ g.tracker.losesCamera then
      s.setTiming ch (LinkTiming.revert { g with tracker := g.tracker.countEmpty })
    else s

end Sys2Proof.Machine
end

