-- ==== Sys2Proof/Machine/Reset.lean ====
section
/-! DEFINITION. The four part resets (R207 to R209, R192). -/

namespace Sys2Proof.Machine

/-- R208: every block at its reset values. The coverage records (R30), the levels of the lines, the reset conditions, the
reset cause record and the model's own queue and draw counter stand as they are. -/
def State.resetImage (s : State) : State :=
  { State.reset with
    pending := s.pending, pins := s.pins, hold := s.hold, coverage := s.coverage, resetRecord := s.resetRecord
    draws := s.draws }

/-- R207: a part reset begins: all work in flight ends and FAULT_N is released. -/
def State.beginReset (s : State) (hold : ResetHold) : State := { s.resetImage with hold := hold }

/-- R208, R192: a part reset completes: MODE is sampled and written with the cause. -/
def State.completeReset (s : State) (cause : ResetCause) : State :=
  { s.resetImage with
    hold := { s.hold with fromPower := false }
    resetRecord := { cause := cause, mode := s.pins.modeStrap } }

/-- R192, R207: a condition that held the part has ended; the reset completes when it was the last. A reset that began with
power being applied is recorded POWER-ON. -/
def State.endCondition (s : State) (hold : ResetHold) (cause : ResetCause) : State :=
  let s := { s with hold := hold }
  if s.held then s else s.completeReset (if hold.fromPower then .powerOn else cause)

/-! ## Meanings -/

/-- POWER_ON (R207). -/
def execPowerOn (s : State) : Host.Outcome State Fault Refusal :=
  .next (s.beginReset { s.hold with powerOn := true, fromPower := true })

/-- POWER_ON_CONDITION_END (R207, R208). -/
def execPowerOnConditionEnd (s : State) : Host.Outcome State Fault Refusal :=
  .next (if s.hold.powerOn then s.endCondition { s.hold with powerOn := false } .powerOn else s)

/-- RESET_N_ASSERT (R207). -/
def execResetNAssert (s : State) : Host.Outcome State Fault Refusal :=
  .next (s.beginReset { s.hold with resetN := true })

/-- RESET_N_DEASSERT (R207, R208). -/
def execResetNDeassert (s : State) : Host.Outcome State Fault Refusal :=
  .next (if s.hold.resetN then s.endCondition { s.hold with resetN := false } .line else s)

/-- REFCLK_LOSS (R207). -/
def execRefclkLoss (s : State) : Host.Outcome State Fault Refusal :=
  .next (s.beginReset { s.hold with clockAbsent := true })

/-- REFCLK_RETURN (R207, R208). -/
def execRefclkReturn (s : State) : Host.Outcome State Fault Refusal :=
  .next (if s.hold.clockAbsent then s.endCondition { s.hold with clockAbsent := false } .clock else s)

end Sys2Proof.Machine
end

