-- ==== Sys2Proof/Machine/Display.lean ====
section
/-! DEFINITION. The display frame, from its start to the end of its ancillary area (R58 to R69, R98 to R116, R138 to R144,
R149, R150). -/

namespace Sys2Proof.Machine

/-! ## The display frame start -/

/-- R59: the active line in progress ends, and a released SHOWN buffer becomes FREE. -/
def State.endLine (s : State) (ch : Channel) : State :=
  let l := s.link.get ch
  (s.setLink ch { l with frame := { l.frame with lineInProgress := none } }).setStore ch (s.store.get ch).freeReleased

/-- R138: the frame that begins takes the sequence number, and the count rises by one. -/
def State.giveSequence (s : State) (ch : Channel) : State :=
  let l := s.link.get ch
  s.setLink ch { l with frameSeq := l.nextSeq, nextSeq := l.nextSeq + 1 }

/-- R62, step 1: the view may become LIVE. -/
def State.mayGoLive (s : State) (ch : Channel) : Bool :=
  s.meshValid ch && !s.withheld ch && (s.store.get ch).hasReady

/-- R58: the view controller takes the READY buffer. -/
def State.takeBuffer (s : State) (ch : Channel) : State := s.setStore ch (s.store.get ch).take

/-- R58: the view controller repeats the SHOWN buffer. -/
def State.repeatBuffer (s : State) (ch : Channel) : State := s.setStore ch (s.store.get ch).repeatShown

/-- R62: the decision of a frame, and whether the frame is fresh. -/
def State.decide (s : State) (ch : Channel) : State × Bool :=
  let v := s.view.get ch
  match v.state with
  | .live =>
    if (s.store.get ch).hasReady then (s.takeBuffer ch, true) else (s.repeatBuffer ch, false)
  | .hold =>
    if s.mayGoLive ch then ((s.setViewState ch .live 0).takeBuffer ch, true)
    else if (s.params.get ch).holdLimit ≤ v.holdTimer + 1 then (s.enterFallback ch, false)
    else ((s.setViewState ch .hold (v.holdTimer + 1)).repeatBuffer ch, false)
  | .start | .fallback =>
    if s.mayGoLive ch then ((s.setViewState ch .live 0).takeBuffer ch, true) else (s, false)

/-- R79: the mesh of a frame that shows a buffer. -/
def State.chooseMesh (s : State) (ch : Channel) : MeshChoice :=
  if s.pins.turn.get ch ∧ s.meshCount ch = 2 then .turn else .primary

/-- R60: the display frame record filled after the decision. -/
def State.fillRecord (s : State) (ch : Channel) (fresh : Bool) : State :=
  let v := s.view.get ch
  let buffer := if v.state.showsBuffer then (s.store.get ch).find Buffer.isShown else none
  let mesh := if buffer.isSome then some (s.chooseMesh ch) else none
  let night := (s.glare.get ch).night
  s.setView ch { v with
    record := some
      { seq := (s.link.get ch).frameSeq, start := s.counter, view := v.state, buffer := buffer
        fresh := fresh && buffer.isSome, mesh := mesh, night := night
        conditions := s.conditions ch v.state mesh night } }

/-- R78, R88, R115, R119: the items a frame uses, as they stand at its start. -/
def State.itemsInUse (s : State) (ch : Channel) (r : FrameRecord) : FrameItems :=
  { mesh := match r.mesh with
      | some choice => s.meshInUse ch choice
      | none => []
    knots := s.knotsInUse ch r.night
    response := s.responseInUse ch
    overlay := s.overlayInUse ch }

/-- R98, R139, R149: the frame's lines, signature and hot counts begin. -/
def State.beginLines (s : State) (ch : Channel) : State :=
  match (s.view.get ch).record with
  | none => s
  | some r =>
    let l := s.link.get ch
    let s := s.setLink ch { l with
      frame := { stage := .activeLines, nextLine := 0, lineInProgress := none, signature := .start
                 items := s.itemsInUse ch r } }
    if r.buffer.isSome then s.setGlare ch { s.glare.get ch with hot := List.replicate 80 0 } else s

/-- R60, R62: the view controller's part of a display frame start. -/
def State.decideFrame (s : State) (ch : Channel) : State :=
  let decided := s.decide ch
  (decided.1.fillRecord ch decided.2).beginLines ch

/-- R60 to R63, R169: the decision of the frame and the evaluation of GENLOCK_LOST, whose order the manual leaves open
(DESIGN CHOICE, assumption 6). -/
def State.decideAndEvaluate (s : State) (ch : Channel) : State :=
  if (s.timing.get ch).tracker.state = .off then s.decideFrame ch
  else
    let first := Config.genlockFirst s.draws
    let s := { s with draws := s.draws + 1 }
    if first then (s.evaluateGenlock ch).decideFrame ch else (s.decideFrame ch).evaluateGenlock ch

/-- R19, R138, R205: what a display frame start does before the frame is decided. The sequence number is given before the
swaps (DEDUCED, assumption 18). -/
def State.openFrame (s : State) (ch : Channel) : State := ((s.endLine ch).giveSequence ch).displayBoundary ch

/-- R62, R138, R159: a display frame start of a link. R181 leaves open which of its evaluations is taken first: the model
takes the TABLE_CORRUPT evaluation of a swap over a CORRUPT bank (R20) always before GENLOCK_LOST (R169), and so are their
history records written (DESIGN CHOICE, assumption 15). -/
def State.startFrame (s : State) (ch : Channel) : State :=
  let s := s.openFrame ch
  let s := s.setTiming ch ((s.timing.get ch).displayStart (s.params.get ch) s.counter)
  s.decideAndEvaluate ch

/-- R62, step 3: at this display frame start the hold timer reaches HOLD_LIMIT, with what takes effect at the start in
force. -/
def State.reachesHoldLimit (s : State) (ch : Channel) : Bool :=
  let s := s.openFrame ch
  (s.view.get ch).state == .hold && !s.mayGoLive ch
    && (s.params.get ch).holdLimit ≤ (s.view.get ch).holdTimer + 1

/-! ## Active lines -/

/-- R67, R97, R124, R139, R149: an active line starts, drawn by the record as it stands. -/
def State.startLine (s : State) (ch : Channel) : State :=
  let l := s.link.get ch
  let f := l.frame
  match (s.view.get ch).record with
  | none => s
  | some r =>
    let rendered := s.renderLine ch r f.nextLine
    let window := (s.params.get ch).checkWindow
    ((s.setLink ch { l with
        frame := { f with
          nextLine := f.nextLine + 1
          lineInProgress := some f.nextLine
          signature := f.signature.over (windowBytes window rendered.1 f.nextLine) } }).setGlare ch
      { s.glare.get ch with hot := rendered.2 }).setOutputs ch
      { s.outputs.get ch with lineOut := rendered.1 }

/-- R139: a line of the frame can start: its active lines go on, none is in progress, and one is left. -/
def State.lineCanStart (s : State) (ch : Channel) : Bool :=
  let f := (s.link.get ch).frame
  f.stage == .activeLines && f.lineInProgress.isNone && f.nextLine < (s.params.get ch).dispHeight

/-- R139: the frame's last active line has ended. -/
def State.frameCanEnd (s : State) (ch : Channel) : Bool :=
  let f := (s.link.get ch).frame
  f.stage == .activeLines && f.lineInProgress.isNone && (s.params.get ch).dispHeight ≤ f.nextLine

/-! ## The display frame end -/

/-- R150: an entry is pushed; the oldest of 4 is first removed. -/
def pushExpected (queue : List (Seq × Check)) (entry : Seq × Check) : List (Seq × Check) :=
  (if 4 ≤ queue.length then queue.drop 1 else queue) ++ [entry]

/-- R68: the outcome of LATENCY for a picture that arrived at one time and was first shown at another. -/
def latencyOutcome (limit : Nat) (start arrival : Time) : Option Nat :=
  let age := timeDiff start arrival
  if (limit : Int) < age then some age.toNat else none

/-- R69: the outcome of VIEW_STALE when it is evaluated: by the record's view state, whether a READY buffer exists, and the
SHOWN buffer's times shown. -/
def staleOutcome (limit : Nat) (view : ViewState) (ready : Bool) (times : Option Nat) : Option (Option Nat) :=
  if ready then some none
  else
    match view, times with
    | .live, some n => if limit ≤ n then some (some n) else none
    | .hold, some n => if limit ≤ n then some (some n) else none
    | _, _ => none

/-- R98, R101, R150: what the display frame end updates before its evaluations: the last counts, the tile map of a fresh
frame, and the signature queue. -/
def State.closeLines (s : State) (ch : Channel) (r : FrameRecord) : State :=
  let p := s.params.get ch
  let l := s.link.get ch
  let g := s.glare.get ch
  let g := if r.buffer.isSome then { g with last := g.hot } else g
  let g := if r.fresh then g.update p l.frame.items.response r.night else g
  (s.setGlare ch g).setLink ch { l with
    expected := pushExpected l.expected (r.seq, l.frame.signature.value)
    frame := { l.frame with stage := .ended } }

/-- R68, R69, R107: the evaluations of a display frame end, all made from the record and the buffers as the frame ended
(DESIGN CHOICE, assumption 15). -/
def State.evaluateFrameEnd (s : State) (ch : Channel) (r : FrameRecord) : State :=
  let p := s.params.get ch
  let fs := s.store.get ch
  let stale := staleOutcome p.repeatLimit r.view fs.hasReady (fs.shownPicture.map Prod.snd)
  let inGlare := (s.glare.get ch).tilesInGlare
  let s := match r.fresh, fs.shownPicture with
    | true, some (pic, _) => s.evaluate ch .latency (latencyOutcome p.latencyLimit r.start pic.arrival)
    | _, _ => s
  let s := match stale with
    | some outcome => s.evaluate ch .viewStale outcome
    | none => s
  if r.fresh then s.evaluate ch .glareSaturated (if p.glareTileLimit ≤ inGlare then some inGlare else none) else s

/-- R68, R69, R98, R101, R107, R150: the display frame end. -/
def State.endFrame (s : State) (ch : Channel) : State :=
  match (s.view.get ch).record with
  | none => s
  | some r => (s.closeLines ch r).evaluateFrameEnd ch r

/-! ## The ancillary area -/

/-- R213: the header's flags. -/
def State.headerFlags (s : State) (ch : Channel) (r : FrameRecord) : Nat :=
  bitsOf [r.fresh, r.night, r.mesh == some .turn, (s.entries.get ch).any FaultEntry.unacknowledged, s.faultN,
    (s.link.get ch).rxDiscard, (s.timing.get ch).source == .tracked, false]

/-- R140: the number of answer cells an area carries. -/
def State.answersFollowing (s : State) (ch : Channel) : Nat := min 8 (s.link.get ch).answers.length

/-- R141, R213: the header cell. -/
def State.headerBytes (s : State) (ch : Channel) (r : FrameRecord) : List Byte :=
  withCheck (toLe 1 32 ++ toLe 2 r.seq.toNat ++ toLe 1 r.view.code ++ toLe 1 (s.headerFlags ch r)
    ++ toLe 1 (s.glare.get ch).tilesInGlare
    ++ toLe 2 ((s.entries.get ch).flagWord FaultEntry.isActive) ++ toLe 2 ((s.entries.get ch).flagWord FaultEntry.isLatched)
    ++ toLe 1 s.historyCount.toNat ++ toLe 1 (s.timing.get ch).tracker.state.code
    ++ toLe 1 (8 - s.slotsHeld ch) ++ toLe 1 (s.answersFollowing ch))

/-- R140, R141, R144: the header cell is built and sent, fixing the answers of its area and clearing RX-DISCARD. -/
def State.sendHeader (s : State) (ch : Channel) : State :=
  match (s.view.get ch).record with
  | none => s
  | some r =>
    let l := s.link.get ch
    (s.setLink ch { l with
        rxDiscard := false
        frame := { l.frame with stage := .ancillary (s.answersFollowing ch) false } }).setOutputs ch
      { s.outputs.get ch with cellOut := s.headerBytes ch r }

/-- R140: the oldest answer is sent in the area; it leaves the queue and its slot is freed. -/
def State.sendAnswer (s : State) (ch : Channel) (remaining : Nat) (carriedReset : Bool) : State :=
  let l := s.link.get ch
  match l.answers with
  | [] => s
  | a :: rest =>
    (s.setLink ch { l with
        answers := rest
        frame := { l.frame with stage := .ancillary (remaining - 1) (carriedReset || a.isPartReset) } }).setOutputs ch
      { s.outputs.get ch with cellOut := a.cell }

/-! ## Meanings -/

/-- DISPLAY_FRAME_START (R62, R138, R159), taken when the link's next display frame start falls now. -/
def execDisplayFrameStart (ch : Channel) (s : State) : Host.Outcome State Fault Refusal :=
  whenRunning s fun s => if s.startDue ch then s.startFrame ch else s

/-- HOLD_LIMIT_REACHED (R62, R65): at the display frame start due now the hold timer reaches HOLD_LIMIT and the view enters
FALLBACK; the start's other effects are DISPLAY_FRAME_START's (DESIGN CHOICE, assumption 13). -/
def execHoldLimitReached (ch : Channel) (s : State) : Host.Outcome State Fault Refusal :=
  whenRunning s fun s => if s.startDue ch ∧ s.reachesHoldLimit ch then s.enterFallback ch else s

/-- ACTIVE_LINE_START (R124, R139). -/
def execActiveLineStart (ch : Channel) (s : State) : Host.Outcome State Fault Refusal :=
  whenRunning s fun s => if s.lineCanStart ch then s.startLine ch else s

/-- ACTIVE_LINE_END (R59). -/
def execActiveLineEnd (ch : Channel) (s : State) : Host.Outcome State Fault Refusal :=
  whenRunning s fun s => if (s.link.get ch).frame.lineInProgress.isSome then s.endLine ch else s

/-- DISPLAY_FRAME_END (R68). -/
def execDisplayFrameEnd (ch : Channel) (s : State) : Host.Outcome State Fault Refusal :=
  whenRunning s fun s => if s.frameCanEnd ch then s.endFrame ch else s

/-- HEADER_CELL (R141). -/
def execHeaderCell (ch : Channel) (s : State) : Host.Outcome State Fault Refusal :=
  whenRunning s fun s => if (s.link.get ch).frame.stage = .ended then s.sendHeader ch else s

/-- ANSWER_CELL_SENT (R140). -/
def execAnswerCellSent (ch : Channel) (s : State) : Host.Outcome State Fault Refusal :=
  whenRunning s fun s =>
    match (s.link.get ch).frame.stage with
    | .ancillary (n + 1) carried => s.sendAnswer ch (n + 1) carried
    | _ => s

/-- ANCILLARY_AREA_END (R139, R142, R209). -/
def execAncillaryAreaEnd (ch : Channel) (s : State) : Host.Outcome State Fault Refusal :=
  whenRunning s fun s =>
    match (s.link.get ch).frame.stage with
    | .ancillary 0 true => s.completeReset .management
    | .ancillary 0 false =>
      let l := s.link.get ch
      s.setLink ch { l with frame := { l.frame with stage := .blanking } }
    | _ => s

end Sys2Proof.Machine
end

