-- ==== Sys2Proof/Machine/ReturnCells.lean ====
section
/-! DEFINITION. The meanings of the return cells (R143 to R151, R197) and of the agent's choice (R198). -/

namespace Sys2Proof.Machine

/-- R143, R144: a return cell is discarded and sets the link's RX-DISCARD flag. -/
def State.discardCell (s : State) (link : Channel) : State :=
  s.setLink link { s.link.get link with rxDiscard := true }

/-- R145, R153: an accepted MONITOR-STATUS sets the status-seen flag and is kept as the last status. -/
def State.seeStatus (s : State) (link : Channel) (lux : BitVec 16) (fault : Bool) : State :=
  s.setLink link { s.link.get link with statusSeen := true, lastStatus := some (lux, fault) }

/-- R145: an accepted MONITOR-STATUS. -/
def State.takeStatus (s : State) (link : Channel) (lux : BitVec 16) (fault : Bool) : State :=
  ((s.seeStatus link lux fault).nightReading link lux.toNat).evaluate link .dispBacklight
    (if fault then some lux.toNat else none)

/-- R151: the entries newer than the one of a sequence number, and that one's signature; none when the queue holds no such
entry. -/
def matchSignature (queue : List (Seq × Check)) (seq : Seq) : Option (Check × List (Seq × Check)) :=
  match queue with
  | [] => none
  | e :: rest => if e.1 = seq then some (e.2, rest) else matchSignature rest seq

/-- R151: an accepted SIGNATURE is matched against the expected signature queue. -/
def State.takeSignature (s : State) (link : Channel) (seq : Seq) (value : Check) : State :=
  match matchSignature (s.link.get link).expected seq with
  | none => s.evaluate link .dispMismatch (some seq.toNat)
  | some (expected, newer) =>
    (s.setLink link { s.link.get link with expected := newer }).evaluate link .dispMismatch
      (if expected = value then none else some seq.toNat)

/-- R197: a REQUEST that passed its checks takes a slot and joins the link's request queue, or is discarded for lack of
one. -/
def State.acceptRequest (s : State) (r : Request) : State :=
  if 8 ≤ s.slotsHeld r.link then s.discardCell r.link
  else s.setLink r.link { s.link.get r.link with requests := (s.link.get r.link).requests ++ [r] }

/-- The other link. -/
def otherLink : Channel → Channel
  | .left => .right
  | .right => .left

/-- R198: the link whose oldest request the FREE agent takes; none when both queues are empty. -/
def State.linkToServe (s : State) : Option Channel :=
  let next := otherLink s.agent.lastServed
  if (s.link.get next).requests ≠ [] then some next
  else if (s.link.get s.agent.lastServed).requests ≠ [] then some s.agent.lastServed
  else none

/-- R198: the agent takes the oldest request of a link. -/
def State.serve (s : State) (link : Channel) : State :=
  match (s.link.get link).requests with
  | [] => s
  | r :: rest =>
    (s.setLink link { s.link.get link with requests := rest }).setAgent { executing := some r, lastServed := link }

/-! ## Meanings -/

/-- MONITOR_STATUS (R143, R145). -/
def execMonitorStatus (link : Channel) (cell : List Byte) (s : State) : Host.Outcome State Fault Refusal :=
  whenRunning s fun s =>
    match readReturnCell cell with
    | .monitorStatus lux fault => s.takeStatus link lux fault
    | .discarded => s.discardCell link
    | _ => s

/-- SIGNATURE (R143, R151). -/
def execSignature (link : Channel) (cell : List Byte) (s : State) : Host.Outcome State Fault Refusal :=
  whenRunning s fun s =>
    match readReturnCell cell with
    | .signature seq value => s.takeSignature link seq value
    | .discarded => s.discardCell link
    | _ => s

/-- REQUEST_CELL (R143, R147, R197). -/
def execRequestCell (link : Channel) (cell : List Byte) (s : State) : Host.Outcome State Fault Refusal :=
  whenRunning s fun s =>
    match readReturnCell cell with
    | .request tag kind channel item payload =>
      s.acceptRequest { link := link, tag := tag, kind := kind, channel := channel, item := item, payload := payload }
    | .discarded => s.discardCell link
    | _ => s

/-- RETURN_CELL_DISCARD (R143, R144). -/
def execReturnCellDiscard (link : Channel) (cell : List Byte) (s : State) : Host.Outcome State Fault Refusal :=
  whenRunning s fun s =>
    match readReturnCell cell with
    | .discarded => s.discardCell link
    | _ => s

/-- AGENT_TAKES_REQUEST (R198). -/
def execAgentTakesRequest (s : State) : Host.Outcome State Fault Refusal :=
  whenRunning s fun s =>
    match s.agent.executing, s.linkToServe with
    | none, some link => s.serve link
    | _, _ => s

end Sys2Proof.Machine
end

