-- ==== Sys2Proof/Machine/Engine.lean ====
section
/-! DEFINITION. The table engine (R16 to R18, R26, R27): verifies and scrub steps. -/

namespace Sys2Proof.Machine

/-- R18: the answer to a COMMIT whose verify ended with an outcome. -/
def VerifyOutcome.answer (o : VerifyOutcome) : Result × List Byte :=
  match o with
  | .checksum computed => (.checksum, toLe 4 computed.toNat)
  | .invalid item => (.invalid, toLe 2 item)
  | .coverage mesh edge => (.coverage, toLe 1 mesh ++ toLe 1 (edgeCode edge))
  | .ok => (.ok, [])

/-- R142: the held COMMIT of a VERIFYING bank is answered on its owner link. -/
def State.answerCommit (s : State) (load : Load) (tag : Byte) (result : Result) (payload : List Byte) : State :=
  s.answer load.owner { tag := tag, kind := 5, result := result, payload := payload }

/-- R16: an id leaves the verify queue; a verify of it that runs stops. -/
def State.leaveQueue (s : State) (t : TableId) : State :=
  let s := s.setVerifyQueue (s.tables.verifyQueue.filter fun u => u != t)
  if s.tables.verifying = some t then s.setTables { s.tables with verifying := none } else s

/-- R19: what a bank newly in SWAP-WAIT meets at the verify end: a part-wide table swaps at once, a camera-side one when no
camera frame is in progress. -/
def State.swapAtVerifyEnd (s : State) (t : TableId) : State :=
  match t with
  | .faultActions => s.swapIfWaiting .faultActions
  | .develop ch => s.cameraBoundaryIfIdle ch
  | .defectList ch => s.cameraBoundaryIfIdle ch
  | .warpMesh _ | .toneCurves _ | .glareResponse _ | .overlaySet _ => s

/-- R18: a verify of a table ends. -/
def State.endVerify (s : State) (t : TableId) (load : Load) (supplied : Check) (tag : Byte) : State :=
  let outcome := s.verifyOutcome t load supplied
  let s := s.answerCommit load tag outcome.answer.1 outcome.answer.2
  if outcome = .ok then
    ((s.setStaged t (.swapWait load supplied)).swapAtVerifyEnd t).leaveQueue t
  else (s.setStaged t .idle).leaveQueue t

/-- R26: the bytes a scrub step reads, from byte 0 to the directory length minus 1. -/
def TableEntry.scrubbed (e : TableEntry) : List Byte := e.active.bytes.take e.active.length

/-- R26: the pair sum of a scrub step after its last byte. -/
def ScrubStep.finish (st : ScrubStep) (e : TableEntry) : Check := (st.acc.over (e.scrubbed.drop st.reached)).value

/-- R26: a mismatch observes TABLE_CORRUPT for a channel with the table id. -/
def State.observeCorrupt (s : State) (t : TableId) (ch : Channel) : State := s.evaluate ch .tableCorrupt (some t.number)

/-- R63, R66: the view controllers learn that a table is not VALID; only a Warp Mesh concerns them. -/
def State.tellMeshLost (s : State) (t : TableId) : State :=
  match t with
  | .warpMesh ch => s.onMeshLost ch
  | .develop _ | .defectList _ | .toneCurves _ | .glareResponse _ | .overlaySet _ | .faultActions => s

/-- R26: a table's active bank becomes CORRUPT. -/
def State.markCorrupt (s : State) (t : TableId) : State :=
  let e := s.table t
  s.setTable t { e with active := { e.active with state := .corrupt } }

/-- R26: a scrub step ends. On a mismatch TABLE_CORRUPT is observed before the view reacts to a lost mesh (DEDUCED, assumption 16). -/
def State.endScrub (s : State) (st : ScrubStep) : State :=
  let e := s.table st.table
  let s := s.setTables { s.tables with scrub := none }
  if st.finish e = e.active.checksum then s.evaluateTableCorruptFor st.table.channels
  else
    (st.table.channels.foldl (fun s ch => s.observeCorrupt st.table ch) (s.markCorrupt st.table)).tellMeshLost st.table

/-- R26: a scrub step in flight has read some more bytes (DESIGN CHOICE, assumption 7). -/
def ScrubStep.advance (st : ScrubStep) (e : TableEntry) (count : Nat) : ScrubStep :=
  if st.suspended then st
  else
    let bytes := (e.scrubbed.drop st.reached).take count
    { st with reached := st.reached + bytes.length, acc := st.acc.over bytes }

/-! ## Meanings -/

/-- VERIFY_START (R16). -/
def execVerifyStart (s : State) : Host.Outcome State Fault Refusal :=
  whenRunning s fun s =>
    match s.tables.verifying, s.tables.verifyQueue with
    | none, t :: _ => s.setTables { s.tables with verifying := some t }
    | _, _ => s

/-- VERIFY_END (R17, R18). -/
def execVerifyEnd (s : State) : Host.Outcome State Fault Refusal :=
  whenRunning s fun s =>
    match s.tables.verifying with
    | none => s
    | some t =>
      match (s.table t).staged with
      | .verifying load supplied tag => s.endVerify t load supplied tag
      | _ => s

/-- SCRUB_STEP_END (R26). -/
def execScrubStepEnd (s : State) : Host.Outcome State Fault Refusal :=
  whenRunning s fun s =>
    match s.tables.scrub with
    | none => s
    | some st => if st.suspended then s else s.endScrub st

end Sys2Proof.Machine
end

