-- ==== Sys2Proof/Machine/Requests.lean ====
section
/-! DEFINITION. The meanings of SET (R203 to R205) and of the table requests (R11 to R15, R22 to R24). Each names the moment
the request's execution ends (R199). The tests of channel, table id, item or parameter id come first, then the payload
length, then the rule's other tests (R201). -/

namespace Sys2Proof.Machine

/-! ## The rows of the requests -/

/-- The request is of a kind. -/
def Request.isKind (k : RequestKind) (r : Request) : Bool := r.kindOf == k

/-- The request is a QUERY of a record kind. -/
def Request.isQuery (k : RecordKind) (r : Request) : Bool := r.isKind .query && r.recordKind == some k

/-- The request is a TABLE-LOCK with an action; `none` names the unknown ones. -/
def Request.isLock (a : Option LockAction) (r : Request) : Bool := r.isKind .tableLock && r.lockAction == a

/-- The request is a TIMING of an item; `none` names the unknown ones. -/
def Request.isTiming (i : Option TimingItem) (r : Request) : Bool := r.isKind .timing && r.timingItem == i

/-- R199: the request is refused with a result and no payload. -/
def State.refuse (s : State) (r : Request) (result : Result) : State := s.finish r result []

/-- R201: a request whose kind admits one payload length only; its other tests follow. -/
def State.withLength (s : State) (r : Request) (length : Nat) (run : State) : State :=
  if r.payload.length = length then run else s.refuse r .length

/-- A request that names L or R in its channel field: RANGE for any other code. -/
def State.onChannel (s : State) (r : Request) (run : Channel → State) : State :=
  match channelOf r.channel with
  | some ch => run ch
  | none => s.refuse r .range

/-- R11: a request that names its table by id in its item field: RANGE for an id outside 0..12. -/
def State.onTable (s : State) (r : Request) (run : TableId → State) : State :=
  match tableOfNumber r.item.toNat with
  | some t => run t
  | none => s.refuse r .range

/-! ## SET -/

/-- R205: a value taken is staged by its parameter's class. -/
def State.stageValue (s : State) (ch : Channel) (p : Param) (v : List Nat) : State :=
  match p.cls with
  | .part => s.putPartWide ch p v
  | .camera => (s.setPending ch (addPending (s.pendingParams.get ch) p v)).cameraBoundaryIfIdle ch
  | .display => s.setPending ch (addPending (s.pendingParams.get ch) p v)

/-- R203, test 2: the channel a SET or a QUERY of a parameter concerns; the part-wide ones do not examine the field. -/
def paramChannel (p : Param) (code : Byte) : Option Channel := if p.partScope then some .left else channelOf code

/-- R203 to R205: a SET of a parameter of a channel, its payload of the parameter's width. -/
def State.setValue (s : State) (r : Request) (ch : Channel) (p : Param) : State :=
  let written := p.read r.payload
  if p.badCode written then s.refuse r .range
  else (s.stageValue ch p (p.taken written)).finish r (if p.taken written = written then .ok else .clamped)
    (p.write (p.taken written))

/-- R203: a SET. -/
def State.runSet (s : State) (r : Request) : State :=
  match paramOfId r.item with
  | none => s.refuse r .range
  | some p =>
    match paramChannel p r.channel with
    | none => s.refuse r .range
    | some ch => s.withLength r p.width (s.setValue r ch p)

/-! ## Loads -/

/-- R10: the owner link of a staged bank; none in IDLE. -/
def Staged.owner : Staged → Option Channel
  | .idle => none
  | .loading load => some load.owner
  | .verifying load _ _ => some load.owner
  | .swapWait load _ => some load.owner

/-- R12: a TABLE-OPEN of a table. -/
def State.openLoad (s : State) (r : Request) (t : TableId) : State :=
  let e := s.table t
  let declared := le16 r.payload 0
  if e.lock ≠ .unlocked then s.refuse r .locked
  else if e.staged ≠ .idle then s.refuse r .busy
  else if t.legalLength declared then
    (s.setStaged t (.loading { declared := declared, owner := r.link, bytes := [] })).finish r .ok []
  else s.refuse r .length

/-- R214: the bytes received, as a TABLE-DATA answer carries them: only of a LOADING bank that the requesting link owns
(DEDUCED, assumption 23). -/
def State.received (s : State) (r : Request) (t : TableId) : List Byte :=
  match (s.table t).staged with
  | .loading load => if load.owner = r.link then toLe 2 load.bytes.length else []
  | _ => []

/-- R13: a TABLE-DATA of a load that the requesting link owns. -/
def State.loadData (s : State) (r : Request) (t : TableId) (load : Load) : State :=
  let data := r.payload.drop 2
  if (s.table t).lock ≠ .unlocked then s.refuse r .locked
  else if le16 r.payload 0 ≠ load.bytes.length then s.finish r .order (s.received r t)
  else if data.length < 1 ∨ 44 < data.length ∨ load.declared < le16 r.payload 0 + data.length then
    s.finish r .length (s.received r t)
  else
    let s := s.setStaged t (.loading { load with bytes := load.bytes ++ data })
    s.finish r .ok (s.received r t)

/-- R13: a TABLE-DATA of a table. -/
def State.takeData (s : State) (r : Request) (t : TableId) : State :=
  match (s.table t).staged with
  | .loading load => if load.owner = r.link then s.loadData r t load else s.refuse r .sequence
  | _ => s.refuse r .sequence

/-- R14, R199: a TABLE-COMMIT is taken: the verify is queued and the answer held. -/
def State.commit (s : State) (r : Request) (t : TableId) (load : Load) : State :=
  ((s.setStaged t (.verifying load (BitVec.ofNat 32 (le32 r.payload 0)) r.tag)).setVerifyQueue
    (s.tables.verifyQueue ++ [t])).freeAgent

/-- R14: a TABLE-COMMIT of a load that the requesting link owns. -/
def State.commitLoad (s : State) (r : Request) (t : TableId) (load : Load) : State :=
  if (s.table t).lock ≠ .unlocked then s.refuse r .locked
  else if load.bytes.length < load.declared then s.finish r .length (toLe 2 load.bytes.length)
  else s.commit r t load

/-- R14: a TABLE-COMMIT of a table. -/
def State.takeCommit (s : State) (r : Request) (t : TableId) : State :=
  if (s.table t).staged.owner ≠ some r.link then s.refuse r .sequence
  else
    match (s.table t).staged with
    | .loading load => s.commitLoad r t load
    | _ => s.refuse r .busy

/-- R15: a TABLE-ABANDON of a table. -/
def State.takeAbandon (s : State) (r : Request) (t : TableId) : State :=
  if (s.table t).staged.owner ≠ some r.link then s.refuse r .sequence
  else
    match (s.table t).staged with
    | .verifying load _ tag =>
      (((s.answerCommit load tag .aborted []).setStaged t .idle).leaveQueue t).finish r .ok []
    | _ => (s.setStaged t .idle).finish r .ok []

/-! ## Locks -/

/-- R214: the code of a lock state. -/
def Lock.code : Lock → Nat
  | .unlocked => 0
  | .locked => 1
  | .lockedDown => 2

/-- R22, R23: the table takes a lock state, answered OK with it as payload. -/
def State.takeLock (s : State) (r : Request) (t : TableId) (lock : Lock) : State :=
  (s.setTable t { s.table t with lock := lock }).finish r .ok (toLe 1 lock.code)

/-- R22: LOCK. -/
def State.lock (s : State) (r : Request) (t : TableId) : State :=
  s.takeLock r t (match (s.table t).lock with | .lockedDown => .lockedDown | _ => .locked)

/-- R22: LOCK-DOWN. -/
def State.lockDown (s : State) (r : Request) (t : TableId) : State := s.takeLock r t .lockedDown

/-- R23: UNLOCK, which looks at DRIVE on a LOCKED-DOWN table. -/
def State.unlock (s : State) (r : Request) (t : TableId) : State :=
  if (s.table t).lock = .lockedDown ∧ s.pins.drive then s.refuse r .drivingProtected else s.takeLock r t .unlocked

/-! ## Meanings -/

/-- SET (R203). -/
def execSet (s : State) : Host.Outcome State Fault Refusal := whenExecuting s (Request.isKind .set) State.runSet

/-- TABLE_OPEN (R11, R12). -/
def execTableOpen (s : State) : Host.Outcome State Fault Refusal :=
  whenExecuting s (Request.isKind .tableOpen) fun s r => s.onTable r fun t => s.withLength r 2 (s.openLoad r t)

/-- TABLE_DATA (R11, R13). -/
def execTableData (s : State) : Host.Outcome State Fault Refusal :=
  whenExecuting s (Request.isKind .tableData) fun s r => s.onTable r fun t =>
    if 2 ≤ r.payload.length ∧ r.payload.length ≤ 48 then s.takeData r t else s.finish r .length (s.received r t)

/-- TABLE_COMMIT (R11, R14). -/
def execTableCommit (s : State) : Host.Outcome State Fault Refusal :=
  whenExecuting s (Request.isKind .tableCommit) fun s r => s.onTable r fun t => s.withLength r 4 (s.takeCommit r t)

/-- TABLE_ABANDON (R11, R15). -/
def execTableAbandon (s : State) : Host.Outcome State Fault Refusal :=
  whenExecuting s (Request.isKind .tableAbandon) fun s r => s.onTable r fun t => s.withLength r 0 (s.takeAbandon r t)

/-- TABLE_LOCK with LOCK (R11, R22). -/
def execTableLockLock (s : State) : Host.Outcome State Fault Refusal :=
  whenExecuting s (Request.isLock (some .lock)) fun s r => s.onTable r fun t => s.withLength r 1 (s.lock r t)

/-- TABLE_LOCK with UNLOCK (R11, R23). -/
def execTableLockUnlock (s : State) : Host.Outcome State Fault Refusal :=
  whenExecuting s (Request.isLock (some .unlock)) fun s r => s.onTable r fun t => s.withLength r 1 (s.unlock r t)

/-- TABLE_LOCK with LOCK-DOWN (R11, R22). -/
def execTableLockLockDown (s : State) : Host.Outcome State Fault Refusal :=
  whenExecuting s (Request.isLock (some .lockDown)) fun s r => s.onTable r fun t => s.withLength r 1 (s.lockDown r t)

/-- TABLE_LOCK with an action that is none of the three (R11, R22), or with no action byte (R201). -/
def execTableLockUnknownAction (s : State) : Host.Outcome State Fault Refusal :=
  whenExecuting s (Request.isLock none) fun s r => s.onTable r fun _ => s.withLength r 1 (s.refuse r .range)

end Sys2Proof.Machine
end

