-- ==== Sys2Proof/Machine/Control.lean ====
section
/-! DEFINITION. The meanings of FAULT-ACK, FAULT-CLEAR, VIEW-RESTART, TIMING, CAMERA-PASS, the coverage requests,
PART-RESET and an unknown request (R31, R32, R50, R70, R71, R168, R185, R188, R199, R209). -/

namespace Sys2Proof.Machine

/-! ## Faults -/

/-- R188: FAULT-ACK. -/
def State.acknowledgeFaults (s : State) (r : Request) : State :=
  let cleared := s.entries.left.count FaultEntry.unacknowledged + s.entries.right.count FaultEntry.unacknowledged
  ((s.setEntries .left (s.entries.left.map FaultEntry.acknowledge)).setEntries .right
    (s.entries.right.map FaultEntry.acknowledge)).finish r .ok (toLe 1 cleared)

/-- R185: the LATCHED entries of a channel become INACTIVE. -/
def State.clearChannel (s : State) (ch : Channel) : State :=
  s.setEntries ch ((s.entries.get ch).map FaultEntry.clearLatched)

/-- R185: FAULT-CLEAR of the named channels. -/
def State.clearFaults (s : State) (r : Request) (chs : List Channel) : State :=
  let cleared := (chs.map fun ch => (s.entries.get ch).count FaultEntry.isLatched).sum
  (chs.foldl State.clearChannel s).finish r .ok (toLe 1 cleared)

/-! ## VIEW-RESTART -/

/-- R70, R71: a channel is restarted. The parts stand in the order of assumption 17. -/
def State.restart (s : State) (ch : Channel) : State :=
  let s := s.restartReceiver ch
  let s := s.setStore ch ((s.store.get ch).freeWhere fun b => !b.isShown)
  let s := s.releaseShown ch
  let s := (s.setViewState ch .start 0).mapReset ch
  let s := s.setEntries ch ((s.entries.get ch).map FaultEntry.restart)
  let s := s.setLink ch { s.link.get ch with expected := [] }
  let s := s.endPass ch .aborted []
  let s := s.setTiming ch ((s.timing.get ch).restart (s.params.get ch))
  s.amendRecord ch .start

/-! ## TIMING -/

/-- R213, R214: the codes of a bandwidth mode and of a source. -/
def Bandwidth.code : Bandwidth → Nat
  | .auto => 0
  | .wide => 1
  | .narrow => 2

def Source.code : Source → Nat
  | .internal => 0
  | .tracked => 1

/-- R168: the payload of a TIMING answered OK: the link's resulting tracker state, LOCKED, mode and source. -/
def LinkTiming.report (g : LinkTiming) : List Byte :=
  toLe 1 g.tracker.state.code ++ boolByte g.tracker.locked ++ toLe 1 g.tracker.bandwidth.code ++ toLe 1 g.source.code

/-- R168: a TIMING request takes effect and is answered OK. -/
def State.takeTiming (s : State) (r : Request) (ch : Channel) (g : LinkTiming) : State :=
  (s.setTiming ch g).finish r .ok g.report

/-- R168: TRACKER OFF. -/
def LinkTiming.trackerOff (g : LinkTiming) : LinkTiming :=
  { g with tracker := { g.tracker with state := .off, locked := false, nextRef := none } }

/-- R168: TRACKER ON; it enables a tracker in OFF (R161). -/
def LinkTiming.trackerOn (g : LinkTiming) (p : ChannelParams) : LinkTiming :=
  if g.tracker.state = .off then { g with tracker := g.tracker.acquire p g.nextStart } else g

/-- R168: TIMING with item TRACKER. -/
def State.timingTracker (s : State) (r : Request) (ch : Channel) : State :=
  let g := s.timing.get ch
  match byteAt r.payload 0 with
  | 0 => if g.source = .tracked then s.refuse r .inUse else s.takeTiming r ch g.trackerOff
  | 1 => s.takeTiming r ch (g.trackerOn (s.params.get ch))
  | _ => s.refuse r .range

/-- R168, R214: the bandwidth mode of a code. -/
def bandwidthOf (code : Nat) : Option Bandwidth :=
  match code with
  | 0 => some .auto
  | 1 => some .wide
  | 2 => some .narrow
  | _ => none

/-- R168: TIMING with item BANDWIDTH. -/
def State.timingBandwidth (s : State) (r : Request) (ch : Channel) : State :=
  let g := s.timing.get ch
  match bandwidthOf (byteAt r.payload 0) with
  | some mode => s.takeTiming r ch { g with tracker := { g.tracker with bandwidth := mode } }
  | none => s.refuse r .range

/-- R167, R168: SOURCE TRACKED; selecting it again changes nothing. -/
def LinkTiming.selectTracked (g : LinkTiming) : LinkTiming :=
  if g.source = .tracked then g else { g with source := .tracked, aligned := false, landing := false }

/-- R168: SOURCE INTERNAL. -/
def LinkTiming.selectInternal (g : LinkTiming) : LinkTiming :=
  { g with source := .internal, aligned := false, landing := false }

/-- R168: TIMING with item SOURCE. -/
def State.timingSource (s : State) (r : Request) (ch : Channel) : State :=
  let g := s.timing.get ch
  match byteAt r.payload 0 with
  | 0 => s.takeTiming r ch g.selectInternal
  | 1 => if g.tracker.locked then s.takeTiming r ch g.selectTracked else s.refuse r .notLocked
  | _ => s.refuse r .range

/-! ## CAMERA-PASS -/

/-- R50: a CAMERA-PASS is taken: the PASS packet is sent and the answer held. -/
def State.sendPass (s : State) (r : Request) (ch : Channel) : State :=
  ((s.setReceiver ch { s.receiver.get ch with pass := .waiting r.link r.tag 0 }).setOutputs ch
    { s.outputs.get ch with passPacket := some (passPacket r.payload) }).freeAgent

/-- R50: a CAMERA-PASS of a channel. -/
def State.takePass (s : State) (r : Request) (ch : Channel) : State :=
  if r.payload.length = 0 ∨ 40 < r.payload.length then s.refuse r .length
  else if (s.receiver.get ch).pass ≠ .idle then s.refuse r .busy
  else s.sendPass r ch

/-! ## Coverage -/

/-- R30: the rectangle lies within the bounds of a coverage record. -/
def Rect.legal (q : Rect) : Bool := q.x0 < q.x1 && q.x1 ≤ 2047 && q.y0 < q.y1 && q.y1 ≤ 1535

/-- R214: the rectangle of a COVERAGE-WRITE. -/
def readRect (payload : List Byte) : Rect := ⟨le16 payload 0, le16 payload 2, le16 payload 4, le16 payload 6⟩

/-- R31, test 5: the staged bank is VERIFYING or SWAP-WAIT. -/
def Staged.committed : Staged → Bool
  | .verifying _ _ _ => true
  | .swapWait _ _ => true
  | .idle => false
  | .loading _ => false

/-- R32: the record is FIXED. -/
def Coverage.isFixed : Coverage → Bool
  | .fixed _ => true
  | .unwritten => false
  | .written _ => false

/-- R31, test 6: the first failing mesh and edge of a VALID mesh against a rectangle. -/
def State.meshConflict (s : State) (ch : Channel) (q : Rect) : Option (Nat × Edge) :=
  if s.meshValid ch then coverageFailure (s.table (.warpMesh ch)).active.bytes q else none

/-- R31: a COVERAGE-WRITE of a channel. -/
def State.writeCoverage (s : State) (r : Request) (ch : Channel) : State :=
  let q := readRect r.payload
  if s.resetRecord.mode ≠ .service then s.refuse r .serviceOnly
  else if (s.coverage.get ch).isFixed then s.refuse r .fixed
  else if q.legal = false then s.refuse r .range
  else if (s.table (.warpMesh ch)).staged.committed then s.refuse r .busy
  else
    match s.meshConflict ch q with
    | some (mesh, edge) => s.finish r .meshConflict (toLe 1 mesh ++ toLe 1 (edgeCode edge))
    | none => (s.setCoverage ch (.written q)).finish r .ok []

/-- R32: a COVERAGE-FIX of a channel. -/
def State.fixCoverage (s : State) (r : Request) (ch : Channel) : State :=
  if s.resetRecord.mode ≠ .service then s.refuse r .serviceOnly
  else
    match s.coverage.get ch with
    | .written q => (s.setCoverage ch (.fixed q)).finish r .ok []
    | .unwritten => s.refuse r .range
    | .fixed _ => s.refuse r .fixed

/-! ## PART-RESET -/

/-- R209: a PART-RESET is answered OK and a pending part reset recorded for its link. -/
def State.requestReset (s : State) (r : Request) : State :=
  (s.setLink r.link { s.link.get r.link with resetPending := true }).finish r .ok []

/-! ## Meanings -/

/-- FAULT_ACK (R188). -/
def execFaultAck (s : State) : Host.Outcome State Fault Refusal :=
  whenExecuting s (Request.isKind .faultAck) fun s r => s.withLength r 0 (s.acknowledgeFaults r)

/-- FAULT_CLEAR (R185). -/
def execFaultClear (s : State) : Host.Outcome State Fault Refusal :=
  whenExecuting s (Request.isKind .faultClear) fun s r =>
    match channelsNamed r.channel with
    | some chs => s.withLength r 0 (s.clearFaults r chs)
    | none => s.refuse r .range

/-- VIEW_RESTART (R70, R71). -/
def execViewRestart (s : State) : Host.Outcome State Fault Refusal :=
  whenExecuting s (Request.isKind .viewRestart) fun s r => s.onChannel r fun ch =>
    s.withLength r 0 ((s.restart ch).finish r .ok [])

/-- TIMING with item TRACKER (R168). -/
def execTimingTracker (s : State) : Host.Outcome State Fault Refusal :=
  whenExecuting s (Request.isTiming (some .tracker)) fun s r => s.onChannel r fun ch =>
    s.withLength r 1 (s.timingTracker r ch)

/-- TIMING with item BANDWIDTH (R168). -/
def execTimingBandwidth (s : State) : Host.Outcome State Fault Refusal :=
  whenExecuting s (Request.isTiming (some .bandwidth)) fun s r => s.onChannel r fun ch =>
    s.withLength r 1 (s.timingBandwidth r ch)

/-- TIMING with item SOURCE (R167, R168). -/
def execTimingSource (s : State) : Host.Outcome State Fault Refusal :=
  whenExecuting s (Request.isTiming (some .source)) fun s r => s.onChannel r fun ch =>
    s.withLength r 1 (s.timingSource r ch)

/-- TIMING with an item that names no setting (R168): RANGE, before the length test. -/
def execTimingUnknownItem (s : State) : Host.Outcome State Fault Refusal :=
  whenExecuting s (Request.isTiming none) fun s r => s.refuse r .range

/-- CAMERA_PASS (R50). -/
def execCameraPass (s : State) : Host.Outcome State Fault Refusal :=
  whenExecuting s (Request.isKind .cameraPass) fun s r => s.onChannel r fun ch => s.takePass r ch

/-- COVERAGE_WRITE (R31). -/
def execCoverageWrite (s : State) : Host.Outcome State Fault Refusal :=
  whenExecuting s (Request.isKind .coverageWrite) fun s r => s.onChannel r fun ch =>
    s.withLength r 8 (s.writeCoverage r ch)

/-- COVERAGE_FIX (R32). -/
def execCoverageFix (s : State) : Host.Outcome State Fault Refusal :=
  whenExecuting s (Request.isKind .coverageFix) fun s r => s.onChannel r fun ch =>
    s.withLength r 0 (s.fixCoverage r ch)

/-- PART_RESET (R209). -/
def execPartReset (s : State) : Host.Outcome State Fault Refusal :=
  whenExecuting s (Request.isKind .partReset) fun s r => s.withLength r 0 (s.requestReset r)

/-- UNKNOWN_REQUEST (R199). -/
def execUnknownRequest (s : State) : Host.Outcome State Fault Refusal :=
  whenExecuting s (Request.isKind .unknown) fun s r => s.refuse r .unknown

end Sys2Proof.Machine
end

