-- ==== Sys2Proof/Machine/Query.lean ====
section
/-! DEFINITION. The meanings of QUERY (R202), with the records of R215. A field absent in the reported state is sent as 0. -/

namespace Sys2Proof.Machine

/-! ## IDENTITY, COVERAGE and PASS -/

/-- R215: the codes of MODE and of a reset cause. -/
def Mode.code : Mode → Nat
  | .normal => 0
  | .service => 1

def ResetCause.code : ResetCause → Nat
  | .powerOn => 0
  | .line => 1
  | .clock => 2
  | .management => 3

/-- R192, R215: the IDENTITY record. -/
def State.identityRecord (s : State) : List Byte :=
  toLe 2 23114 ++ toLe 2 62 ++ toLe 1 1 ++ toLe 1 s.resetRecord.mode.code ++ toLe 1 s.resetRecord.cause.code

/-- A rectangle in the layout of COVERAGE-WRITE. -/
def Rect.bytes (q : Rect) : List Byte := toLe 2 q.x0 ++ toLe 2 q.y0 ++ toLe 2 q.x1 ++ toLe 2 q.y1

/-- R30, R215: the COVERAGE record. -/
def Coverage.record : Coverage → List Byte
  | .unwritten => toLe 1 0 ++ List.replicate 8 0
  | .written q => toLe 1 1 ++ q.bytes
  | .fixed q => toLe 1 2 ++ q.bytes

/-- R50, R215: the PASS record. -/
def PassRecord.record : PassRecord → List Byte
  | .idle => toLe 1 0 ++ List.replicate 3 0
  | .waiting link tag ticks => toLe 1 1 ++ toLe 1 (channelCode link) ++ [tag] ++ toLe 1 ticks

/-! ## CHANNEL -/

/-- R215: the mesh byte of the CHANNEL record. -/
def meshByte : Option MeshChoice → Nat
  | none => 255
  | some .primary => 0
  | some .turn => 1

/-- R215: the buffer byte of the CHANNEL record. -/
def bufferByte : Option BufferId → Nat
  | none => 255
  | some b => b.number

/-- R74, R215: the display frame record, 13 bytes; before the first display frame start it reports no record, which the codes
of buffer and mesh mark (DESIGN CHOICE, assumption 19). -/
def frameRecordBytes : Option FrameRecord → List Byte
  | none => List.replicate 7 0 ++ toLe 1 255 ++ toLe 1 0 ++ toLe 1 255 ++ List.replicate 3 0
  | some r =>
    toLe 2 r.seq.toNat ++ toLe 4 r.start.toNat ++ toLe 1 r.view.code ++ toLe 1 (bufferByte r.buffer)
      ++ boolByte r.fresh ++ toLe 1 (meshByte r.mesh) ++ boolByte r.night ++ toLe 2 r.conditions.toNat

/-- R215: the four signature entries, oldest first. -/
def signatureBytes (queue : List (Seq × Check)) : List Byte :=
  ((List.range 4).map fun k =>
    match queue[k]? with
    | some e => toLe 2 e.1.toNat ++ toLe 4 e.2.toNat
    | none => List.replicate 6 0).flatten

/-- R153, R215: the last MONITOR-STATUS. -/
def statusBytes : Option (BitVec 16 × Bool) → List Byte
  | none => List.replicate 4 0
  | some (lux, fault) => toLe 1 1 ++ toLe 2 lux.toNat ++ boolByte fault

/-- R74, R96, R117, R153, R215: the CHANNEL record. -/
def State.channelRecord (s : State) (ch : Channel) : List Byte :=
  let v := s.view.get ch
  let g := s.glare.get ch
  let l := s.link.get ch
  toLe 1 v.state.code ++ toLe 1 v.holdTimer ++ frameRecordBytes v.record
    ++ boolByte g.night ++ toLe 1 g.dwell ++ toLe 1 (s.params.get ch).nightMode.code
    ++ toLe 2 l.nextSeq.toNat ++ toLe 1 l.expected.length ++ signatureBytes l.expected
    ++ toLe 1 (s.slotsHeld ch) ++ toLe 1 l.answers.length ++ boolByte l.rxDiscard ++ boolByte l.statusSeen
    ++ toLe 1 l.silentTicks ++ statusBytes l.lastStatus

/-! ## BUFFER and TILE -/

/-- The arrival time and size of a buffer's picture. -/
def Picture.header (p : Picture) : List Byte := toLe 4 p.arrival.toNat ++ toLe 2 p.width ++ toLe 2 p.height

/-- R55, R215: one buffer record. -/
def Buffer.record : Buffer → List Byte
  | .free => List.replicate 12 0
  | .filling p => toLe 1 1 ++ p.header ++ List.replicate 3 0
  | .ready p counter => toLe 1 2 ++ p.header ++ toLe 2 counter.toNat ++ toLe 1 0
  | .shown p counter times => toLe 1 3 ++ p.header ++ toLe 2 counter.toNat ++ toLe 1 times

/-- R74, R215: the BUFFER record. -/
def FrameStore.record (fs : FrameStore) : List Byte := fs.b0.record ++ fs.b1.record ++ fs.b2.record

/-- R215: the code of a tile state. -/
def TileState.code : TileState → Nat
  | .clear => 0
  | .onset => 1
  | .glare => 2
  | .release => 3

/-- R117, R215: the TILE record of a tile. -/
def Glare.tileRecord (g : Glare) (n : Nat) : List Byte :=
  let t := g.tiles.getD n .reset
  toLe 1 t.state.code ++ toLe 1 t.run ++ toLe 1 t.qLast ++ toLe 2 t.target ++ toLe 2 t.gain ++ toLe 2 (g.last.getD n 0)

/-! ## FAULT-ENTRY and HISTORY -/

/-- R215: the code of an entry's state. -/
def EntryState.code : EntryState → Nat
  | .inactive => 0
  | .pending => 1
  | .active => 2
  | .recovering => 3
  | .latched => 4

/-- R215: an activation, with its present byte. -/
def activationBytes : Option Activation → List Byte
  | none => List.replicate 7 0
  | some a => toLe 1 1 ++ toLe 4 a.time.toNat ++ toLe 2 a.seq.toNat

/-- R195, R215: the FAULT-ENTRY record of an entry, with the values in force for its kind. -/
def FaultEntry.record (e : FaultEntry) (inForce : ActionValues) : List Byte :=
  toLe 1 e.state.code ++ toLe 1 e.run ++ e.applied.bytes ++ toLe 1 e.occurrences
    ++ activationBytes e.first ++ activationBytes e.last
    ++ (match e.detail with
        | none => List.replicate 5 0
        | some d => toLe 1 1 ++ toLe 4 d)
    ++ boolByte e.unacknowledged ++ inForce.bytes ++ boolByte e.drives

/-- R191, R215: the HISTORY record of an index. -/
def State.historyRecord (s : State) (index : Nat) : List Byte :=
  toLe 1 s.historyCount.toNat ++ toLe 1 s.history.length
    ++ (match s.history[index]? with
        | none => List.replicate 13 0
        | some h =>
          toLe 1 1 ++ toLe 1 h.kind.number ++ toLe 1 (channelCode h.channel) ++ toLe 4 h.time.toNat
            ++ toLe 2 h.seq.toNat ++ toLe 4 h.detail)

/-! ## TABLE -/

/-- R215: the code of an active bank's state. -/
def ActiveState.code : ActiveState → Nat
  | .empty => 0
  | .valid => 1
  | .corrupt => 2

/-- R10, R215: the staged bank: state, declared length, bytes received, owner, and the supplied checksum. -/
def Staged.record : Staged → List Byte
  | .idle => toLe 1 0 ++ List.replicate 4 0 ++ toLe 1 255 ++ List.replicate 5 0
  | .loading load =>
    toLe 1 1 ++ toLe 2 load.declared ++ toLe 2 load.bytes.length ++ toLe 1 (channelCode load.owner) ++ List.replicate 5 0
  | .verifying load supplied _ =>
    toLe 1 2 ++ toLe 2 load.declared ++ toLe 2 load.bytes.length ++ toLe 1 (channelCode load.owner) ++ toLe 1 1
      ++ toLe 4 supplied.toNat
  | .swapWait load supplied =>
    toLe 1 3 ++ toLe 2 load.declared ++ toLe 2 load.bytes.length ++ toLe 1 (channelCode load.owner) ++ toLe 1 1
      ++ toLe 4 supplied.toNat

/-- R10, R215: the TABLE record. -/
def TableEntry.record (e : TableEntry) : List Byte :=
  toLe 1 e.active.state.code ++ toLe 2 e.active.length ++ toLe 4 e.active.checksum.toNat
    ++ toLe 2 e.active.generation.toNat ++ e.staged.record ++ toLe 1 e.lock.code

/-! ## PARAMETER -/

/-- R203, R204, R215: the PARAMETER record. -/
def State.parameterRecord (s : State) (ch : Channel) (id : Byte) (p : Param) : List Byte :=
  [id] ++ p.write (s.paramValue ch p)
    ++ (match pendingOf (s.pendingParams.get ch) p with
        | none => toLe 1 0 ++ List.replicate p.width 0
        | some v => toLe 1 1 ++ p.write v)
    ++ p.write (s.paramInUse ch p)

/-! ## TIMING -/

/-- An optional time of 4 bytes, with its present byte. -/
def timeBytes : Option Time → List Byte
  | none => List.replicate 5 0
  | some t => toLe 1 1 ++ toLe 4 t.toNat

/-- R161, R171, R215: the tracker's part of the TIMING record. -/
def Tracker.record (t : Tracker) : List Byte :=
  toLe 1 t.state.code ++ boolByte t.locked ++ toLe 1 t.bandwidth.code ++ toLe 2 t.period ++ timeBytes t.nextRef
    ++ timeBytes t.frameEnd
    ++ (match t.lastError with
        | none => List.replicate 5 0
        | some e => toLe 1 1 ++ toLeSigned32 e)
    ++ toLe 1 t.lockRun ++ toLe 1 t.unlockRun ++ toLe 1 t.emptyCount

/-- R171, R215: the TIMING record. -/
def State.timingRecord (s : State) (ch : Channel) : List Byte :=
  let g := s.timing.get ch
  toLe 4 s.counter.toNat ++ toLe 1 s.partParams.tickBit ++ toLe 1 s.partParams.tickEdge.code ++ toLe 4 s.nextTick.toNat
    ++ toLe 1 g.source.code ++ boolByte g.aligned ++ toLe 4 (g.start.getD 0).toNat ++ toLe 2 g.period
    ++ toLe 4 g.nextStart.toNat ++ g.tracker.record

/-! ## Meanings -/

/-- R202: a QUERY of a record with no further test is answered OK with it. -/
def State.report (s : State) (r : Request) (record : List Byte) : State := s.finish r .ok record

/-- QUERY_IDENTITY (R192, R202). -/
def execQueryIdentity (s : State) : Host.Outcome State Fault Refusal :=
  whenExecuting s (Request.isQuery .identity) fun s r => s.report r s.identityRecord

/-- QUERY_CHANNEL (R74, R202). -/
def execQueryChannel (s : State) : Host.Outcome State Fault Refusal :=
  whenExecuting s (Request.isQuery .channel) fun s r => s.onChannel r fun ch => s.report r (s.channelRecord ch)

/-- QUERY_BUFFER (R74, R202). -/
def execQueryBuffer (s : State) : Host.Outcome State Fault Refusal :=
  whenExecuting s (Request.isQuery .buffer) fun s r => s.onChannel r fun ch => s.report r (s.store.get ch).record

/-- QUERY_TILE (R117, R202). -/
def execQueryTile (s : State) : Host.Outcome State Fault Refusal :=
  whenExecuting s (Request.isQuery .tile) fun s r => s.onChannel r fun ch =>
    if r.item.toNat ≤ 79 then s.report r ((s.glare.get ch).tileRecord r.item.toNat) else s.refuse r .range

/-- QUERY_FAULT_ENTRY (R195, R202). -/
def execQueryFaultEntry (s : State) : Host.Outcome State Fault Refusal :=
  whenExecuting s (Request.isQuery .faultEntry) fun s r => s.onChannel r fun ch =>
    match kindOfNumber r.item.toNat with
    | some k => s.report r ((s.entry ch k).record (s.valuesInForce k))
    | none => s.refuse r .range

/-- QUERY_HISTORY (R191, R202). -/
def execQueryHistory (s : State) : Host.Outcome State Fault Refusal :=
  whenExecuting s (Request.isQuery .history) fun s r =>
    if r.item.toNat ≤ 31 then s.report r (s.historyRecord r.item.toNat) else s.refuse r .range

/-- QUERY_TABLE (R10, R202). -/
def execQueryTable (s : State) : Host.Outcome State Fault Refusal :=
  whenExecuting s (Request.isQuery .table) fun s r => s.onTable r fun t => s.report r (s.table t).record

/-- QUERY_PARAMETER (R202, R203). -/
def execQueryParameter (s : State) : Host.Outcome State Fault Refusal :=
  whenExecuting s (Request.isQuery .parameter) fun s r =>
    match paramOfId r.item with
    | none => s.refuse r .range
    | some p =>
      match paramChannel p r.channel with
      | some ch => s.report r (s.parameterRecord ch r.item p)
      | none => s.refuse r .range

/-- QUERY_COVERAGE (R30, R202). -/
def execQueryCoverage (s : State) : Host.Outcome State Fault Refusal :=
  whenExecuting s (Request.isQuery .coverage) fun s r => s.onChannel r fun ch => s.report r (s.coverage.get ch).record

/-- QUERY_TIMING (R171, R202). -/
def execQueryTiming (s : State) : Host.Outcome State Fault Refusal :=
  whenExecuting s (Request.isQuery .timing) fun s r => s.onChannel r fun ch => s.report r (s.timingRecord ch)

/-- QUERY_PASS (R50, R202). -/
def execQueryPass (s : State) : Host.Outcome State Fault Refusal :=
  whenExecuting s (Request.isQuery .pass) fun s r => s.onChannel r fun ch =>
    s.report r (s.receiver.get ch).pass.record

/-- QUERY_REFUSED (R202): a payload that is not 1 byte, or an unknown record kind. -/
def execQueryRefused (s : State) : Host.Outcome State Fault Refusal :=
  whenExecuting s (fun r => r.isKind .query && r.recordKind.isNone) fun s r => s.withLength r 1 (s.refuse r .range)

end Sys2Proof.Machine
end

