-- ==== Sys2Proof/Machine/Idle.lean ====
section
/-! DEFINITION. What the part does when no command waits: it takes up the events that fall due at the System Counter's value,
and when none is due one microsecond passes (DESIGN CHOICE, assumption 3). -/

namespace Sys2Proof.Machine

/-- The events of a link that are due at the counter's value (R159, R163). -/
def State.linkDue (s : State) (ch : Channel) : List Instr :=
  (if s.startDue ch then [.displayFrameStart ch] else []) ++ (if s.referenceDue ch then [.referenceStart ch] else [])

/-- The events due now: the tick (R156), the links' starts, the verify the engine can start (R16) and the request the agent
can take (R198). -/
def State.due (s : State) : List Instr :=
  (if s.tickDue then [.supervisionTick] else []) ++ s.linkDue .left ++ s.linkDue .right
    ++ (if s.tables.verifyQueue ≠ [] ∧ s.tables.verifying = none then [.verifyStart] else [])
    ++ (if s.agent.executing = none ∧ s.linkToServe.isSome then [.agentTakesRequest] else [])

/-- A list with an element placed at a position. -/
def placeAt (x : Instr) : Nat → List Instr → List Instr
  | 0, ys => x :: ys
  | _ + 1, [] => [x]
  | n + 1, y :: ys => y :: placeAt x n ys

/-- The events in an order the manual leaves free (DESIGN CHOICE, assumption 5): each is placed anywhere among those after it. -/
def freeOrder (draw : Nat) : List Instr → List Instr
  | [] => []
  | [x] => [x]
  | x :: y :: rest =>
    placeAt x (Config.dueOrder draw (rest.length + 1) % (rest.length + 2)) (freeOrder (draw + 1) (y :: rest))

/-- One microsecond passes: the System Counter rises by one, modulo 2^32 (R155), and a scrub step in flight reads on
(DESIGN CHOICE, assumption 7). -/
def State.passTime (s : State) : State :=
  { s with
    counter := s.counter + 1
    tables := { s.tables with
      scrub := s.tables.scrub.map fun st => st.advance (s.table st.table) (Config.scrubBytes s.draws) }
    draws := s.draws + 1 }

/-- No command waits: held in reset nothing happens (R207); otherwise the due events are put in the queue, or time
passes. -/
def idle (s : State) : State :=
  if s.held then s
  else if s.due = [] then s.passTime
  else { s with pending := freeOrder s.draws s.due, draws := s.draws + s.due.length }

end Sys2Proof.Machine
end

