-- ==== Sys2Proof/Machine/Dispatch.lean ====
section
/-! DEFINITION. The meaning of each command of the opcode table, one arm per constructor. -/

namespace Sys2Proof.Machine

def exec (i : Instr) (s : State) : Host.Outcome State Fault Refusal :=
  match i with
  | .frameStart ch packet => Sys2Proof.Machine.execFrameStart ch packet s
  | .embedded ch packet => Sys2Proof.Machine.execEmbedded ch packet s
  | .line ch packet => Sys2Proof.Machine.execLine ch packet s
  | .frameEnd ch packet => Sys2Proof.Machine.execFrameEnd ch packet s
  | .reply ch packet => Sys2Proof.Machine.execReply ch packet s
  | .cameraPacketDiscard ch packet => Sys2Proof.Machine.execCameraPacketDiscard ch packet s
  | .monitorStatus link cell => Sys2Proof.Machine.execMonitorStatus link cell s
  | .signature link cell => Sys2Proof.Machine.execSignature link cell s
  | .requestCell link cell => Sys2Proof.Machine.execRequestCell link cell s
  | .returnCellDiscard link cell => Sys2Proof.Machine.execReturnCellDiscard link cell s
  | .agentTakesRequest => Sys2Proof.Machine.execAgentTakesRequest s
  | .queryIdentity => Sys2Proof.Machine.execQueryIdentity s
  | .queryChannel => Sys2Proof.Machine.execQueryChannel s
  | .queryBuffer => Sys2Proof.Machine.execQueryBuffer s
  | .queryTile => Sys2Proof.Machine.execQueryTile s
  | .queryFaultEntry => Sys2Proof.Machine.execQueryFaultEntry s
  | .queryHistory => Sys2Proof.Machine.execQueryHistory s
  | .queryTable => Sys2Proof.Machine.execQueryTable s
  | .queryParameter => Sys2Proof.Machine.execQueryParameter s
  | .queryCoverage => Sys2Proof.Machine.execQueryCoverage s
  | .queryTiming => Sys2Proof.Machine.execQueryTiming s
  | .queryPass => Sys2Proof.Machine.execQueryPass s
  | .set => Sys2Proof.Machine.execSet s
  | .tableOpen => Sys2Proof.Machine.execTableOpen s
  | .tableData => Sys2Proof.Machine.execTableData s
  | .tableCommit => Sys2Proof.Machine.execTableCommit s
  | .tableAbandon => Sys2Proof.Machine.execTableAbandon s
  | .tableLockLock => Sys2Proof.Machine.execTableLockLock s
  | .tableLockUnlock => Sys2Proof.Machine.execTableLockUnlock s
  | .tableLockLockDown => Sys2Proof.Machine.execTableLockLockDown s
  | .faultAck => Sys2Proof.Machine.execFaultAck s
  | .faultClear => Sys2Proof.Machine.execFaultClear s
  | .viewRestart => Sys2Proof.Machine.execViewRestart s
  | .timingTracker => Sys2Proof.Machine.execTimingTracker s
  | .timingBandwidth => Sys2Proof.Machine.execTimingBandwidth s
  | .timingSource => Sys2Proof.Machine.execTimingSource s
  | .cameraPass => Sys2Proof.Machine.execCameraPass s
  | .coverageWrite => Sys2Proof.Machine.execCoverageWrite s
  | .coverageFix => Sys2Proof.Machine.execCoverageFix s
  | .partReset => Sys2Proof.Machine.execPartReset s
  | .unknownRequest => Sys2Proof.Machine.execUnknownRequest s
  | .supervisionTick => Sys2Proof.Machine.execSupervisionTick s
  | .passTimeout ch => Sys2Proof.Machine.execPassTimeout ch s
  | .verifyStart => Sys2Proof.Machine.execVerifyStart s
  | .verifyEnd => Sys2Proof.Machine.execVerifyEnd s
  | .scrubStepEnd => Sys2Proof.Machine.execScrubStepEnd s
  | .displayFrameStart ch => Sys2Proof.Machine.execDisplayFrameStart ch s
  | .holdLimitReached ch => Sys2Proof.Machine.execHoldLimitReached ch s
  | .activeLineStart ch => Sys2Proof.Machine.execActiveLineStart ch s
  | .activeLineEnd ch => Sys2Proof.Machine.execActiveLineEnd ch s
  | .displayFrameEnd ch => Sys2Proof.Machine.execDisplayFrameEnd ch s
  | .headerCell ch => Sys2Proof.Machine.execHeaderCell ch s
  | .answerCellSent ch => Sys2Proof.Machine.execAnswerCellSent ch s
  | .ancillaryAreaEnd ch => Sys2Proof.Machine.execAncillaryAreaEnd ch s
  | .referenceStart ch => Sys2Proof.Machine.execReferenceStart ch s
  | .holdover ch => Sys2Proof.Machine.execHoldover ch s
  | .powerOn => Sys2Proof.Machine.execPowerOn s
  | .powerOnConditionEnd => Sys2Proof.Machine.execPowerOnConditionEnd s
  | .resetNAssert => Sys2Proof.Machine.execResetNAssert s
  | .resetNDeassert => Sys2Proof.Machine.execResetNDeassert s
  | .refclkLoss => Sys2Proof.Machine.execRefclkLoss s
  | .refclkReturn => Sys2Proof.Machine.execRefclkReturn s
  | .queryRefused => Sys2Proof.Machine.execQueryRefused s
  | .tableLockUnknownAction => Sys2Proof.Machine.execTableLockUnknownAction s
  | .timingUnknownItem => Sys2Proof.Machine.execTimingUnknownItem s

end Sys2Proof.Machine
end

