-- ==== Sys2Proof/Safety.lean ====
section
/-! DEFINITION. What a sound state of the ZS62 is: one predicate per promise of the manual that every step keeps, and the
words the statements use. Each names the rule it stands for. -/

namespace Sys2Proof.Machine

/-! ## Words the statements use -/

/-- R199: the part runs and its agent is executing the request `r`. -/
def State.Executes (s : State) (r : Request) : Prop := s.held = false ∧ s.agent.executing = some r

/-- R199, R142: the request `r` is answered and nothing else happens: the answer joins the tail of its own link's queue and
the agent is FREE. -/
def State.answered (s : State) (r : Request) (result : Result) (payload : List Byte) : State :=
  { s with
    agent := { s.agent with executing := none }
    link := s.link.set r.link
      { s.link.get r.link with
        answers := (s.link.get r.link).answers ++
          [{ tag := r.tag, kind := r.kind, result := result, payload := payload }] } }

/-- R19, R20: of the tables given, each in SWAP-WAIT has its staged contents in force and its staged bank IDLE; every other
table stands as it was. -/
def State.TablesTaken (s t : State) (swapping : List TableId) : Prop :=
  ∀ x, (∀ load supplied, x ∈ swapping → (s.table x).staged = .swapWait load supplied →
      t.table x = { s.table x with
        staged := .idle
        active :=
          { state := .valid, length := load.declared, checksum := supplied, bytes := load.bytes
            generation := if (s.table x).active.generation = 65535 then 1 else (s.table x).active.generation + 1 } }) ∧
    (x ∉ swapping ∨ (∀ load supplied, (s.table x).staged ≠ .swapWait load supplied) → t.table x = s.table x)

/-- R205: the channel's pending values of a class are in force and no longer pending; every other value in force and pending
stands as it was. -/
def State.ValuesTaken (s t : State) (ch : Channel) (cls : ParamClass) : Prop :=
  (∀ p : Param, p.cls = cls →
    t.paramValue ch p = (pendingOf (s.pendingParams.get ch) p).getD (s.paramValue ch p)) ∧
  (∀ p : Param, p.cls ≠ cls → t.paramValue ch p = s.paramValue ch p) ∧
  (∀ c, c ≠ ch → t.params.get c = s.params.get c ∧ t.pendingParams.get c = s.pendingParams.get c) ∧
  t.pendingParams.get ch = (s.pendingParams.get ch).filter fun pv => pv.1.cls != cls

/-- R44: the camera-side tables of a channel. -/
def cameraTables (ch : Channel) : List TableId := [.develop ch, .defectList ch]

/-- R19: the display-side tables of a channel. -/
def displayTables (ch : Channel) : List TableId := [.warpMesh ch, .toneCurves ch, .glareResponse ch, .overlaySet ch]

/-- R126: the conditions of a record that read the record, the tile map and the lines say what these say. -/
def State.ConditionsTold (s : State) (ch : Channel) (r : FrameRecord) : Prop :=
  r.conditions.getLsbD 0 = true ∧ r.conditions.getLsbD 1 = r.night ∧ r.conditions.getLsbD 2 = !r.night ∧
  (r.conditions.getLsbD 3 = true ↔ ∃ x ∈ (s.glare.get ch).tiles, x.state = .glare) ∧
  r.conditions.getLsbD 4 = (!r.conditions.getLsbD 3) ∧
  r.conditions.getLsbD 5 = s.pins.turn.get ch ∧ r.conditions.getLsbD 6 = s.pins.reverse ∧
  (r.conditions.getLsbD 7 = true ↔ r.view = .hold) ∧ (r.conditions.getLsbD 8 = true ↔ r.view = .fallback) ∧
  (r.conditions.getLsbD 9 = true ↔ r.view = .hold ∨ r.view = .fallback) ∧
  (r.conditions.getLsbD 10 = true ↔ r.view = .live) ∧ (r.conditions.getLsbD 12 = true ↔ r.mesh = some .turn) ∧
  r.conditions.getLsbD 14 = s.pins.drive ∧ r.conditions.getLsbD 15 = false

/-- R126, R127: the two conditions of a record that read the fault entries, WARN and FAULT-LINE, say what these say. -/
def State.EntryConditionsTold (s : State) (ch : Channel) (r : FrameRecord) : Prop :=
  (r.conditions.getLsbD 11 = true ↔
    ∃ k, ((s.entry ch k).state = .active ∨ (s.entry ch k).state = .recovering) ∧
      (s.entry ch k).applied.action = .report) ∧
  (r.conditions.getLsbD 13 = true ↔ ∃ c k, (s.entry c k).unacknowledged = true)

/-- R176: the entry of a channel and kind after an evaluation, taken with the values in force, at the counter, and under the
number of the channel's display frame started last. -/
def State.judged (s : State) (ch : Channel) (k : FaultKind) (outcome : Option Nat) : FaultEntry :=
  ((s.entry ch k).evaluate (s.valuesInForce k) outcome s.counter (s.link.get ch).frameSeq).1

/-- R182: the entry drives its applied action. -/
def FaultEntry.Driving (e : FaultEntry) : Prop := e.state = .active ∨ e.state = .recovering ∨ e.state = .latched

/-- R182: an evaluation that changed the entry from one to the other makes it begin to drive an action. -/
def FaultEntry.Begins (before after : FaultEntry) (a : Action) : Prop :=
  after.Driving ∧ after.applied.action = a ∧ (before.Driving → before.applied.action ≠ a)

/-- R59: a release of the SHOWN buffer. With no active line in progress it is FREE, else it stays SHOWN and waits, marked
released, for the end of the line. No other buffer changes. -/
def FrameStore.ReleasedTo (before after : FrameStore) (line : Option Nat) : Prop :=
  (∀ b, (before.get b).isShown = false → after.get b = before.get b) ∧
  (∀ b, (before.get b).isShown = true →
    (line = none → after.get b = .free ∧ after.released = false) ∧
    (line ≠ none → after.get b = before.get b ∧ after.released = true)) ∧
  ((∀ b, (before.get b).isShown = false) → after = before)

/-- R167: what a reference start makes of the source. A source TRACKED whose tracker is then not LOCKED is INTERNAL with the
aligned flag clear; otherwise the source and the aligned flag (with the field landing, assumption 14) stand. -/
def LinkTiming.RevertsTo (before after : LinkTiming) : Prop :=
  (before.source = .internal ∨ after.tracker.locked = true →
    after.source = before.source ∧ after.aligned = before.aligned ∧ after.landing = before.landing) ∧
  (before.source = .tracked → after.tracker.locked = false →
    after.source = .internal ∧ after.aligned = false ∧ after.landing = false)

/-- R20: at this boundary no CORRUPT bank of the tables given is replaced, so that no TABLE_CORRUPT is evaluated. -/
def State.ReplacesNoCorrupt (s : State) (swapping : List TableId) : Prop :=
  ∀ x ∈ swapping, (s.table x).active.state = .corrupt → ∀ load supplied, (s.table x).staged ≠ .swapWait load supplied

/-! ## The contents that consumers use (R29, R216) -/

/-- R29, R36, R216: a camera frame's develop table and defect list are what the VALID banks hold, or the defaults. -/
def State.IntakeHeld (s : State) (ch : Channel) (f : FrameFacts) : Prop :=
  (∀ bank, bank = (s.table (.develop ch)).active →
    (bank.state ≠ .valid → f.develop =
      { black := 0, bayer := 0, matrix := [1024, 0, 0, 0, 1024, 0, 0, 0, 1024], offsets := [0, 0, 0] }) ∧
    (bank.state = .valid → f.develop.black = le16 bank.bytes 0 ∧ f.develop.bayer = byteAt bank.bytes 2 ∧
      (∀ k, k < 9 → f.develop.matrix[k]? = some (signed16 bank.bytes (3 + 2 * k))) ∧
      ∀ o, o < 3 → f.develop.offsets[o]? = some (signed16 bank.bytes (21 + 2 * o)))) ∧
  (∀ bank, bank = (s.table (.defectList ch)).active →
    (bank.state ≠ .valid → f.defects = []) ∧
    (bank.state = .valid → f.defects = (List.range (le16 bank.bytes 0)).map fun k =>
      (le16 bank.bytes (2 + 4 * k), le16 bank.bytes (4 + 4 * k))))

/-- R78, R80, R88, R104, R119, R29, R216: a display frame's mesh, knots, response and overlay are what the active banks hold,
the mesh by the record's choice and the curve by its night flag, or the defaults. -/
def State.ItemsHeld (s : State) (ch : Channel) (r : FrameRecord) (items : FrameItems) : Prop :=
  (∀ h bytes, (r.mesh = some .primary ∧ h = 0) ∨ (r.mesh = some .turn ∧ h = 1) →
    bytes = (s.table (.warpMesh ch)).active.bytes →
    items.mesh.length = 99 ∧ ∀ q, q < 99 → items.mesh[q]? =
      some { sx := signed32 bytes (1 + 792 * h + 8 * q), sy := signed32 bytes (5 + 792 * h + 8 * q) }) ∧
  (∀ bank, bank = (s.table (.toneCurves ch)).active → items.knots.length = 65 ∧
    ∀ k, k ≤ 64 → items.knots[k]? =
      some (if bank.state = .valid then byteAt bank.bytes (if r.night then 65 + k else k) else min 255 (4 * k))) ∧
  (∀ bank, bank = (s.table (.glareResponse ch)).active → items.response.length = 16 ∧
    ∀ k, k < 16 → items.response[k]? = some (if bank.state = .valid then le16 bank.bytes (2 * k) else 256)) ∧
  (∀ bank, bank = (s.table (.overlaySet ch)).active →
    (bank.state ≠ .valid → items.overlay.layers = []) ∧
    (bank.state = .valid → items.overlay.layers.length = byteAt bank.bytes 0 ∧
      items.overlay.pool = slice bank.bytes (3 + 18 * byteAt bank.bytes 0) (le16 bank.bytes 1) ∧
      ∀ i, i < byteAt bank.bytes 0 → items.overlay.layers[i]? = some
        { x := signed16 bank.bytes (3 + 18 * i), y := signed16 bank.bytes (5 + 18 * i)
          width := le16 bank.bytes (7 + 18 * i), height := le16 bank.bytes (9 + 18 * i)
          offset := le16 bank.bytes (11 + 18 * i)
          foreground :=
            ⟨byteAt bank.bytes (13 + 18 * i), byteAt bank.bytes (14 + 18 * i), byteAt bank.bytes (15 + 18 * i)⟩
          background :=
            ⟨byteAt bank.bytes (16 + 18 * i), byteAt bank.bytes (17 + 18 * i), byteAt bank.bytes (18 + 18 * i)⟩
          code := bank.bytes.getD (19 + 18 * i) 0, condition := byteAt bank.bytes (20 + 18 * i) }))

/-! ## What a verify tests (R2 to R9, R33) -/

/-- R2: the lengths a kind admits. -/
def TableId.Admits (t : TableId) (n : Nat) : Prop :=
  match t with
  | .develop _ => n = 27
  | .defectList _ => ∃ k, k ≤ 1024 ∧ n = 2 + 4 * k
  | .warpMesh _ => n = 793 ∨ n = 1585
  | .toneCurves _ => n = 130
  | .glareResponse _ => n = 32
  | .overlaySet _ => 3 ≤ n ∧ n ≤ 33059
  | .faultActions => n = 65

/-- R3 to R9: how many items a table's bytes have. -/
def TableId.items (t : TableId) (bs : List Byte) : Nat :=
  match t with
  | .develop _ => 14
  | .defectList _ => 1 + le16 bs 0
  | .warpMesh _ => 1 + 99 * byteAt bs 0
  | .toneCurves _ => 130
  | .glareResponse _ => 16
  | .overlaySet _ => 2 + byteAt bs 0
  | .faultActions => 13

/-- R3 to R9: an item of a table's bytes breaks no rule. -/
def TableId.ItemLegal (t : TableId) (bs : List Byte) (item : Nat) : Prop :=
  match t with
  | .develop _ =>
    (item = 0 → le16 bs 0 ≤ 1023) ∧ (item = 1 → byteAt bs 2 ≤ 3) ∧
    (∀ k, k < 9 → item = 2 + k → -4096 ≤ signed16 bs (3 + 2 * k) ∧ signed16 bs (3 + 2 * k) ≤ 4095) ∧
    (∀ o, o < 3 → item = 11 + o → -2048 ≤ signed16 bs (21 + 2 * o) ∧ signed16 bs (21 + 2 * o) ≤ 2047)
  | .defectList _ =>
    (item = 0 → 2 + 4 * le16 bs 0 = bs.length) ∧
    (∀ k, item = 1 + k → le16 bs (2 + 4 * k) ≤ 2047 ∧ le16 bs (4 + 4 * k) ≤ 1535 ∧
      ∀ j, k = j + 1 → le16 bs (4 + 4 * j) < le16 bs (4 + 4 * k) ∨
        (le16 bs (4 + 4 * j) = le16 bs (4 + 4 * k) ∧ le16 bs (2 + 4 * j) < le16 bs (2 + 4 * k)))
  | .warpMesh _ =>
    (item = 0 → (byteAt bs 0 = 1 ∨ byteAt bs 0 = 2) ∧ 1 + 792 * byteAt bs 0 = bs.length) ∧
    (∀ h q o, q < 99 → item = 1 + 99 * h + q → o = 1 + 792 * h + 8 * q →
      -1024 ≤ signed32 bs o ∧ signed32 bs o ≤ 33791 ∧ -1024 ≤ signed32 bs (o + 4) ∧ signed32 bs (o + 4) ≤ 33791)
  | .toneCurves _ => item = 0 ∨ item = 65 ∨ byteAt bs (item - 1) ≤ byteAt bs item
  | .glareResponse _ => le16 bs (2 * item) ≤ 256 ∧ ∀ k, item = k + 1 → le16 bs (2 * item) ≤ le16 bs (2 * k)
  | .overlaySet _ =>
    (item = 0 → byteAt bs 0 ≤ 16) ∧
    (item = 1 → le16 bs 1 ≤ 32768 ∧ bs.length = 3 + 18 * byteAt bs 0 + le16 bs 1) ∧
    (∀ i width height, item = i + 2 → width = le16 bs (7 + 18 * i) → height = le16 bs (9 + 18 * i) →
      width ≠ 0 ∧ height ≠ 0 ∧ byteAt bs (20 + 18 * i) ≤ 15 ∧
      le16 bs (11 + 18 * i) + height * ((width + 7) / 8) ≤ le16 bs 1)
  | .faultActions =>
    byteAt bs (5 * item) ≤ 2 ∧ 1 ≤ byteAt bs (5 * item + 1) ∧ 1 ≤ byteAt bs (5 * item + 2) ∧
    byteAt bs (5 * item + 3) ≤ 1 ∧ byteAt bs (5 * item + 4) ≤ 1

/-- R5, R216: sx of the point at a column and row of mesh `h` of a Warp Mesh table. -/
def meshX (bs : List Byte) (h c r : Nat) : Int := signed32 bs (1 + 792 * h + 8 * (9 * r + c))

/-- R5, R216: sy of the point at a column and row of mesh `h` of a Warp Mesh table. -/
def meshY (bs : List Byte) (h c r : Nat) : Int := signed32 bs (5 + 792 * h + 8 * (9 * r + c))

/-- R33: of two boundary lines, given as the lists of their values, the last has the smaller sum and so is the low edge. -/
def LastIsLow (first last : List Int) : Prop := last.sum < first.sum

/-- R33: the low-x edge of mesh `h` is column 8; else it is column 0. -/
def lastColumnLow (bs : List Byte) (h : Nat) : Prop :=
  LastIsLow ((List.range 11).map fun r => meshX bs h 0 r) ((List.range 11).map fun r => meshX bs h 8 r)

/-- R33: the low-y edge of mesh `h` is row 10; else it is row 0. -/
def lastRowLow (bs : List Byte) (h : Nat) : Prop :=
  LastIsLow ((List.range 9).map fun c => meshY bs h c 0) ((List.range 9).map fun c => meshY bs h c 10)

/-- R33: mesh `h` of a Warp Mesh table passes the envelope check on one edge. -/
def Edge.Passes (e : Edge) (bs : List Byte) (h : Nat) (q : Rect) : Prop :=
  match e with
  | .lowX => ∀ c r, (lastColumnLow bs h ∧ c = 8) ∨ (¬lastColumnLow bs h ∧ c = 0) → r < 11 → meshX bs h c r ≤ 16 * q.x0
  | .highX => ∀ c r, (lastColumnLow bs h ∧ c = 0) ∨ (¬lastColumnLow bs h ∧ c = 8) → r < 11 → 16 * q.x1 ≤ meshX bs h c r
  | .lowY => ∀ c r, (lastRowLow bs h ∧ r = 10) ∨ (¬lastRowLow bs h ∧ r = 0) → c < 9 → meshY bs h c r ≤ 16 * q.y0
  | .highY => ∀ c r, (lastRowLow bs h ∧ r = 0) ∨ (¬lastRowLow bs h ∧ r = 10) → c < 9 → 16 * q.y1 ≤ meshY bs h c r

/-- How many of a channel's three buffers a test holds of. -/
def FrameStore.number (fs : FrameStore) (p : Buffer → Bool) : Nat := [fs.b0, fs.b1, fs.b2].countP p

/-! ## Buffers (R55) -/

/-- R55: at most one buffer is FILLING, at most one READY and at most one SHOWN. -/
def FrameStore.Single (fs : FrameStore) : Prop :=
  fs.number Buffer.isFilling ≤ 1 ∧ fs.number Buffer.isReady ≤ 1 ∧ fs.number Buffer.isShown ≤ 1

/-- R55, R56: the promise of R55, and a FILLING buffer stands only while a camera frame is in progress. -/
def State.BuffersSound (s : State) : Prop :=
  ∀ ch, (s.store.get ch).Single ∧
    ((s.store.get ch).number Buffer.isFilling = 1 → (s.receiver.get ch).assembly.inProgress = true)

/-! ## Views (R61, R182, R109) -/

/-- R61, R182: a view is LIVE only with a VALID mesh and no entry driving HOLD or FALLBACK. -/
def State.ViewsSound (s : State) : Prop :=
  ∀ ch, (s.view.get ch).state = .live → s.meshValid ch = true ∧ s.withheld ch = false

/-- The view shows no buffer. -/
def ViewState.isBlank (v : ViewState) : Prop := v = .start ∨ v = .fallback

/-- R109, R66, R65: in START and FALLBACK the tile map stays reset and the frame is not fresh. -/
def State.BlankMapsReset (s : State) : Prop :=
  ∀ ch, (s.view.get ch).state.isBlank →
    (∀ t ∈ (s.glare.get ch).tiles, t = Tile.reset) ∧ (∀ r, (s.view.get ch).record = some r → r.fresh = false)

/-! ## Genlock (R167) -/

/-- R167: the source is TRACKED only while the tracker is LOCKED; LOCKED is set only in TRACK (R164). -/
def State.SourcesSound (s : State) : Prop :=
  ∀ ch, ((s.timing.get ch).source = .tracked → (s.timing.get ch).tracker.locked = true) ∧
    ((s.timing.get ch).tracker.locked = true → (s.timing.get ch).tracker.state = .track)

/-! ## Slots and queues (R141, R150, R16) -/

/-- R141: the slots held on a link never exceed 8. -/
def State.SlotsSound (s : State) : Prop := ∀ ch, s.slotsHeld ch ≤ 8

/-- R197: a request waits in the queue of the link that carried it. -/
def State.RequestsOwned (s : State) : Prop := ∀ ch, ∀ r ∈ (s.link.get ch).requests, r.link = ch

/-- R150: an expected signature queue holds at most 4 entries. -/
def State.ExpectedSound (s : State) : Prop := ∀ ch, (s.link.get ch).expected.length ≤ 4

/-- R14, R16: the staged bank is VERIFYING. -/
def Staged.isVerifying : Staged → Bool
  | .verifying _ _ _ => true
  | _ => false

/-- R16, R27: the verify queue holds each VERIFYING table once, a running verify is at its head, and a scrub step is
suspended exactly while it is non-empty. -/
def State.EngineSound (s : State) : Prop :=
  s.tables.verifyQueue.Nodup ∧
  (∀ t, t ∈ s.tables.verifyQueue ↔ (s.table t).staged.isVerifying = true) ∧
  (∀ t, s.tables.verifying = some t → s.tables.verifyQueue.head? = some t) ∧
  (∀ st, s.tables.scrub = some st → st.suspended = !s.tables.verifyQueue.isEmpty)

/-! ## Coverage (R33) -/

/-- R33: a VALID mesh passes the envelope check against a WRITTEN or FIXED record; so does a mesh waiting to swap. A load
never holds more bytes than declared (R13). -/
def State.MeshesCovered (s : State) : Prop :=
  ∀ ch rect, (s.coverage.get ch).rect = some rect →
    (s.meshValid ch = true → coverageFailure (s.table (.warpMesh ch)).active.bytes rect = none) ∧
    (∀ load supplied, (s.table (.warpMesh ch)).staged = .swapWait load supplied →
      coverageFailure load.bytes rect = none)

/-- R10: bytes received never exceed the declared length. -/
def Staged.Bounded (x : Staged) : Prop :=
  match x with
  | .idle => True
  | .loading load => load.bytes.length ≤ load.declared
  | .verifying load _ _ => load.bytes.length ≤ load.declared
  | .swapWait load _ => load.bytes.length ≤ load.declared

/-- R10, R13. -/
def State.LoadsBounded (s : State) : Prop := ∀ t, (s.table t).staged.Bounded

/-! ## Fault entries (R175, R190) -/

/-- R175, R177: the run of an entry is 0 in INACTIVE, ACTIVE and LATCHED and never passes 255; occurrences stop at 255. -/
def FaultEntry.Sound (e : FaultEntry) : Prop :=
  e.run ≤ 255 ∧ e.occurrences ≤ 255 ∧
    (e.state = .inactive ∨ e.state = .active ∨ e.state = .latched → e.run = 0)

/-- R175, R190: every entry is sound and the history holds at most 32 records. -/
def State.FaultsSound (s : State) : Prop := (∀ ch k, (s.entry ch k).Sound) ∧ s.history.length ≤ 32

/-! ## Parameters (R204, R206) -/

/-- R204, R206: fields that a parameter may hold: as many as it has, each in its range and a multiple of its step. -/
def Param.Legal (p : Param) (fields : List Nat) : Prop :=
  fields.length = p.ranges.length ∧
    ∀ fr ∈ List.zip fields p.ranges, fr.2.1 ≤ fr.1 ∧ fr.1 ≤ fr.2.2 ∧ fr.1 % p.step = 0

/-- R204, R205: every value in force and every pending value is legal, and a parameter has at most one pending value. -/
def State.ParamsSound (s : State) : Prop :=
  ∀ ch, (∀ p : Param, p.Legal (s.paramValue ch p)) ∧ (∀ pv ∈ s.pendingParams.get ch, pv.1.Legal pv.2) ∧
    ((s.pendingParams.get ch).map Prod.fst).Nodup

/-! ## Glare (R106) -/

/-- R7, R104: a Glare Response of entries of at most 256. -/
def ResponseBounded (response : List Nat) : Prop := ∀ v ∈ response, v ≤ 256

/-- R106: every stored gain and target lies between the floor in force and 256; the responses that set them are bounded. -/
def State.GainsSound (s : State) : Prop :=
  ∀ ch,
    (∀ t ∈ (s.glare.get ch).tiles,
      (s.params.get ch).gainFloor ≤ t.gain ∧ t.gain ≤ 256 ∧ (s.params.get ch).gainFloor ≤ t.target ∧ t.target ≤ 256) ∧
    ResponseBounded (s.link.get ch).frame.items.response ∧
    ResponseBounded (s.responseInUse ch) ∧
    (∀ load supplied, (s.table (.glareResponse ch)).staged = .swapWait load supplied →
      ResponseBounded ((List.range 16).map fun k => le16 load.bytes (2 * k)))

end Sys2Proof.Machine
end

