-- ==== Sys2Proof/Certificates/Slice0/Obligations.lean ====
section
/-! DEFINITION. The statements for the provers. Each says what a command does to a state that meets its hypotheses, what it
leaves unchanged, or what every step keeps. -/

open Sys2Proof Sys2Proof.Machine

/-! ## The queue of commands and the idle part -/

/-- A step takes the command at the front of the queue and runs it with the rest. -/
def Obligations.StepTakesFrontCommand : Prop :=
  ∀ (c : Instr) (rest : List Instr) (s : State),
    s.pending = c :: rest → step s = exec c { s with pending := rest }

/-- The model's choice (assumption 3): with no command waiting the held part does nothing, a running one queues exactly
the events that fall due, in some order, and otherwise one microsecond passes. What is due: the tick where the counter
stands at the selected transition and none is taken there yet (R156, assumption 25), a link's display frame start one
period after its last, or at 0 (R159), the next reference start of a tracker that is not OFF unless it is one event with
the display frame start (R163, R166, assumption 14), the verify of a queue that none runs for (R16), and a request the
FREE agent can take (R198). -/
def Obligations.IdleQueuesDueEventsOrCountsOne : Prop :=
  (∀ s : State,
    (s.tickDue = true ↔ s.lastTick ≠ some s.counter ∧ s.counter.toNat % 2 ^ (s.partParams.tickBit + 1) =
      (match s.partParams.tickEdge with | .rising => 2 ^ s.partParams.tickBit | .falling => 0)) ∧
    (∀ ch g, g = s.timing.get ch →
      (s.startDue ch = true ↔ (g.start = none ∧ s.counter = 0) ∨
        ∃ start, g.start = some start ∧ s.counter = start + BitVec.ofNat 32 g.period) ∧
      (s.referenceDue ch = true ↔ g.tracker.state ≠ .off ∧ g.tracker.nextRef = some s.counter ∧
        ¬(s.startDue ch = true ∧ g.source = .tracked ∧ (g.aligned = true ∨ g.landing = true)))) ∧
    (∀ c : Instr, c ∈ s.due ↔
      (c = .supervisionTick ∧ s.tickDue = true) ∨ (∃ ch, c = .displayFrameStart ch ∧ s.startDue ch = true) ∨
      (∃ ch, c = .referenceStart ch ∧ s.referenceDue ch = true) ∨
      (c = .verifyStart ∧ s.tables.verifyQueue ≠ [] ∧ s.tables.verifying = none) ∨
      (c = .agentTakesRequest ∧ s.agent.executing = none ∧ ∃ ch, (s.link.get ch).requests ≠ [])) ∧
    s.due.Nodup) ∧
  ∀ s : State, s.pending = [] →
    (s.held = true → step s = .next s) ∧
    (s.held = false → s.due ≠ [] →
      ∃ t, step s = .next t ∧ t.pending.Perm s.due ∧ t = { s with pending := t.pending, draws := t.draws }) ∧
    (s.held = false → s.due = [] →
      ∃ t, step s = .next t ∧ t.counter = s.counter + 1 ∧
        t = { s with counter := t.counter, draws := t.draws, tables := { s.tables with scrub := t.tables.scrub } })

/-! ## Part resets -/

/-- R208: the values a part reset leaves, in State.reset: every record of the block rules and the default of every parameter
(R206). -/
def Obligations.ResetLeavesResetValues : Prop :=
  State.reset.counter = 0 ∧ State.reset.held = false ∧ State.reset.faultN = false ∧
  State.reset.history = [] ∧ State.reset.historyCount = 0 ∧
  State.reset.agent.executing = none ∧ State.reset.agent.lastServed = .right ∧
  State.reset.partParams = { tickBit := 15, tickEdge := .rising } ∧
  (∀ t, (State.reset.table t).active.state = .empty ∧ (State.reset.table t).active.generation = 0 ∧
    (State.reset.table t).active.length = 0 ∧ (State.reset.table t).active.checksum = 0 ∧
    (State.reset.table t).staged = .idle ∧ (State.reset.table t).lock = .locked) ∧
  State.reset.tables.verifyQueue = [] ∧ State.reset.tables.scrub = none ∧
  State.reset.tables.scrubPosition.number = 0 ∧
  ∀ ch,
    (State.reset.receiver.get ch).assembly = .idle ∧ (State.reset.receiver.get ch).reference = none ∧
    (State.reset.receiver.get ch).startSeen = false ∧ (State.reset.receiver.get ch).silentTicks = 0 ∧
    (State.reset.receiver.get ch).pass = .idle ∧
    (∀ b, (State.reset.store.get ch).get b = .free) ∧
    (State.reset.view.get ch).state = .start ∧ (State.reset.view.get ch).holdTimer = 0 ∧
    (State.reset.glare.get ch).tiles.length = 80 ∧ (State.reset.glare.get ch).last = List.replicate 80 0 ∧
    (∀ t ∈ (State.reset.glare.get ch).tiles, t = { state := .clear, run := 0, qLast := 0, target := 256, gain := 256 }) ∧
    (State.reset.glare.get ch).night = false ∧ (State.reset.glare.get ch).dwell = 0 ∧
    (State.reset.link.get ch).nextSeq = 0 ∧ (State.reset.link.get ch).expected = [] ∧
    (State.reset.link.get ch).requests = [] ∧ (State.reset.link.get ch).answers = [] ∧
    (State.reset.link.get ch).rxDiscard = false ∧ (State.reset.link.get ch).statusSeen = false ∧
    (State.reset.link.get ch).silentTicks = 0 ∧
    (State.reset.timing.get ch).source = .internal ∧ (State.reset.timing.get ch).aligned = false ∧
    (State.reset.timing.get ch).tracker =
      { state := .off, locked := false, bandwidth := .auto, period := 16667, nextRef := none, frameEnd := none
        lastError := none, lockRun := 0, unlockRun := 0, emptyCount := 0 } ∧
    (∀ k, State.reset.entry ch k =
      { state := .inactive, run := 0, applied := k.builtIn, occurrences := 0, first := none, last := none, detail := none
        unacknowledged := false }) ∧
    State.reset.params.get ch =
      { camWidth := 1920, camHeight := 1080, holdLimit := 30, repeatLimit := 3, latencyLimit := 50000
        dispWidth := 800, dispHeight := 1280, borderColour := ⟨0, 0, 0⟩, hotLevel := 3600, glareOn := 8, glareOff := 3
        onsetFrames := 2, releaseFrames := 12, attackStep := 32, releaseStep := 8, gainFloor := 96, glareTileLimit := 48
        fieldColour := ⟨64, 64, 64⟩, checkWindow := ⟨0, 0, 1280, 1920⟩, periodNom := 16667, span := 500, offset := 1500
        lockWindow := 200, unlockWindow := 1000, nightMode := .auto, nightEnter := 20, nightExit := 60, nightDwell := 30 } ∧
    State.reset.pendingParams.get ch = []

/-- The invariants stated below hold at reset. -/
def Obligations.ResetMeetsInvariants : Prop :=
  State.reset.BuffersSound ∧ State.reset.ViewsSound ∧ State.reset.BlankMapsReset ∧ State.reset.SourcesSound ∧
  State.reset.RequestsOwned ∧ State.reset.SlotsSound ∧ State.reset.ExpectedSound ∧ State.reset.EngineSound ∧ State.reset.MeshesCovered ∧
  State.reset.LoadsBounded ∧ State.reset.FaultsSound ∧ State.reset.ParamsSound ∧ State.reset.GainsSound

/-- R207, R192: a condition that begins holds the part, setting its own flag and leaving the other conditions as they are, and
ends all work in flight; FAULT_N is released, the coverage records and the reset cause record stand. While the part is held no
packet, no cell and no event of its own has an effect. No other command sets the flag of a condition, and only power being
applied sets the flag that makes the cause POWER-ON; that it sets this flag whatever else holds the part is the model's reading
(assumption 33). -/
def Obligations.HeldPartTakesNothing : Prop :=
  (∀ (s : State) (c : Instr), c = .powerOn ∨ c = .resetNAssert ∨ c = .refclkLoss →
     ∃ t : State, exec c s = .next t ∧ t.held = true ∧ t.faultN = false ∧ t.coverage = s.coverage ∧
       t.hold =
         (if c = .powerOn then { s.hold with powerOn := true, fromPower := true }
          else if c = .resetNAssert then { s.hold with resetN := true }
          else { s.hold with clockAbsent := true }) ∧
       t.resetRecord = s.resetRecord ∧ t.pins = s.pins ∧ t.agent.executing = none ∧ t.tables.verifyQueue = [] ∧
       t.tables.scrub = none ∧ (∀ x, (t.table x).staged = .idle) ∧
       ∀ ch, (t.receiver.get ch).assembly = .idle ∧ (t.receiver.get ch).pass = .idle ∧
         (t.link.get ch).requests = [] ∧ (t.link.get ch).answers = [] ∧ (t.link.get ch).resetPending = false) ∧
  (∀ (s : State) (c : Instr), s.held = true →
     c ≠ .powerOn → c ≠ .powerOnConditionEnd → c ≠ .resetNAssert → c ≠ .resetNDeassert → c ≠ .refclkLoss →
     c ≠ .refclkReturn → exec c s = .next s) ∧
  (∀ (s t : State) (c : Instr), exec c s = .next t →
     (c ≠ .powerOn → t.hold.powerOn = true → s.hold.powerOn = true) ∧
     (c ≠ .resetNAssert → t.hold.resetN = true → s.hold.resetN = true) ∧
     (c ≠ .refclkLoss → t.hold.clockAbsent = true → s.hold.clockAbsent = true) ∧
     (c ≠ .powerOn → t.hold.fromPower = true → s.hold.fromPower = true))

/-- R207, R208, R192: the end of the last condition that holds the part completes the reset, with its cause and the MODE
strap recorded; coverage and lines stand. That the cause is POWER-ON whenever power was applied while another condition
held the part is the model's reading (assumption 33), and so is that the queue of commands and the draw counter stand
(assumption 26). A condition that ends while another still holds the part completes nothing. -/
def Obligations.LastConditionEndCompletesReset : Prop :=
  ∀ s : State,
    (s.hold.powerOn = true → s.hold.resetN = true ∨ s.hold.clockAbsent = true →
      exec .powerOnConditionEnd s = .next { s with hold := { s.hold with powerOn := false } }) ∧
    (s.hold.resetN = true → s.hold.powerOn = true ∨ s.hold.clockAbsent = true →
      exec .resetNDeassert s = .next { s with hold := { s.hold with resetN := false } }) ∧
    (s.hold.clockAbsent = true → s.hold.powerOn = true ∨ s.hold.resetN = true →
      exec .refclkReturn s = .next { s with hold := { s.hold with clockAbsent := false } }) ∧
    (s.hold.powerOn = true → s.hold.resetN = false → s.hold.clockAbsent = false →
      exec .powerOnConditionEnd s = .next { State.reset with
        pending := s.pending, pins := s.pins, coverage := s.coverage, draws := s.draws
        resetRecord := ⟨.powerOn, s.pins.modeStrap⟩ }) ∧
    (s.hold.powerOn = false → s.hold.resetN = true → s.hold.clockAbsent = false →
      exec .resetNDeassert s = .next { State.reset with
        pending := s.pending, pins := s.pins, coverage := s.coverage, draws := s.draws
        resetRecord := ⟨if s.hold.fromPower then .powerOn else .line, s.pins.modeStrap⟩ }) ∧
    (s.hold.powerOn = false → s.hold.resetN = false → s.hold.clockAbsent = true →
      exec .refclkReturn s = .next { State.reset with
        pending := s.pending, pins := s.pins, coverage := s.coverage, draws := s.draws
        resetRecord := ⟨if s.hold.fromPower then .powerOn else .clock, s.pins.modeStrap⟩ })

/-! ## Packets and cells -/

/-- R1: the two accumulators of a pair sum are the sum of the bytes and the sum of the running sums, modulo 65521. -/
def Obligations.PairSumClosedForm : Prop :=
  ∀ bytes : List Byte,
    pairSum bytes = BitVec.ofNat 32
      ((bytes.length + ((List.range bytes.length).map fun i => (bytes.length - i) * byteAt bytes i).sum) % 65521 * 65536
        + (1 + (bytes.map BitVec.toNat).sum) % 65521)

/-- R210 to R212, R34, R143: every camera packet and return cell laid out by R211 or R212 with its check is read as what
it carries. No other run of bytes is taken: a packet or cell of unknown kind is discarded, and so is a REPLY or REQUEST
declaring more than 48 bytes, a MONITOR-STATUS whose backlight code is neither 0 nor 1, and each kind whose length is
not what its fields give or whose last four bytes are not the pair sum of the others; such an EMBEDDED, LINE or
FRAME-END fails in its frame. -/
def Obligations.PacketsAndCellsAreReadByLayout : Prop :=
  (readCameraPacket (withCheck [1]) = .frameStart ∧
   (∀ (counter : BitVec 16) (status : Byte),
     readCameraPacket (withCheck (toLe 1 2 ++ toLe 2 counter.toNat ++ [status])) = .embedded counter status) ∧
   (∀ (index : Nat) (pixels : List Nat), index < 65536 → pixels.length < 65536 → (∀ v ∈ pixels, v < 65536) →
     readCameraPacket (withCheck (toLe 1 3 ++ toLe 2 index ++ toLe 2 pixels.length ++ (pixels.map (toLe 2)).flatten)) =
       .line index pixels) ∧
   (∀ sent, sent < 65536 → readCameraPacket (withCheck (toLe 1 4 ++ toLe 2 sent)) = .frameEnd sent) ∧
   (∀ payload : List Byte, payload.length ≤ 48 →
     readCameraPacket (withCheck (toLe 1 5 ++ toLe 1 payload.length ++ payload)) = .reply payload) ∧
   (∀ (lux : BitVec 16) (fault : Bool),
     readReturnCell (withCheck (toLe 1 16 ++ toLe 2 lux.toNat ++ boolByte fault)) = .monitorStatus lux fault) ∧
   (∀ (seq : Seq) (value : Check),
     readReturnCell (withCheck (toLe 1 17 ++ toLe 2 seq.toNat ++ toLe 4 value.toNat)) = .signature seq value) ∧
   (∀ (tag kind channel item : Byte) (payload : List Byte), payload.length ≤ 48 →
     readReturnCell (withCheck (toLe 1 18 ++ [tag, kind, channel, item] ++ toLe 1 payload.length ++ payload)) =
       .request tag kind channel item payload)) ∧
  (∀ (bytes : List Byte) (kind : Nat) (wrong : Nat → Prop), kind = byteAt bytes 0 →
     (∀ n, wrong n ↔ bytes.length ≠ n ∨
       le32 bytes (bytes.length - 4) ≠ (pairSum (bytes.take (bytes.length - 4))).toNat) →
     (kind < 1 ∨ 5 < kind → readCameraPacket bytes = .discarded) ∧
     (kind = 1 → wrong 5 → readCameraPacket bytes = .discarded) ∧
     (kind = 2 → wrong 8 → readCameraPacket bytes = .embeddedFailed) ∧
     (kind = 3 → wrong (9 + 2 * le16 bytes 3) → readCameraPacket bytes = .lineFailed) ∧
     (kind = 4 → wrong 7 → readCameraPacket bytes = .frameEndFailed) ∧
     (kind = 5 → 48 < byteAt bytes 1 ∨ wrong (6 + byteAt bytes 1) → readCameraPacket bytes = .discarded) ∧
     (kind < 16 ∨ 18 < kind → readReturnCell bytes = .discarded) ∧
     (kind = 16 → 1 < byteAt bytes 3 ∨ wrong 8 → readReturnCell bytes = .discarded) ∧
     (kind = 17 → wrong 11 → readReturnCell bytes = .discarded) ∧
     (kind = 18 → 48 < byteAt bytes 5 ∨ wrong (10 + byteAt bytes 5) → readReturnCell bytes = .discarded))

/-! ## The camera receiver -/

/-- R36, R40, R44, R56: an accepted FRAME-START begins a frame with the items in force (R29, R216) and fills the
lowest-numbered FREE buffer. With no frame in progress nothing else changes. One that meets a frame in progress first
abandons it, an evaluation of FRAME_MALFORMED with detail 6; the camera-side items that wait take effect, and the new
frame fills the lowest-numbered buffer that is FREE once the abandoned one is discarded (R57) and, where an entry takes the
view to FALLBACK, SHOWN is released (R59). -/
def Obligations.FrameStartBeginsFrame : Prop :=
  (∀ (ch : Channel) (packet : List Byte) (s : State), s.held = false → readCameraPacket packet = .frameStart →
    (s.receiver.get ch).assembly.inProgress = false →
    ∃ (t : State) (f : FrameFacts), exec (.frameStart ch packet) s = .next t ∧
      t = { s with
        receiver := s.receiver.set ch
          { s.receiver.get ch with assembly := .header f, startSeen := true, silentTicks := 0 }
        store := s.store.set ch (t.store.get ch) } ∧
      f.nextLine = 0 ∧ f.width = (s.params.get ch).camWidth ∧ f.height = (s.params.get ch).camHeight ∧
      f.arrival = s.counter ∧ f.raw = [] ∧ f.buffer = (s.store.get ch).find Buffer.isFree ∧
      f.develop = s.developInUse ch ∧ f.defects = s.defectsInUse ch ∧ s.IntakeHeld ch f ∧
      (∀ b, f.buffer = some b → (t.store.get ch).get b =
        .filling { arrival := s.counter, width := f.width, height := f.height, rows := [] }) ∧
      (∀ b, f.buffer ≠ some b → (t.store.get ch).get b = (s.store.get ch).get b)) ∧
  (∀ (ch : Channel) (packet : List Byte) (s : State), s.held = false → readCameraPacket packet = .frameStart →
    (s.receiver.get ch).assembly.inProgress = true → s.BuffersSound →
    ∃ (t : State) (f : FrameFacts) (discarded freed : FrameStore), exec (.frameStart ch packet) s = .next t ∧
      discarded.released = (s.store.get ch).released ∧
      (∀ b, discarded.get b = if ((s.store.get ch).get b).isFilling then .free else (s.store.get ch).get b) ∧
      ((s.view.get ch).state = .fallback ∨ (t.view.get ch).state ≠ .fallback → freed = discarded) ∧
      ((s.view.get ch).state ≠ .fallback → (t.view.get ch).state = .fallback →
        discarded.ReleasedTo freed (s.link.get ch).frame.lineInProgress) ∧
      f.buffer = freed.find Buffer.isFree ∧
      (∀ b, f.buffer = some b → (t.store.get ch).get b =
        .filling { arrival := s.counter, width := f.width, height := f.height, rows := [] }) ∧
      (∀ b, f.buffer ≠ some b → (t.store.get ch).get b = freed.get b) ∧
      (t.receiver.get ch).assembly = .header f ∧ f.nextLine = 0 ∧ f.arrival = s.counter ∧ f.raw = [] ∧
      f.width = (t.params.get ch).camWidth ∧ f.height = (t.params.get ch).camHeight ∧
      f.develop = t.developInUse ch ∧ f.defects = t.defectsInUse ch ∧ t.IntakeHeld ch f ∧
      f.buffer.isSome = true ∧ (t.receiver.get ch).startSeen = true ∧ (t.receiver.get ch).silentTicks = 0 ∧
      (t.receiver.get ch).reference = (s.receiver.get ch).reference ∧
      t.entry ch .frameMalformed = s.judged ch .frameMalformed (some 6) ∧ (t.store.get ch).number Buffer.isFilling = 1 ∧
      s.TablesTaken t (cameraTables ch) ∧ (s.ParamsSound → s.ValuesTaken t ch .camera) ∧
      t.pendingParams.get ch = (s.pendingParams.get ch).filter (fun pv => pv.1.cls != .camera) ∧
      t.link = s.link ∧ t.timing = s.timing ∧ t.agent = s.agent ∧ t.coverage = s.coverage ∧ t.counter = s.counter)

/-- R45 to R49: a developed row has one pixel per column. A value is the raw one, or for a listed position the substitute of
the first case of R46 that applies, less the black level and never below 0. The missing colours are the means of R48, rounded
half up, over neighbours reflected at the frame's edges, and the matrix, the offsets and the clamp of R49 follow. R48 gives the
Bayer phases 0 to 3; that a phase above 3, which only an upset bank can hold, is read by its two lowest bits is the model's
choice (assumption 36). -/
def Obligations.DevelopedRowsFollowIntake : Prop :=
  (∀ (f : FrameFacts) (r : Nat), (f.developedRow r).length = f.width ∧
    ∀ c, c < f.width → (f.developedRow r)[c]? = some (f.developed c r)) ∧
  (∀ (f : FrameFacts) (c r : Nat) (left right up down : Prop), c < f.width → r < f.height →
    (left ↔ 2 ≤ c ∧ (c - 2, r) ∉ f.defects) → (right ↔ c + 2 < f.width ∧ (c + 2, r) ∉ f.defects) →
    (up ↔ 2 ≤ r ∧ (c, r - 2) ∉ f.defects) → (down ↔ r + 2 < f.height ∧ (c, r + 2) ∉ f.defects) →
    ((c, r) ∉ f.defects → f.levelled c r = rawAt f.raw c r - f.develop.black) ∧
    ((c, r) ∈ f.defects →
      (left → right → f.levelled c r = (rawAt f.raw (c - 2) r + rawAt f.raw (c + 2) r + 1) / 2 - f.develop.black) ∧
      (left → ¬right → f.levelled c r = rawAt f.raw (c - 2) r - f.develop.black) ∧
      (¬left → right → f.levelled c r = rawAt f.raw (c + 2) r - f.develop.black) ∧
      (¬left → ¬right → up → f.levelled c r = rawAt f.raw c (r - 2) - f.develop.black) ∧
      (¬left → ¬right → ¬up → down → f.levelled c r = rawAt f.raw c (r + 2) - f.develop.black) ∧
      (¬left → ¬right → ¬up → ¬down → f.levelled c r = 0))) ∧
  (∀ (f : FrameFacts) (c r : Nat) (v : Nat → Nat → Nat) (cross corners sides stack : Nat), c < f.width → r < f.height →
    (∀ a b, v a b = f.levelled
      (if a = 0 then 1 else if a = f.width + 1 then f.width - 2 else a - 1)
      (if b = 0 then 1 else if b = f.height + 1 then f.height - 2 else b - 1)) →
    sides = v c (r + 1) + v (c + 2) (r + 1) → stack = v (c + 1) r + v (c + 1) (r + 2) → cross = sides + stack →
    corners = v c r + v (c + 2) r + v c (r + 2) + v (c + 2) (r + 2) →
    (c % 2 = f.develop.bayer % 2 → r % 2 = f.develop.bayer / 2 % 2 →
      f.demosaic c r = ⟨f.levelled c r, (cross + 2) / 4, (corners + 2) / 4⟩) ∧
    (c % 2 ≠ f.develop.bayer % 2 → r % 2 ≠ f.develop.bayer / 2 % 2 →
      f.demosaic c r = ⟨(corners + 2) / 4, (cross + 2) / 4, f.levelled c r⟩) ∧
    (c % 2 ≠ f.develop.bayer % 2 → r % 2 = f.develop.bayer / 2 % 2 →
      f.demosaic c r = ⟨(sides + 1) / 2, f.levelled c r, (stack + 1) / 2⟩) ∧
    (c % 2 = f.develop.bayer % 2 → r % 2 ≠ f.develop.bayer / 2 % 2 →
      f.demosaic c r = ⟨(stack + 1) / 2, f.levelled c r, (sides + 1) / 2⟩)) ∧
  (∀ (f : FrameFacts) (c r : Nat) (p : Rgb) (m o : Nat → Int), p = f.demosaic c r →
    (∀ k, m k = f.develop.matrix.getD k 0) → (∀ k, o k = f.develop.offsets.getD k 0) →
    ((f.developed c r).r : Int) = max 0 (min 4095 ((m 0 * p.r + m 1 * p.g + m 2 * p.b + 512) / 1024 + o 0)) ∧
    ((f.developed c r).g : Int) = max 0 (min 4095 ((m 3 * p.r + m 4 * p.g + m 5 * p.b + 512) / 1024 + o 1)) ∧
    ((f.developed c r).b : Int) = max 0 (min 4095 ((m 6 * p.r + m 7 * p.g + m 8 * p.b + 512) / 1024 + o 2)))

/-- R37, R38, R45: in HEADER an EMBEDDED is recorded and the phase becomes LINES. In LINES a LINE that passes the four tests
enters the pipeline as the next camera row, each value clamped to 4095, and the FILLING buffer receives developed rows in
order, row r with camera row r + 3 (the model's schedule, assumption 10); nothing else changes. -/
def Obligations.HeaderAndLinesAreTaken : Prop :=
  (∀ (ch : Channel) (packet : List Byte) (s : State) (f : FrameFacts) (counter : BitVec 16) (status : Byte),
     s.held = false → readCameraPacket packet = .embedded counter status →
     (s.receiver.get ch).assembly = .header f →
     exec (.embedded ch packet) s = .next { s with
       receiver := s.receiver.set ch { s.receiver.get ch with assembly := .lines f counter status } }) ∧
  (∀ (ch : Channel) (packet : List Byte) (s : State) (f : FrameFacts) (counter : BitVec 16) (status : Byte)
     (pixels : List Nat) (f' : FrameFacts),
     s.held = false → (s.receiver.get ch).assembly = .lines f counter status →
     readCameraPacket packet = .line f.nextLine pixels → f.nextLine < f.height → pixels.length = f.width →
     f' = { f with nextLine := f.nextLine + 1, raw := f.raw ++ [pixels.map fun v => if v ≤ 4095 then v else 4095] } →
     ∃ t : State, exec (.line ch packet) s = .next t ∧
       t = { s with
         receiver := s.receiver.set ch
           { s.receiver.get ch with assembly := .lines f' counter status }
         store := s.store.set ch (t.store.get ch) } ∧
       (∀ b, ((s.store.get ch).get b).isFilling = false → (t.store.get ch).get b = (s.store.get ch).get b) ∧
       (∀ b p, (s.store.get ch).find Buffer.isFilling = some b → (s.store.get ch).get b = .filling p →
         (t.store.get ch).get b = .filling { p with
           rows := p.rows ++ (List.range (f.raw.length - 2 - p.rows.length)).map
             fun k => f'.developedRow (p.rows.length + k) }))

/-- R37, R38, R39, R40: what makes a frame in progress malformed, an observation of FRAME_MALFORMED with its detail: a
failed check in HEADER or LINES, a LINE or FRAME-END in HEADER, an EMBEDDED in LINES, a LINE that fails a test of R38, a
FRAME-END whose count is wrong. The frame is dropped, its buffer freed, and the phase is IDLE after a FRAME-END and
DISCARD otherwise. In DISCARD a FRAME-END ends the discarding and other packets change nothing; in IDLE a FRAME-END
changes nothing. A FRAME-END of a frame, and one in DISCARD, gives its time to a tracker that is not OFF. -/
def Obligations.MalformedFrameIsDropped : Prop :=
  ∀ (ch : Channel) (packet : List Byte) (s : State) (ends : LinkTiming), s.held = false →
    ends = (if (s.timing.get ch).tracker.state = .off then s.timing.get ch
      else { s.timing.get ch with tracker := { (s.timing.get ch).tracker with frameEnd := some s.counter } }) →
    (∀ (f : FrameFacts) (counter : BitVec 16) (status : Byte) (c : Instr) (detail : Nat) (after : Assembly),
      (((s.receiver.get ch).assembly = .header f ∧
        (c = .embedded ch packet ∧ readCameraPacket packet = .embeddedFailed ∧ detail = 3 ∧ after = .discard ∨
         c = .line ch packet ∧ readCameraPacket packet = .lineFailed ∧ detail = 3 ∧ after = .discard ∨
         (∃ index pixels, c = .line ch packet ∧ readCameraPacket packet = .line index pixels ∧ detail = 1 ∧
           after = .discard) ∨
         c = .frameEnd ch packet ∧ readCameraPacket packet = .frameEndFailed ∧ detail = 3 ∧ after = .idle ∨
         (∃ sent, c = .frameEnd ch packet ∧ readCameraPacket packet = .frameEnd sent ∧ detail = 1 ∧ after = .idle))) ∨
       ((s.receiver.get ch).assembly = .lines f counter status ∧
        (c = .embedded ch packet ∧ readCameraPacket packet = .embeddedFailed ∧ detail = 3 ∧ after = .discard ∨
         (∃ n x, c = .embedded ch packet ∧ readCameraPacket packet = .embedded n x ∧ detail = 1 ∧ after = .discard) ∨
         c = .line ch packet ∧ readCameraPacket packet = .lineFailed ∧ detail = 3 ∧ after = .discard ∨
         (∃ index pixels, c = .line ch packet ∧ readCameraPacket packet = .line index pixels ∧ index ≠ f.nextLine ∧
           detail = 2 ∧ after = .discard) ∨
         (∃ pixels, c = .line ch packet ∧ readCameraPacket packet = .line f.nextLine pixels ∧ f.height ≤ f.nextLine ∧
           detail = 5 ∧ after = .discard) ∨
         (∃ pixels, c = .line ch packet ∧ readCameraPacket packet = .line f.nextLine pixels ∧ f.nextLine < f.height ∧
           pixels.length ≠ f.width ∧ detail = 4 ∧ after = .discard) ∨
         c = .frameEnd ch packet ∧ readCameraPacket packet = .frameEndFailed ∧ detail = 3 ∧ after = .idle ∨
         (∃ sent, c = .frameEnd ch packet ∧ readCameraPacket packet = .frameEnd sent ∧
           (sent ≠ f.height ∨ f.nextLine ≠ f.height) ∧ detail = 5 ∧ after = .idle)))) →
      ∃ t : State, exec c s = .next t ∧ t.entry ch .frameMalformed = s.judged ch .frameMalformed (some detail) ∧
        (t.receiver.get ch).assembly = after ∧ (t.receiver.get ch).reference = (s.receiver.get ch).reference ∧
        (t.store.get ch).number Buffer.isFilling = 0 ∧
        (∀ b p n, (s.store.get ch).get b = .ready p n → (t.store.get ch).get b = .ready p n) ∧
        s.TablesTaken t (cameraTables ch) ∧ (s.ParamsSound → s.ValuesTaken t ch .camera) ∧
        t.timing = (if after = .idle then s.timing.set ch ends else s.timing) ∧
        t.link = s.link ∧ t.agent = s.agent ∧ t.coverage = s.coverage ∧ t.counter = s.counter) ∧
    ((s.receiver.get ch).assembly = .discard →
      ((∃ sent, readCameraPacket packet = .frameEnd sent) ∨ readCameraPacket packet = .frameEndFailed →
        exec (.frameEnd ch packet) s = .next { s with
          timing := s.timing.set ch ends
          receiver := s.receiver.set ch { s.receiver.get ch with assembly := .idle } }) ∧
      exec (.embedded ch packet) s = .next s ∧ exec (.line ch packet) s = .next s) ∧
    ((s.receiver.get ch).assembly = .idle → exec (.embedded ch packet) s = .next s ∧
      exec (.line ch packet) s = .next s ∧ exec (.frameEnd ch packet) s = .next s)

/-- R39, R41, R42, R57: a structurally good frame closes its assembly, takes its counter as the reference and hands its end
to a tracker that is not OFF; its buffer receives the rows still missing and becomes READY exactly when the counter advanced
and the status is 0, else FREE; a buffer that was READY is superseded and becomes FREE in the first case, and stands in the
other. FRAME_MALFORMED is evaluated clean, CAM_FROZEN and CAM_SENSOR are evaluated, and so is CAM_SKIP unless the counter
stands. The camera-side tables and values that wait take effect (R19, R44, R205). -/
def Obligations.GoodFrameEndJudgesFrame : Prop :=
  ∀ (ch : Channel) (packet : List Byte) (s : State) (f : FrameFacts) (counter : BitVec 16) (status : Byte) (b : BufferId)
    (p : Picture),
    s.held = false → s.BuffersSound → (s.receiver.get ch).assembly = .lines f counter status →
    readCameraPacket packet = .frameEnd f.height → f.nextLine = f.height → (s.store.get ch).get b = .filling p →
    ∃ t : State, exec (.frameEnd ch packet) s = .next t ∧ (t.receiver.get ch).assembly = .idle ∧
      (t.receiver.get ch).reference = some counter ∧
      (t.timing.get ch).tracker.frameEnd =
        (if (s.timing.get ch).tracker.state = .off then (s.timing.get ch).tracker.frameEnd else some s.counter) ∧
      ((s.receiver.get ch).reference ≠ some counter → status = 0 →
        (t.store.get ch).get b = .ready { p with
          rows := p.rows ++ (List.range (f.height - p.rows.length)).map fun k => f.developedRow (p.rows.length + k) }
          counter) ∧
      ((s.receiver.get ch).reference = some counter ∨ status ≠ 0 → (t.store.get ch).get b = .free) ∧
      (∀ old q n, (s.store.get ch).get old = .ready q n →
        ((s.receiver.get ch).reference ≠ some counter → status = 0 → (t.store.get ch).get old = .free) ∧
        ((s.receiver.get ch).reference = some counter ∨ status ≠ 0 → (t.store.get ch).get old = .ready q n)) ∧
      t.entry ch .frameMalformed = s.judged ch .frameMalformed none ∧
      t.entry ch .camSensor = s.judged ch .camSensor (if status = 0 then none else some status.toNat) ∧
      ((s.receiver.get ch).reference = some counter →
        t.entry ch .camFrozen = s.judged ch .camFrozen (some counter.toNat) ∧ t.entry ch .camSkip = s.entry ch .camSkip) ∧
      ((s.receiver.get ch).reference ≠ some counter → t.entry ch .camFrozen = s.judged ch .camFrozen none) ∧
      ((s.receiver.get ch).reference = none → t.entry ch .camSkip = s.judged ch .camSkip none) ∧
      (∀ ref d, (s.receiver.get ch).reference = some ref → ref ≠ counter → d = (counter - ref).toNat →
        t.entry ch .camSkip = s.judged ch .camSkip (if 2 ≤ d ∧ d ≤ 32767 then some (d - 1) else none)) ∧
      s.TablesTaken t (cameraTables ch) ∧ (s.ParamsSound → s.ValuesTaken t ch .camera) ∧
      t.link = s.link ∧ t.agent = s.agent ∧ t.coverage = s.coverage ∧ t.counter = s.counter

/-- R126 to R128: the sixteen overlay conditions that a record holds, where it is filled at a display frame start and where an
amendment evaluates them anew. At a start whose tracker is not OFF the two conditions that read the fault entries may come
before or after GENLOCK_LOST (assumption 6), so they are said of a start whose tracker is OFF. That HOLD_LIMIT_REACHED is a
step of its own (assumption 13), and that the record a VIEW-RESTART amends reads the entries as that restart clears them
(assumption 17), is the model's choice. -/
def Obligations.ConditionsAreEvaluatedAtStartAndAmendment : Prop :=
  (∀ (s : State) (ch : Channel), s.held = false → s.startDue ch = true →
    ∃ (t : State) (r : FrameRecord), exec (.displayFrameStart ch) s = .next t ∧ (t.view.get ch).record = some r ∧
      t.ConditionsTold ch r ∧ ((s.timing.get ch).tracker.state = .off → t.EntryConditionsTold ch r)) ∧
  (∀ (s : State) (ch : Channel) (before : FrameRecord), s.held = false → s.startDue ch = true →
    s.reachesHoldLimit ch = true → (s.view.get ch).record = some before →
    ∃ (t : State) (r : FrameRecord), exec (.holdLimitReached ch) s = .next t ∧ (t.view.get ch).record = some r ∧
      r.view = .fallback ∧ r.night = before.night ∧ t.ConditionsTold ch r ∧ t.EntryConditionsTold ch r) ∧
  (∀ (s : State) (r : Request) (ch : Channel) (before : FrameRecord), s.Executes r → r.kind = 10 →
    channelOf r.channel = some ch → r.payload = [] → (s.view.get ch).record = some before →
    ∃ (t : State) (c : FrameRecord), exec .viewRestart s = .next t ∧ (t.view.get ch).record = some c ∧
      c.view = .start ∧ c.night = before.night ∧ t.ConditionsTold ch c ∧ t.EntryConditionsTold ch c) ∧
  (∀ (s : State) (ch : Channel) (k : FaultKind) (outcome : Option Nat) (before : FrameRecord),
    (s.view.get ch).state ≠ .fallback → ((s.evaluate ch k outcome).view.get ch).state = .fallback →
    (s.view.get ch).record = some before →
    ∃ r : FrameRecord, ((s.evaluate ch k outcome).view.get ch).record = some r ∧ r.view = .fallback ∧
      r.night = before.night ∧ r.buffer = none ∧ (s.evaluate ch k outcome).ConditionsTold ch r ∧
      (s.evaluate ch k outcome).EntryConditionsTold ch r)

/-- R34, R143, R144: a packet of unknown kind, with a failed check outside a frame, or an over-long REPLY, leaves the state as
it was, under whichever packet command it arrives; a discarded cell sets RX-DISCARD and changes no other state. Which runs of
bytes these are, PacketsAndCellsAreReadByLayout says. That
CAMERA_PACKET_DISCARD changes nothing whatever bytes it carries, and that a discarded packet or cell is the same under every
row, is the model's choice (assumption 4). -/
def Obligations.DiscardsChangeNothingElse : Prop :=
  (∀ (ch : Channel) (packet : List Byte) (s : State),
     exec (.cameraPacketDiscard ch packet) s = .next s ∧
     (readCameraPacket packet = .discarded →
       exec (.frameStart ch packet) s = .next s ∧ exec (.embedded ch packet) s = .next s ∧
       exec (.line ch packet) s = .next s ∧ exec (.frameEnd ch packet) s = .next s ∧
       exec (.reply ch packet) s = .next s) ∧
     ((s.receiver.get ch).assembly = .idle →
       (readCameraPacket packet = .embeddedFailed → exec (.embedded ch packet) s = .next s) ∧
       (readCameraPacket packet = .lineFailed → exec (.line ch packet) s = .next s) ∧
       (readCameraPacket packet = .frameEndFailed → exec (.frameEnd ch packet) s = .next s))) ∧
  (∀ (ch : Channel) (cell : List Byte) (s : State), s.held = false → readReturnCell cell = .discarded →
     ∀ c, c = .returnCellDiscard ch cell ∨ c = .monitorStatus ch cell ∨ c = .signature ch cell ∨ c = .requestCell ch cell →
       exec c s = .next { s with link := s.link.set ch { s.link.get ch with rxDiscard := true } })

/-! ## The return channel -/

/-- R145, R94, R95: an accepted MONITOR-STATUS sets the status-seen flag, reaches the detector in AUTO mode only, where
R95 moves the dwell count and the night flag, and evaluates DISP_BACKLIGHT; of the link it changes nothing else, and of
the other channel nothing. -/
def Obligations.MonitorStatusDoesThreeThings : Prop :=
  ∀ (ch : Channel) (cell : List Byte) (s : State) (lux : BitVec 16) (fault : Bool), s.held = false →
    readReturnCell cell = .monitorStatus lux fault →
    ∃ t : State, exec (.monitorStatus ch cell) s = .next t ∧
      t = { s with
        link := s.link.set ch { s.link.get ch with statusSeen := true, lastStatus := some (lux, fault) }
        glare := s.glare.set ch (t.glare.get ch), view := s.view.set ch (t.view.get ch)
        store := s.store.set ch (t.store.get ch), entries := s.entries.set ch (t.entries.get ch)
        history := t.history, historyCount := t.historyCount } ∧
      (if (s.params.get ch).nightMode ≠ .auto then
        (t.glare.get ch).night = (s.glare.get ch).night ∧ (t.glare.get ch).dwell = (s.glare.get ch).dwell
      else if ((s.glare.get ch).night = false ∧ (s.params.get ch).nightEnter < lux.toNat) ∨
          ((s.glare.get ch).night = true ∧
            lux.toNat < max (s.params.get ch).nightExit ((s.params.get ch).nightEnter + 1)) then
        (t.glare.get ch).night = (s.glare.get ch).night ∧ (t.glare.get ch).dwell = 0
      else if (s.params.get ch).nightDwell ≤ (s.glare.get ch).dwell + 1 then
        (t.glare.get ch).night = !(s.glare.get ch).night ∧ (t.glare.get ch).dwell = 0
      else (t.glare.get ch).night = (s.glare.get ch).night ∧ (t.glare.get ch).dwell = (s.glare.get ch).dwell + 1) ∧
      t.entry ch .dispBacklight =
        ((s.entry ch .dispBacklight).evaluate (s.valuesInForce .dispBacklight)
          (if fault then some lux.toNat else none) s.counter (s.link.get ch).frameSeq).1

/-- R151: a report is matched by its sequence number: the entry and every older one leave the queue; DISP_MISMATCH is clean
when the signatures are equal and observed with the reported seq otherwise. -/
def Obligations.SignatureIsMatched : Prop :=
  ∀ (ch : Channel) (cell : List Byte) (s : State) (seq : Seq) (value : Check), s.held = false →
    readReturnCell cell = .signature seq value →
    (∀ older newer expected, (s.link.get ch).expected = older ++ (seq, expected) :: newer →
      (∀ e ∈ older, e.1 ≠ seq) →
      ∃ t : State, exec (.signature ch cell) s = .next t ∧
        t.link = s.link.set ch { s.link.get ch with expected := newer } ∧
        t.entry ch .dispMismatch =
          ((s.entry ch .dispMismatch).evaluate (s.valuesInForce .dispMismatch)
            (if expected = value then none else some seq.toNat) s.counter (s.link.get ch).frameSeq).1) ∧
    ((∀ e ∈ (s.link.get ch).expected, e.1 ≠ seq) →
      ∃ t : State, exec (.signature ch cell) s = .next t ∧ t.link = s.link ∧
        t.entry ch .dispMismatch =
          ((s.entry ch .dispMismatch).evaluate (s.valuesInForce .dispMismatch) (some seq.toNat) s.counter
            (s.link.get ch).frameSeq).1)

/-- R197, R198: a REQUEST cell takes a slot and joins the tail of its link's request queue, or, with 8 slots held, is
discarded and sets RX-DISCARD. The FREE agent takes the oldest request of the link not served last when that link has
one, else the oldest of the other. -/
def Obligations.RequestsQueueAndAreServedInTurn : Prop :=
  (∀ (ch : Channel) (cell : List Byte) (s : State) (tag kind channel item : Byte) (payload : List Byte), s.held = false →
     readReturnCell cell = .request tag kind channel item payload →
     (s.slotsHeld ch < 8 →
       exec (.requestCell ch cell) s = .next { s with
         link := s.link.set ch { s.link.get ch with
           requests := (s.link.get ch).requests ++
             [{ link := ch, tag := tag, kind := kind, channel := channel, item := item, payload := payload }] } }) ∧
     (8 ≤ s.slotsHeld ch →
       exec (.requestCell ch cell) s = .next { s with
         link := s.link.set ch { s.link.get ch with rxDiscard := true } })) ∧
  (∀ (s : State) (r : Request) (rest : List Request), s.held = false → s.agent.executing = none →
     ((s.link.get (otherLink s.agent.lastServed)).requests = r :: rest →
       exec .agentTakesRequest s = .next { s with
         link := s.link.set (otherLink s.agent.lastServed)
           { s.link.get (otherLink s.agent.lastServed) with requests := rest }
         agent := { executing := some r, lastServed := otherLink s.agent.lastServed } }) ∧
     ((s.link.get (otherLink s.agent.lastServed)).requests = [] →
       (s.link.get s.agent.lastServed).requests = r :: rest →
       exec .agentTakesRequest s = .next { s with
         link := s.link.set s.agent.lastServed { s.link.get s.agent.lastServed with requests := rest }
         agent := { executing := some r, lastServed := s.agent.lastServed } }))

/-! ## Requests -/

/-- R199, R213 to R215: every QUERY of a record whose fields are in range is answered OK with its record in the layout
of R215, read here offset by offset, and changes no state. Absent fields are 0. That the next tick of a TIMING query is
a tick due and not yet taken where there is one (assumption 35), and the period a TIMING query reports before the first
display frame start (assumption 19), are the model's choice, and so are the codes 0 L and 1 R of a link or channel and 0 and
1 of a flag or present byte (assumption 37). -/
def Obligations.QueriesAnswerTheirRecords : Prop :=
  ∀ (s : State) (r : Request) (ch : Channel), s.Executes r → r.kind = 1 →
    (r.payload = [0] → exec .queryIdentity s = .next (s.answered r .ok
      ([74, 90, 62, 0, 1] ++ toLe 1 s.resetRecord.mode.code ++ toLe 1 s.resetRecord.cause.code))) ∧
    (r.payload = [1] → channelOf r.channel = some ch → ∃ rec, exec .queryChannel s = .next (s.answered r .ok rec) ∧
      rec.length = 54 ∧ byteAt rec 0 = (s.view.get ch).state.code ∧ byteAt rec 1 = (s.view.get ch).holdTimer % 256 ∧
      (∀ fr, (s.view.get ch).record = some fr →
        le16 rec 2 = fr.seq.toNat ∧ le32 rec 4 = fr.start.toNat ∧ byteAt rec 8 = fr.view.code ∧
        byteAt rec 9 = (match fr.buffer with | some b => b.number | none => 255) ∧ byteAt rec 10 = fr.fresh.toNat ∧
        byteAt rec 11 = (match fr.mesh with | some .primary => 0 | some .turn => 1 | none => 255) ∧
        byteAt rec 12 = fr.night.toNat ∧ le16 rec 13 = fr.conditions.toNat) ∧
      byteAt rec 15 = (s.glare.get ch).night.toNat ∧ byteAt rec 16 = (s.glare.get ch).dwell % 256 ∧
      byteAt rec 17 = (s.params.get ch).nightMode.code ∧ le16 rec 18 = (s.link.get ch).nextSeq.toNat ∧
      byteAt rec 20 = (s.link.get ch).expected.length % 256 ∧
      (∀ k, k < 4 →
        (∀ e, (s.link.get ch).expected[k]? = some e →
          le16 rec (21 + 6 * k) = e.1.toNat ∧ le32 rec (23 + 6 * k) = e.2.toNat) ∧
        ((s.link.get ch).expected[k]? = none → le16 rec (21 + 6 * k) = 0 ∧ le32 rec (23 + 6 * k) = 0)) ∧
      byteAt rec 45 = s.slotsHeld ch % 256 ∧ byteAt rec 46 = (s.link.get ch).answers.length % 256 ∧
      byteAt rec 47 = (s.link.get ch).rxDiscard.toNat ∧ byteAt rec 48 = (s.link.get ch).statusSeen.toNat ∧
      byteAt rec 49 = (s.link.get ch).silentTicks % 256 ∧
      ((s.link.get ch).lastStatus = none → rec.drop 50 = [0, 0, 0, 0]) ∧
      (∀ lux fault, (s.link.get ch).lastStatus = some (lux, fault) →
        byteAt rec 50 = 1 ∧ le16 rec 51 = lux.toNat ∧ byteAt rec 53 = fault.toNat)) ∧
    (r.payload = [2] → channelOf r.channel = some ch → ∃ rec, exec .queryBuffer s = .next (s.answered r .ok rec) ∧
      rec.length = 36 ∧ ∀ b o, o = 12 * b.number →
        ((s.store.get ch).get b = .free → slice rec o 12 = List.replicate 12 0) ∧
        (∀ p, ((s.store.get ch).get b).picture = some p → le32 rec (o + 1) = p.arrival.toNat ∧
          le16 rec (o + 5) = p.width % 65536 ∧ le16 rec (o + 7) = p.height % 65536) ∧
        (∀ p, (s.store.get ch).get b = .filling p → byteAt rec o = 1 ∧ slice rec (o + 9) 3 = [0, 0, 0]) ∧
        (∀ p n, (s.store.get ch).get b = .ready p n →
          byteAt rec o = 2 ∧ le16 rec (o + 9) = n.toNat ∧ byteAt rec (o + 11) = 0) ∧
        (∀ p n times, (s.store.get ch).get b = .shown p n times →
          byteAt rec o = 3 ∧ le16 rec (o + 9) = n.toNat ∧ byteAt rec (o + 11) = times % 256)) ∧
    (r.payload = [3] → channelOf r.channel = some ch → r.item.toNat ≤ 79 →
      ∃ rec, exec .queryTile s = .next (s.answered r .ok rec) ∧ rec.length = 9 ∧
        (∀ t, (s.glare.get ch).tiles[r.item.toNat]? = some t →
          byteAt rec 0 = t.state.code ∧ byteAt rec 1 = t.run % 256 ∧ byteAt rec 2 = t.qLast % 256 ∧
          le16 rec 3 = t.target % 65536 ∧ le16 rec 5 = t.gain % 65536) ∧
        ∀ n, (s.glare.get ch).last[r.item.toNat]? = some n → le16 rec 7 = n % 65536) ∧
    (r.payload = [4] → channelOf r.channel = some ch → ∀ k e v, kindOfNumber r.item.toNat = some k →
      e = s.entry ch k → v = s.valuesInForce k →
      ∃ rec, exec .queryFaultEntry s = .next (s.answered r .ok rec) ∧ rec.length = 34 ∧
        byteAt rec 0 = e.state.code ∧ byteAt rec 1 = e.run % 256 ∧ byteAt rec 2 = e.applied.action.code ∧
        byteAt rec 3 = e.applied.debounce % 256 ∧ byteAt rec 4 = e.applied.recovery % 256 ∧
        byteAt rec 5 = e.applied.latch.toNat ∧ byteAt rec 6 = e.applied.assertLine.toNat ∧
        byteAt rec 7 = e.occurrences % 256 ∧
        (e.first = none → slice rec 8 7 = List.replicate 7 0) ∧
        (∀ a, e.first = some a → byteAt rec 8 = 1 ∧ le32 rec 9 = a.time.toNat ∧ le16 rec 13 = a.seq.toNat) ∧
        (e.last = none → slice rec 15 7 = List.replicate 7 0) ∧
        (∀ a, e.last = some a → byteAt rec 15 = 1 ∧ le32 rec 16 = a.time.toNat ∧ le16 rec 20 = a.seq.toNat) ∧
        (e.detail = none → slice rec 22 5 = List.replicate 5 0) ∧
        (∀ d, e.detail = some d → byteAt rec 22 = 1 ∧ le32 rec 23 = d % 4294967296) ∧
        byteAt rec 27 = e.unacknowledged.toNat ∧ byteAt rec 28 = v.action.code ∧ byteAt rec 29 = v.debounce % 256 ∧
        byteAt rec 30 = v.recovery % 256 ∧ byteAt rec 31 = v.latch.toNat ∧ byteAt rec 32 = v.assertLine.toNat ∧
        byteAt rec 33 = (if e.state = .active ∨ e.state = .recovering ∨ e.state = .latched then 1 else 0)) ∧
    (r.payload = [5] → r.item.toNat ≤ 31 → ∃ rec, exec .queryHistory s = .next (s.answered r .ok rec) ∧
      rec.length = 15 ∧ byteAt rec 0 = s.historyCount.toNat ∧ byteAt rec 1 = s.history.length % 256 ∧
      (s.history[r.item.toNat]? = none → rec.drop 2 = List.replicate 13 0) ∧
      (∀ h, s.history[r.item.toNat]? = some h → byteAt rec 2 = 1 ∧ byteAt rec 3 = h.kind.number ∧
        byteAt rec 4 = channelCode h.channel ∧ le32 rec 5 = h.time.toNat ∧ le16 rec 9 = h.seq.toNat ∧
        le32 rec 11 = h.detail % 4294967296)) ∧
    (r.payload = [6] → ∀ t e, tableOfNumber r.item.toNat = some t → e = s.table t →
      ∃ rec, exec .queryTable s = .next (s.answered r .ok rec) ∧ rec.length = 21 ∧
        byteAt rec 0 = e.active.state.code ∧ le16 rec 1 = e.active.length % 65536 ∧
        le32 rec 3 = e.active.checksum.toNat ∧ le16 rec 7 = e.active.generation.toNat ∧ byteAt rec 20 = e.lock.code ∧
        (e.staged = .idle → slice rec 9 11 = [0, 0, 0, 0, 0, 255, 0, 0, 0, 0, 0]) ∧
        (∀ load, (e.staged = .loading load ∨ (∃ supplied tag, e.staged = .verifying load supplied tag) ∨
            ∃ supplied, e.staged = .swapWait load supplied) →
          le16 rec 10 = load.declared % 65536 ∧ le16 rec 12 = load.bytes.length % 65536 ∧
          byteAt rec 14 = channelCode load.owner) ∧
        (∀ load, e.staged = .loading load → byteAt rec 9 = 1 ∧ slice rec 15 5 = List.replicate 5 0) ∧
        (∀ load supplied tag, e.staged = .verifying load supplied tag →
          byteAt rec 9 = 2 ∧ byteAt rec 15 = 1 ∧ le32 rec 16 = supplied.toNat) ∧
        (∀ load supplied, e.staged = .swapWait load supplied →
          byteAt rec 9 = 3 ∧ byteAt rec 15 = 1 ∧ le32 rec 16 = supplied.toNat)) ∧
    (r.payload = [7] → s.ParamsSound → ∀ p w, paramOfId r.item = some p → paramChannel p r.channel = some ch →
      w = p.width →
      ∃ rec, exec .queryParameter s = .next (s.answered r .ok rec) ∧ rec.length = 2 + 3 * w ∧
        rec.take (1 + w) = r.item :: p.write (s.paramValue ch p) ∧
        (pendingOf (s.pendingParams.get ch) p = none → slice rec (1 + w) (1 + w) = List.replicate (1 + w) 0) ∧
        (∀ v, pendingOf (s.pendingParams.get ch) p = some v → slice rec (1 + w) (1 + w) = 1 :: p.write v) ∧
        rec.drop (2 + 2 * w) = p.write (s.paramInUse ch p)) ∧
    (r.payload = [8] → channelOf r.channel = some ch → ∃ rec, exec .queryCoverage s = .next (s.answered r .ok rec) ∧
      rec.length = 9 ∧ (s.coverage.get ch = .unwritten → rec = List.replicate 9 0) ∧
      (∀ q, s.coverage.get ch = .written q → byteAt rec 0 = 1) ∧ (∀ q, s.coverage.get ch = .fixed q → byteAt rec 0 = 2) ∧
      ∀ q, (s.coverage.get ch).rect = some q → le16 rec 1 = q.x0 % 65536 ∧ le16 rec 3 = q.y0 % 65536 ∧
        le16 rec 5 = q.x1 % 65536 ∧ le16 rec 7 = q.y1 % 65536) ∧
    (r.payload = [9] → channelOf r.channel = some ch → ∀ g k, g = s.timing.get ch → k = g.tracker →
      ∃ rec, exec .queryTiming s = .next (s.answered r .ok rec) ∧ rec.length = 45 ∧
        le32 rec 0 = s.counter.toNat ∧ byteAt rec 4 = s.partParams.tickBit % 256 ∧
        byteAt rec 5 = s.partParams.tickEdge.code ∧ le32 rec 6 = s.nextTick.toNat ∧
        (s.ParamsSound → s.partParams.transitionAt s.nextTick = true) ∧ byteAt rec 10 = g.source.code ∧
        byteAt rec 11 = g.aligned.toNat ∧ (∀ start, g.start = some start → le32 rec 12 = start.toNat) ∧
        le16 rec 16 = g.period % 65536 ∧ le32 rec 18 = g.nextStart.toNat ∧ byteAt rec 22 = k.state.code ∧
        byteAt rec 23 = k.locked.toNat ∧ byteAt rec 24 = k.bandwidth.code ∧ le16 rec 25 = k.period % 65536 ∧
        (k.nextRef = none → slice rec 27 5 = List.replicate 5 0) ∧
        (∀ v, k.nextRef = some v → byteAt rec 27 = 1 ∧ le32 rec 28 = v.toNat) ∧
        (k.frameEnd = none → slice rec 32 5 = List.replicate 5 0) ∧
        (∀ v, k.frameEnd = some v → byteAt rec 32 = 1 ∧ le32 rec 33 = v.toNat) ∧
        (k.lastError = none → slice rec 37 5 = List.replicate 5 0) ∧
        (∀ e, k.lastError = some e → byteAt rec 37 = 1 ∧ le32 rec 38 = (BitVec.ofInt 32 e).toNat) ∧
        byteAt rec 42 = k.lockRun % 256 ∧ byteAt rec 43 = k.unlockRun % 256 ∧ byteAt rec 44 = k.emptyCount % 256) ∧
    (r.payload = [10] → channelOf r.channel = some ch → ∃ rec, exec .queryPass s = .next (s.answered r .ok rec) ∧
      rec.length = 4 ∧ ((s.receiver.get ch).pass = .idle → rec = [0, 0, 0, 0]) ∧
      ∀ link tag ticks, (s.receiver.get ch).pass = .waiting link tag ticks →
        byteAt rec 0 = 1 ∧ byteAt rec 1 = channelCode link ∧ byteAt rec 2 = tag.toNat ∧ byteAt rec 3 = ticks % 256)

/-- R203 to R205: each field of the value taken from a SET is the field written, clamped to the nearer end of its range
and then rounded down to its step, so it is legal whatever was written. A SET that passes its tests is answered OK or
CLAMPED with the value taken. A display-side value becomes the pending one; a camera-side value is pending while a
camera frame is in progress and in force at once otherwise; a part-wide value is in force at the SET. A change of
NIGHT_MODE clears the dwell count and sets the night flag by R94; a change of TICK_BIT or TICK_EDGE makes no tick itself
(R157; that none is due at that microsecond any more is assumption 25). -/
def Obligations.SetStagesByClass : Prop :=
  (∀ (p : Param) (fields : List Nat), fields.length = p.ranges.length →
     p.Legal (p.taken fields) ∧ (p.Legal fields → p.taken fields = fields) ∧
     (p.taken fields).length = p.ranges.length ∧
     ∀ i lo hi v : Nat, p.ranges[i]? = some (lo, hi) → fields[i]? = some v →
       (p.taken fields)[i]? = some ((if v < lo then lo else if hi < v then hi else v) / p.step * p.step)) ∧
  (∀ (s : State) (r : Request) (ch : Channel) (p : Param) (written taken : List Nat), s.Executes r → r.kind = 2 →
     paramOfId r.item = some p → paramChannel p r.channel = some ch → r.payload.length = p.width →
     written = p.read r.payload → p.badCode written = false → taken = p.taken written →
     ∃ t : State, exec .set s = .next (t.answered r (if taken = written then .ok else .clamped) (p.write taken)) ∧
       t.tables.verifyQueue = s.tables.verifyQueue ∧ t.coverage = s.coverage ∧ t.link = s.link ∧
       (p.cls = .display → t = { s with
         pendingParams := s.pendingParams.set ch ((s.pendingParams.get ch).filter (fun pv => pv.1 != p) ++ [(p, taken)]) }) ∧
       (p.cls = .camera → (s.receiver.get ch).assembly.inProgress = true → t = { s with
         pendingParams := s.pendingParams.set ch ((s.pendingParams.get ch).filter (fun pv => pv.1 != p) ++ [(p, taken)]) }) ∧
       (p.cls = .camera → (s.receiver.get ch).assembly.inProgress = false → t.paramValue ch p = taken ∧
         pendingOf (t.pendingParams.get ch) p = none) ∧
       (p.cls = .part → t.paramValue ch p = taken ∧ t.pendingParams = s.pendingParams) ∧
       (p = .nightMode → taken = [(s.params.get ch).nightMode.code] → t.glare = s.glare) ∧
       (p = .nightMode → taken ≠ [(s.params.get ch).nightMode.code] →
         t.glare = s.glare.set ch { s.glare.get ch with
           dwell := 0
           night := if taken = [1] then false else if taken = [2] then true else (s.glare.get ch).night }) ∧
       (p = .tickBit ∨ p = .tickEdge →
         (t.partParams = s.partParams → t = s) ∧
         (t.partParams ≠ s.partParams → t.tickDue = false ∧
           t = { s with partParams := t.partParams, lastTick := some s.counter })))

/-- R12: the tests of TABLE-OPEN in their order, and what a taken one leaves; the lengths it takes are the legal lengths
of the table's kind (R2). -/
def Obligations.TableOpenInOrder : Prop :=
  (∀ (t : TableId) (n : Nat), t.legalLength n = true ↔ t.Admits n) ∧
  ∀ (s : State) (r : Request) (t : TableId), s.Executes r → r.kind = 3 → tableOfNumber r.item.toNat = some t →
    r.payload.length = 2 →
    ((s.table t).lock ≠ .unlocked → exec .tableOpen s = .next (s.answered r .locked [])) ∧
    ((s.table t).lock = .unlocked → (s.table t).staged ≠ .idle → exec .tableOpen s = .next (s.answered r .busy [])) ∧
    ((s.table t).lock = .unlocked → (s.table t).staged = .idle → t.legalLength (le16 r.payload 0) = false →
      exec .tableOpen s = .next (s.answered r .length [])) ∧
    ((s.table t).lock = .unlocked → (s.table t).staged = .idle → t.legalLength (le16 r.payload 0) = true →
      exec .tableOpen s = .next (State.answered { s with
        tables := s.tables.set t { s.table t with
          staged := .loading { declared := le16 r.payload 0, owner := r.link, bytes := [] } } } r .ok []))

/-- R13: the tests of TABLE-DATA in their order; a taken one appends its data, and OK, ORDER and LENGTH carry the bytes
received. -/
def Obligations.TableDataInOrder : Prop :=
  ∀ (s : State) (r : Request) (t : TableId), s.Executes r → r.kind = 4 → tableOfNumber r.item.toNat = some t →
    2 ≤ r.payload.length → r.payload.length ≤ 48 →
    ((∀ load, (s.table t).staged = .loading load → load.owner ≠ r.link) →
      exec .tableData s = .next (s.answered r .sequence [])) ∧
    (∀ load, (s.table t).staged = .loading load → load.owner = r.link →
      ((s.table t).lock ≠ .unlocked → exec .tableData s = .next (s.answered r .locked [])) ∧
      ((s.table t).lock = .unlocked → le16 r.payload 0 ≠ load.bytes.length →
        exec .tableData s = .next (s.answered r .order (toLe 2 load.bytes.length))) ∧
      ((s.table t).lock = .unlocked → le16 r.payload 0 = load.bytes.length →
        (r.payload.length < 3 ∨ 46 < r.payload.length ∨ load.declared < load.bytes.length + (r.payload.length - 2)) →
        exec .tableData s = .next (s.answered r .length (toLe 2 load.bytes.length))) ∧
      ((s.table t).lock = .unlocked → le16 r.payload 0 = load.bytes.length → 3 ≤ r.payload.length →
        r.payload.length ≤ 46 → load.bytes.length + (r.payload.length - 2) ≤ load.declared →
        exec .tableData s = .next (State.answered { s with
          tables := s.tables.set t { s.table t with
            staged := .loading { load with bytes := load.bytes ++ r.payload.drop 2 } } } r .ok
          (toLe 2 (load.bytes.length + (r.payload.length - 2))))))

/-- R14, R27: the tests of TABLE-COMMIT in their order; a taken one makes the bank VERIFYING, queues its id at the tail,
suspends a scrub step, holds the answer and frees the agent. -/
def Obligations.TableCommitInOrder : Prop :=
  ∀ (s : State) (r : Request) (t : TableId), s.Executes r → r.kind = 5 → tableOfNumber r.item.toNat = some t →
    r.payload.length = 4 →
    ((s.table t).staged.owner ≠ some r.link → exec .tableCommit s = .next (s.answered r .sequence [])) ∧
    ((s.table t).staged.owner = some r.link → (∀ load, (s.table t).staged ≠ .loading load) →
      exec .tableCommit s = .next (s.answered r .busy [])) ∧
    (∀ load, (s.table t).staged = .loading load → load.owner = r.link →
      ((s.table t).lock ≠ .unlocked → exec .tableCommit s = .next (s.answered r .locked [])) ∧
      ((s.table t).lock = .unlocked → load.bytes.length < load.declared →
        exec .tableCommit s = .next (s.answered r .length (toLe 2 load.bytes.length))) ∧
      ((s.table t).lock = .unlocked → load.declared ≤ load.bytes.length →
        ∃ u : State, exec .tableCommit s = .next u ∧
          u = { s with
            agent := { s.agent with executing := none }
            tables := { s.tables.set t { s.table t with
                staged := .verifying load (BitVec.ofNat 32 (le32 r.payload 0)) r.tag } with
              verifyQueue := s.tables.verifyQueue ++ [t], scrub := u.tables.scrub } } ∧
          u.tables.scrub = s.tables.scrub.map fun st => { st with suspended := true }))

/-- R15: TABLE-ABANDON by the owner ends the load; a VERIFYING one leaves the queue and has its COMMIT answered ABORTED ahead
of the OK. Another link, or an IDLE bank, is refused with SEQUENCE. -/
def Obligations.TableAbandonEndsLoad : Prop :=
  ∀ (s : State) (r : Request) (t : TableId), s.Executes r → r.kind = 6 → tableOfNumber r.item.toNat = some t →
    r.payload = [] →
    ((s.table t).staged.owner ≠ some r.link → exec .tableAbandon s = .next (s.answered r .sequence [])) ∧
    ((s.table t).staged.owner = some r.link →
      ∃ u : State, exec .tableAbandon s = .next u ∧ (u.table t).staged = .idle ∧ (u.table t).active = (s.table t).active ∧
        (u.table t).lock = (s.table t).lock ∧ (∀ x, x ≠ t → u.table x = s.table x) ∧ u.agent.executing = none ∧
        u.coverage = s.coverage ∧ u.entries = s.entries ∧
        (∀ load supplied tag, (s.table t).staged = .verifying load supplied tag →
          u.tables.verifyQueue = s.tables.verifyQueue.filter (fun x => x != t) ∧ u.tables.verifying ≠ some t ∧
          (u.link.get r.link).answers = (s.link.get r.link).answers ++
            [{ tag := tag, kind := 5, result := .aborted, payload := [] },
             { tag := r.tag, kind := 6, result := .ok, payload := [] }]) ∧
        ((∀ load supplied tag, (s.table t).staged ≠ .verifying load supplied tag) →
          u.tables.verifyQueue = s.tables.verifyQueue ∧
          (u.link.get r.link).answers = (s.link.get r.link).answers ++
            [{ tag := r.tag, kind := 6, result := .ok, payload := [] }]))

/-- R22, R23: LOCK, LOCK-DOWN and UNLOCK, answered OK with the lock state they leave; UNLOCK of a LOCKED-DOWN table while
DRIVE is asserted is refused with PROTECTED. -/
def Obligations.TableLocksMoveByRule : Prop :=
  ∀ (s : State) (r : Request) (t : TableId), s.Executes r → r.kind = 7 → tableOfNumber r.item.toNat = some t →
    (r.payload = [0] → ∀ l, l = (if (s.table t).lock = .lockedDown then Lock.lockedDown else .locked) →
      exec .tableLockLock s = .next (State.answered
        { s with tables := s.tables.set t { s.table t with lock := l } } r .ok (toLe 1 l.code))) ∧
    (r.payload = [2] →
      exec .tableLockLockDown s = .next (State.answered
        { s with tables := s.tables.set t { s.table t with lock := .lockedDown } } r .ok [2])) ∧
    (r.payload = [1] → ((s.table t).lock = .lockedDown → s.pins.drive = false) →
      exec .tableLockUnlock s = .next (State.answered
        { s with tables := s.tables.set t { s.table t with lock := .unlocked } } r .ok [0])) ∧
    (r.payload = [1] → (s.table t).lock = .lockedDown → s.pins.drive = true →
      exec .tableLockUnlock s = .next (s.answered r .drivingProtected []))

/-- R11, R22, R168, R199, R201 to R203: what is refused whatever the state: a table id outside 0..12, an unknown lock action,
TIMING item, record kind, parameter id or enumeration code, and a channel or item outside what the request examines, with
RANGE; a payload of another length with LENGTH; an unknown kind with UNKNOWN. No state changes. That a QUERY or TABLE-LOCK of
another length belongs to the row of its unknown code is the model's choice (assumption 11), and so is the count that the
LENGTH of a TABLE-DATA carries (assumption 23). -/
def Obligations.UnknownFieldsAreRefused : Prop :=
  ∀ (s : State) (r : Request), s.Executes r →
    (r.kind = 1 →
      (r.payload.length ≠ 1 → exec .queryRefused s = .next (s.answered r .length [])) ∧
      (∀ k : Byte, r.payload = [k] → 11 ≤ k.toNat → exec .queryRefused s = .next (s.answered r .range [])) ∧
      (channelOf r.channel = none →
        (r.payload = [1] → exec .queryChannel s = .next (s.answered r .range [])) ∧
        (r.payload = [2] → exec .queryBuffer s = .next (s.answered r .range [])) ∧
        (r.payload = [3] → exec .queryTile s = .next (s.answered r .range [])) ∧
        (r.payload = [4] → exec .queryFaultEntry s = .next (s.answered r .range [])) ∧
        (∀ p, r.payload = [7] → paramOfId r.item = some p → p.partScope = false →
          exec .queryParameter s = .next (s.answered r .range [])) ∧
        (r.payload = [8] → exec .queryCoverage s = .next (s.answered r .range [])) ∧
        (r.payload = [9] → exec .queryTiming s = .next (s.answered r .range [])) ∧
        (r.payload = [10] → exec .queryPass s = .next (s.answered r .range []))) ∧
      (r.payload = [3] → 80 ≤ r.item.toNat → exec .queryTile s = .next (s.answered r .range [])) ∧
      (r.payload = [4] → r.item.toNat = 0 ∨ 14 ≤ r.item.toNat →
        exec .queryFaultEntry s = .next (s.answered r .range [])) ∧
      (r.payload = [5] → 32 ≤ r.item.toNat → exec .queryHistory s = .next (s.answered r .range [])) ∧
      (r.payload = [6] → 13 ≤ r.item.toNat → exec .queryTable s = .next (s.answered r .range [])) ∧
      (r.payload = [7] → 30 ≤ r.item.toNat → exec .queryParameter s = .next (s.answered r .range []))) ∧
    (r.kind = 2 →
      (paramOfId r.item = none → exec .set s = .next (s.answered r .range [])) ∧
      (∀ p, paramOfId r.item = some p → p.partScope = false → channelOf r.channel = none →
        exec .set s = .next (s.answered r .range [])) ∧
      (∀ p ch, paramOfId r.item = some p → paramChannel p r.channel = some ch → r.payload.length ≠ p.width →
        exec .set s = .next (s.answered r .length [])) ∧
      (∀ ch, r.item = 24 → channelOf r.channel = some ch → r.payload.length = 1 → 3 ≤ byteAt r.payload 0 →
        exec .set s = .next (s.answered r .range [])) ∧
      (r.item = 29 → r.payload.length = 1 → 2 ≤ byteAt r.payload 0 → exec .set s = .next (s.answered r .range []))) ∧
    (13 ≤ r.item.toNat →
      (r.kind = 3 → exec .tableOpen s = .next (s.answered r .range [])) ∧
      (r.kind = 4 → exec .tableData s = .next (s.answered r .range [])) ∧
      (r.kind = 5 → exec .tableCommit s = .next (s.answered r .range [])) ∧
      (r.kind = 6 → exec .tableAbandon s = .next (s.answered r .range [])) ∧
      (r.kind = 7 → r.payload = [0] → exec .tableLockLock s = .next (s.answered r .range [])) ∧
      (r.kind = 7 → r.payload = [1] → exec .tableLockUnlock s = .next (s.answered r .range [])) ∧
      (r.kind = 7 → r.payload = [2] → exec .tableLockLockDown s = .next (s.answered r .range [])) ∧
      (r.kind = 7 → (∀ a : Byte, r.payload = [a] → 3 ≤ a.toNat) →
        exec .tableLockUnknownAction s = .next (s.answered r .range []))) ∧
    (∀ t, tableOfNumber r.item.toNat = some t →
      (r.kind = 3 → r.payload.length ≠ 2 → exec .tableOpen s = .next (s.answered r .length [])) ∧
      (r.kind = 4 → r.payload.length < 2 ∨ 48 < r.payload.length →
        (∀ load, (s.table t).staged = .loading load → load.owner = r.link →
          exec .tableData s = .next (s.answered r .length (toLe 2 load.bytes.length))) ∧
        ((∀ load, (s.table t).staged = .loading load → load.owner ≠ r.link) →
          exec .tableData s = .next (s.answered r .length []))) ∧
      (r.kind = 5 → r.payload.length ≠ 4 → exec .tableCommit s = .next (s.answered r .length [])) ∧
      (r.kind = 6 → r.payload ≠ [] → exec .tableAbandon s = .next (s.answered r .length [])) ∧
      (r.kind = 7 → r.payload.length ≠ 1 → exec .tableLockUnknownAction s = .next (s.answered r .length [])) ∧
      (r.kind = 7 → ∀ a : Byte, r.payload = [a] → 3 ≤ a.toNat →
        exec .tableLockUnknownAction s = .next (s.answered r .range []))) ∧
    (channelOf r.channel = none →
      (r.kind = 10 → exec .viewRestart s = .next (s.answered r .range [])) ∧
      (r.kind = 11 → r.item = 0 → exec .timingTracker s = .next (s.answered r .range [])) ∧
      (r.kind = 11 → r.item = 1 → exec .timingBandwidth s = .next (s.answered r .range [])) ∧
      (r.kind = 11 → r.item = 2 → exec .timingSource s = .next (s.answered r .range []))) ∧
    (∀ ch, channelOf r.channel = some ch →
      (r.kind = 10 → r.payload ≠ [] → exec .viewRestart s = .next (s.answered r .length [])) ∧
      (r.kind = 11 → r.payload.length ≠ 1 →
        (r.item = 0 → exec .timingTracker s = .next (s.answered r .length [])) ∧
        (r.item = 1 → exec .timingBandwidth s = .next (s.answered r .length [])) ∧
        (r.item = 2 → exec .timingSource s = .next (s.answered r .length []))) ∧
      (r.kind = 13 → r.payload.length ≠ 8 → exec .coverageWrite s = .next (s.answered r .length [])) ∧
      (r.kind = 14 → r.payload ≠ [] → exec .coverageFix s = .next (s.answered r .length []))) ∧
    (r.payload ≠ [] →
      (r.kind = 8 → exec .faultAck s = .next (s.answered r .length [])) ∧
      (r.kind = 9 → r.channel.toNat ≤ 2 → exec .faultClear s = .next (s.answered r .length [])) ∧
      (r.kind = 15 → exec .partReset s = .next (s.answered r .length []))) ∧
    (r.kind = 11 → 3 ≤ r.item.toNat → exec .timingUnknownItem s = .next (s.answered r .range [])) ∧
    (r.kind = 0 ∨ 16 ≤ r.kind.toNat → exec .unknownRequest s = .next (s.answered r .unknown []))

/-- R185, R188: FAULT-ACK clears every mark of both channels, answered with their number, and moves no entry;
FAULT-CLEAR makes every LATCHED entry of the named channels INACTIVE, answered with their number, and keeps its mark. So the
first releases FAULT_N and the second leaves it (R187). -/
def Obligations.AckClearsMarksAndClearUnlatches : Prop :=
  ∀ (s : State) (r : Request), s.Executes r → r.payload = [] →
    (r.kind = 8 → ∃ t : State,
      exec .faultAck s = .next (t.answered r .ok (toLe 1
        (s.entries.left.count FaultEntry.unacknowledged + s.entries.right.count FaultEntry.unacknowledged))) ∧
      t = { s with entries := t.entries } ∧ t.faultN = false ∧
      ∀ ch k, t.entry ch k = { s.entry ch k with unacknowledged := false }) ∧
    (∀ chs, r.kind = 9 → channelsNamed r.channel = some chs → ∃ t : State,
      exec .faultClear s = .next (t.answered r .ok (toLe 1
        ((chs.map fun ch => (s.entries.get ch).count FaultEntry.isLatched).sum))) ∧
      t = { s with entries := t.entries } ∧ t.faultN = s.faultN ∧
      ∀ ch k,
        (ch ∈ chs → (s.entry ch k).state = .latched → t.entry ch k = { s.entry ch k with state := .inactive, run := 0 }) ∧
        (ch ∉ chs ∨ (s.entry ch k).state ≠ .latched → t.entry ch k = s.entry ch k)) ∧
    (r.kind = 9 → 3 ≤ r.channel.toNat → exec .faultClear s = .next (s.answered r .range []))

/-- R70, R71, R53, R54, R137, R170, R193: VIEW-RESTART begins a channel afresh, answers a WAITING pass ABORTED on its
own link, puts a tracker that is not OFF back as at enable, and leaves what R71 and R193 name as it is: applied values,
occurrences, activations and detail of the entries, the fault history and its count (but for the TABLE_CORRUPT that a
swap over a CORRUPT camera-side bank evaluates at this boundary, R20), the tables, the loads in flight, the locks, the
settings in force and pending (but for the camera-side items, whose boundary the restart is, R44), the request queues,
RX-DISCARD, the status-seen flag and silent tick counts, the night detector, the frame period, the System Counter and
tick schedule, and the other channel. R70 to R72 and R193 leave the order of the restart's parts open. Where that swap
evaluates TABLE_CORRUPT, it is the model's choice (assumption 17) that the evaluation comes before the entries are cleared
and the view is set: so every entry, TABLE_CORRUPT included, is INACTIVE with run 0 and its mark cleared, and the view is in
START with its tile map reset. -/
def Obligations.ViewRestartBeginsChannelAfresh : Prop :=
  ∀ (s : State) (r : Request) (ch : Channel), s.Executes r → r.kind = 10 → channelOf r.channel = some ch → r.payload = [] →
    ∃ t : State, exec .viewRestart s = .next t ∧
      (t.receiver.get ch).assembly = .idle ∧ (t.receiver.get ch).reference = none ∧ (t.receiver.get ch).pass = .idle ∧
      (t.receiver.get ch).startSeen = (s.receiver.get ch).startSeen ∧
      (t.receiver.get ch).silentTicks = (s.receiver.get ch).silentTicks ∧
      (∀ b, ((t.store.get ch).get b).isFilling = false ∧ ((t.store.get ch).get b).isReady = false) ∧
      ((s.link.get ch).frame.lineInProgress = none → ∀ b, (t.store.get ch).get b = .free) ∧
      ((s.link.get ch).frame.lineInProgress ≠ none → ∀ b, ((s.store.get ch).get b).isShown = true →
        (t.store.get ch).get b = (s.store.get ch).get b ∧ (t.store.get ch).released = true) ∧
      (t.view.get ch).state = .start ∧ (t.view.get ch).holdTimer = 0 ∧
      (∀ rec, (t.view.get ch).record = some rec →
        rec.view = .start ∧ rec.buffer = none ∧ rec.fresh = false ∧ rec.mesh = none) ∧
      (∀ x ∈ (t.glare.get ch).tiles, x = Tile.reset) ∧
      (t.glare.get ch).night = (s.glare.get ch).night ∧ (t.glare.get ch).dwell = (s.glare.get ch).dwell ∧
      (∀ k, (t.entry ch k).state = .inactive ∧ (t.entry ch k).run = 0 ∧ (t.entry ch k).unacknowledged = false) ∧
      (∀ k, k ≠ .tableCorrupt ∨ s.ReplacesNoCorrupt (cameraTables ch) →
        t.entry ch k = { s.entry ch k with state := .inactive, run := 0, unacknowledged := false }) ∧
      (s.ReplacesNoCorrupt (cameraTables ch) → t.history = s.history ∧ t.historyCount = s.historyCount) ∧
      (∀ c, t.link.get c = { s.link.get c with
        expected := if c = ch then [] else (s.link.get c).expected, answers := (t.link.get c).answers }) ∧
      (t.timing.get ch).source = .internal ∧ (t.timing.get ch).aligned = false ∧
      (t.timing.get ch).start = (s.timing.get ch).start ∧ (t.timing.get ch).period = (s.timing.get ch).period ∧
      ((s.timing.get ch).tracker.state = .off → (t.timing.get ch).tracker = (s.timing.get ch).tracker) ∧
      ((s.timing.get ch).tracker.state ≠ .off → (t.timing.get ch).tracker =
        { state := .acquire, locked := false, bandwidth := (s.timing.get ch).tracker.bandwidth
          period := (s.params.get ch).periodNom, nextRef := some (s.timing.get ch).nextStart, frameEnd := none
          lastError := none, lockRun := 0, unlockRun := 0, emptyCount := 0 }) ∧
      ((s.receiver.get ch).pass = .idle → (t.link.get r.link).answers = (s.link.get r.link).answers ++
        [{ tag := r.tag, kind := 10, result := .ok, payload := [] }]) ∧
      (∀ tag n, (s.receiver.get ch).pass = .waiting r.link tag n → (t.link.get r.link).answers =
        (s.link.get r.link).answers ++ [{ tag := tag, kind := 12, result := .aborted, payload := [] },
          { tag := r.tag, kind := 10, result := .ok, payload := [] }]) ∧
      (∀ link tag n, link ≠ r.link → (s.receiver.get ch).pass = .waiting link tag n →
        (t.link.get link).answers = (s.link.get link).answers ++
          [{ tag := tag, kind := 12, result := .aborted, payload := [] }] ∧
        (t.link.get r.link).answers = (s.link.get r.link).answers ++
          [{ tag := r.tag, kind := 10, result := .ok, payload := [] }]) ∧
      (∀ c, c ≠ ch → t.receiver.get c = s.receiver.get c ∧ t.store.get c = s.store.get c ∧ t.view.get c = s.view.get c ∧
        t.glare.get c = s.glare.get c ∧ t.timing.get c = s.timing.get c ∧ t.entries.get c = s.entries.get c ∧
        t.params.get c = s.params.get c) ∧
      s.TablesTaken t (cameraTables ch) ∧ (s.ParamsSound → s.ValuesTaken t ch .camera) ∧ t.tables.verifyQueue = s.tables.verifyQueue ∧
      t.coverage = s.coverage ∧ t.counter = s.counter ∧ t.partParams = s.partParams ∧ t.resetRecord = s.resetRecord ∧
      t.agent.executing = none

/-- R167, R168, R214: the TIMING settings, each with its effect on the link's timing unit, its refusals and the link's
resulting setting as payload: tracker state, LOCKED (0 and 1 are the model's choice, assumption 37), bandwidth and source. -/
def Obligations.TimingSettingsTakeEffect : Prop :=
  (∀ g : LinkTiming, g.report.map BitVec.toNat =
    [g.tracker.state.code, g.tracker.locked.toNat, g.tracker.bandwidth.code, g.source.code]) ∧
  ∀ (s : State) (r : Request) (ch : Channel) (v : Byte) (g : LinkTiming), s.Executes r → r.kind = 11 →
    channelOf r.channel = some ch → r.payload = [v] → g = s.timing.get ch →
    (r.item = 0 →
      (v = 0 → g.source = .tracked → exec .timingTracker s = .next (s.answered r .inUse [])) ∧
      (v = 0 → g.source = .internal → ∃ g', g' = { g with
          tracker := { g.tracker with state := .off, locked := false, nextRef := none } } ∧
        exec .timingTracker s = .next (State.answered { s with timing := s.timing.set ch g' } r .ok g'.report)) ∧
      (v = 1 → g.tracker.state ≠ .off → exec .timingTracker s = .next (s.answered r .ok g.report)) ∧
      (v = 1 → g.tracker.state = .off → ∃ g', g' = { g with tracker :=
          { state := .acquire, locked := false, bandwidth := g.tracker.bandwidth, period := (s.params.get ch).periodNom
            nextRef := some g.nextStart, frameEnd := none, lastError := none, lockRun := 0, unlockRun := 0, emptyCount := 0 } } ∧
        exec .timingTracker s = .next (State.answered { s with timing := s.timing.set ch g' } r .ok g'.report)) ∧
      (2 ≤ v.toNat → exec .timingTracker s = .next (s.answered r .range []))) ∧
    (r.item = 1 →
      (∀ mode, mode.code = v.toNat → ∃ g', g' = { g with tracker := { g.tracker with bandwidth := mode } } ∧
        exec .timingBandwidth s = .next (State.answered { s with timing := s.timing.set ch g' } r .ok g'.report)) ∧
      (3 ≤ v.toNat → exec .timingBandwidth s = .next (s.answered r .range []))) ∧
    (r.item = 2 →
      (v = 0 → ∃ g', g' = { g with source := .internal, aligned := false, landing := false } ∧
        exec .timingSource s = .next (State.answered { s with timing := s.timing.set ch g' } r .ok g'.report)) ∧
      (v = 1 → g.tracker.locked = false → exec .timingSource s = .next (s.answered r .notLocked [])) ∧
      (v = 1 → g.tracker.locked = true → g.source = .tracked →
        exec .timingSource s = .next (s.answered r .ok g.report)) ∧
      (v = 1 → g.tracker.locked = true → g.source = .internal →
        ∃ g', g' = { g with source := .tracked, aligned := false, landing := false } ∧
          exec .timingSource s = .next (State.answered { s with timing := s.timing.set ch g' } r .ok g'.report)) ∧
      (2 ≤ v.toNat → exec .timingSource s = .next (s.answered r .range [])))

/-- R50 to R52, R211: the tests of CAMERA-PASS in their order; a taken one sends the PASS packet, makes the record
WAITING with count 0 and holds the answer. A WAITING pass is answered OK with the payload of an accepted REPLY, or
TIMEOUT by the tick that finds its count at 1; its record becomes IDLE. With no pass waiting a REPLY changes nothing.
That PASS_TIMEOUT is a step of its own, apart from its tick, is the model's choice (assumption 13). -/
def Obligations.CameraPassIsSentAndAnsweredOnce : Prop :=
  (∀ (s : State) (r : Request), s.Executes r → r.kind = 12 →
    (channelOf r.channel = none → exec .cameraPass s = .next (s.answered r .range [])) ∧
    (∀ ch, channelOf r.channel = some ch →
      (r.payload.length = 0 ∨ 41 ≤ r.payload.length → exec .cameraPass s = .next (s.answered r .length [])) ∧
      (1 ≤ r.payload.length → r.payload.length ≤ 40 → (s.receiver.get ch).pass ≠ .idle →
        exec .cameraPass s = .next (s.answered r .busy [])) ∧
      (1 ≤ r.payload.length → r.payload.length ≤ 40 → (s.receiver.get ch).pass = .idle →
        exec .cameraPass s = .next { s with
          agent := { s.agent with executing := none }
          receiver := s.receiver.set ch { s.receiver.get ch with pass := .waiting r.link r.tag 0 }
          outputs := s.outputs.set ch { s.outputs.get ch with
            passPacket := some (withCheck ([6] ++ toLe 1 r.payload.length ++ r.payload)) } }))) ∧
  (∀ (ch link : Channel) (tag : Byte) (packet payload : List Byte) (s : State), s.held = false →
    (∀ ticks, (s.receiver.get ch).pass = .waiting link tag ticks → readCameraPacket packet = .reply payload →
      exec (.reply ch packet) s = .next { s with
        receiver := s.receiver.set ch { s.receiver.get ch with pass := .idle }
        link := s.link.set link { s.link.get link with
          answers := (s.link.get link).answers ++ [{ tag := tag, kind := 12, result := .ok, payload := payload }] } }) ∧
    ((s.receiver.get ch).pass = .waiting link tag 1 → s.tickDue = true →
      exec (.passTimeout ch) s = .next { s with
        receiver := s.receiver.set ch { s.receiver.get ch with pass := .idle }
        link := s.link.set link { s.link.get link with
          answers := (s.link.get link).answers ++ [{ tag := tag, kind := 12, result := .timeout, payload := [] }] } }) ∧
    ((s.receiver.get ch).pass = .idle → exec (.reply ch packet) s = .next s))

/-- R31, R32: the tests of COVERAGE-WRITE and COVERAGE-FIX in their order, and what a taken one leaves. -/
def Obligations.CoverageRequestsInOrder : Prop :=
  ∀ (s : State) (r : Request), s.Executes r →
    (channelOf r.channel = none →
      (r.kind = 13 → exec .coverageWrite s = .next (s.answered r .range [])) ∧
      (r.kind = 14 → exec .coverageFix s = .next (s.answered r .range []))) ∧
    (∀ ch q, r.kind = 13 → channelOf r.channel = some ch → r.payload.length = 8 →
      q = ⟨le16 r.payload 0, le16 r.payload 2, le16 r.payload 4, le16 r.payload 6⟩ →
      (s.resetRecord.mode = .normal → exec .coverageWrite s = .next (s.answered r .serviceOnly [])) ∧
      (s.resetRecord.mode = .service →
        (∀ x, s.coverage.get ch = .fixed x → exec .coverageWrite s = .next (s.answered r .fixed [])) ∧
        ((∀ x, s.coverage.get ch ≠ .fixed x) →
          (¬(q.x0 < q.x1 ∧ q.x1 ≤ 2047 ∧ q.y0 < q.y1 ∧ q.y1 ≤ 1535) →
            exec .coverageWrite s = .next (s.answered r .range [])) ∧
          (q.x0 < q.x1 → q.x1 ≤ 2047 → q.y0 < q.y1 → q.y1 ≤ 1535 →
            ((s.table (.warpMesh ch)).staged.committed = true →
              exec .coverageWrite s = .next (s.answered r .busy [])) ∧
            ((s.table (.warpMesh ch)).staged.committed = false →
              (∀ mesh edge, s.meshValid ch = true →
                coverageFailure (s.table (.warpMesh ch)).active.bytes q = some (mesh, edge) →
                exec .coverageWrite s = .next (s.answered r .meshConflict (toLe 1 mesh ++ toLe 1 (edgeCode edge)))) ∧
              (s.meshValid ch = false ∨ coverageFailure (s.table (.warpMesh ch)).active.bytes q = none →
                exec .coverageWrite s = .next
                  (State.answered { s with coverage := s.coverage.set ch (.written q) } r .ok []))))))) ∧
    (∀ ch, r.kind = 14 → channelOf r.channel = some ch → r.payload = [] →
      (s.resetRecord.mode = .normal → exec .coverageFix s = .next (s.answered r .serviceOnly [])) ∧
      (s.resetRecord.mode = .service →
        (s.coverage.get ch = .unwritten → exec .coverageFix s = .next (s.answered r .range [])) ∧
        (∀ q, s.coverage.get ch = .fixed q → exec .coverageFix s = .next (s.answered r .fixed [])) ∧
        (∀ q, s.coverage.get ch = .written q → exec .coverageFix s = .next
          (State.answered { s with coverage := s.coverage.set ch (.fixed q) } r .ok []))))

/-- R209, R142: PART-RESET is answered OK at once and recorded for its link; the MANAGEMENT reset takes place at the end
of the area that sent its answer, and an area that sent none ends in blanking. That the reset keeps the queue of
commands and the draw counter is the model's choice (assumption 26). -/
def Obligations.PartResetFollowsItsAnswer : Prop :=
  (∀ (s : State) (r : Request), s.Executes r → r.kind = 15 → r.payload = [] →
    exec .partReset s = .next (State.answered { s with
      link := s.link.set r.link { s.link.get r.link with resetPending := true } } r .ok [])) ∧
  (∀ (s : State) (ch : Channel), s.held = false → (s.link.get ch).frame.stage = .ancillary 0 true →
    exec (.ancillaryAreaEnd ch) s = .next { State.reset with
      pending := s.pending, pins := s.pins, coverage := s.coverage, draws := s.draws
      resetRecord := ⟨.management, s.pins.modeStrap⟩ }) ∧
  (∀ (s : State) (ch : Channel), s.held = false → (s.link.get ch).frame.stage = .ancillary 0 false →
    exec (.ancillaryAreaEnd ch) s = .next { s with
      link := s.link.set ch { s.link.get ch with frame := { (s.link.get ch).frame with stage := .blanking } } })

/-! ## The table engine -/

/-- R16 to R20, R3 to R9, R33: the lowest item that breaks a rule of its kind is the offending one, and the envelope
check names the first mesh and edge that fail, low x, high x, low y, high y. The engine takes the head of the queue; a
verify that ends answers the COMMIT on its owner link by the first check that fails, leaving the staged bank IDLE and
the active bank as it was, or OK with the bank in SWAP-WAIT, or swapped at once for table 12. -/
def Obligations.VerifiesEndWithFirstFailingCheck : Prop :=
  (∀ (t : TableId) (bs : List Byte),
    (∀ item, t.offendingItem bs = some item ↔
      item < t.items bs ∧ ¬t.ItemLegal bs item ∧ ∀ lower, lower < item → t.ItemLegal bs lower) ∧
    (t.offendingItem bs = none ↔ ∀ item, item < t.items bs → t.ItemLegal bs item)) ∧
  (∀ (bs : List Byte) (q : Rect),
    (∀ mesh edge, coverageFailure bs q = some (mesh, edge) ↔
      (mesh = 0 ∨ (mesh = 1 ∧ byteAt bs 0 = 2)) ∧ ¬edge.Passes bs mesh q ∧
      (∀ e : Edge, edgeCode e < edgeCode edge → e.Passes bs mesh q) ∧ (mesh = 1 → ∀ e : Edge, e.Passes bs 0 q)) ∧
    (coverageFailure bs q = none ↔
      (∀ e : Edge, e.Passes bs 0 q) ∧ (byteAt bs 0 = 2 → ∀ e : Edge, e.Passes bs 1 q))) ∧
  (∀ (s : State) (t : TableId) (rest : List TableId), s.held = false → s.tables.verifying = none →
    s.tables.verifyQueue = t :: rest →
    exec .verifyStart s = .next { s with tables := { s.tables with verifying := some t } }) ∧
  ∀ (s : State) (t : TableId) (load : Load) (supplied : Check) (tag : Byte) (bytes : List Byte), s.held = false →
    s.tables.verifying = some t → (s.table t).staged = .verifying load supplied tag →
    bytes = load.bytes.take load.declared →
    ∃ (u : State) (result : Result) (payload : List Byte), exec .verifyEnd s = .next u ∧
      u.link = s.link.set load.owner { s.link.get load.owner with
        answers := (s.link.get load.owner).answers ++
          [{ tag := tag, kind := 5, result := result, payload := payload }] } ∧
      u.tables.verifyQueue = s.tables.verifyQueue.filter (fun x => x != t) ∧ u.tables.verifying = none ∧
      (u.table t).lock = (s.table t).lock ∧ u.coverage = s.coverage ∧ u.agent = s.agent ∧
      (pairSum bytes ≠ supplied → result = .checksum ∧ payload = toLe 4 (pairSum bytes).toNat) ∧
      (∀ item, pairSum bytes = supplied → t.offendingItem bytes = some item →
        result = .invalid ∧ payload = toLe 2 item) ∧
      (∀ ch rect mesh edge, pairSum bytes = supplied → t.offendingItem bytes = none → t = .warpMesh ch →
        (s.coverage.get ch).rect = some rect → coverageFailure bytes rect = some (mesh, edge) →
        result = .coverage ∧ payload = toLe 1 mesh ++ toLe 1 (edgeCode edge)) ∧
      (result ≠ .ok → (u.table t).staged = .idle ∧ (u.table t).active = (s.table t).active) ∧
      (pairSum bytes = supplied → t.offendingItem bytes = none →
        (∀ ch rect, t = .warpMesh ch → (s.coverage.get ch).rect = some rect → coverageFailure bytes rect = none) →
        result = .ok ∧ payload = [] ∧
        (∀ ch, t = .warpMesh ch ∨ t = .toneCurves ch ∨ t = .glareResponse ch ∨ t = .overlaySet ch →
          (u.table t).staged = .swapWait load supplied ∧ (u.table t).active = (s.table t).active) ∧
        (∀ ch, t = .develop ch ∨ t = .defectList ch → (s.receiver.get ch).assembly.inProgress = true →
          (u.table t).staged = .swapWait load supplied ∧ (u.table t).active = (s.table t).active) ∧
        ((t = .faultActions ∨ ∃ ch, (t = .develop ch ∨ t = .defectList ch) ∧
            (s.receiver.get ch).assembly.inProgress = false) →
          (u.table t).staged = .idle ∧ (u.table t).active.state = .valid ∧ (u.table t).active.length = load.declared ∧
          (u.table t).active.checksum = supplied ∧ (u.table t).active.bytes = load.bytes ∧
          (u.table t).active.generation = nextGeneration (s.table t).active.generation))

/-- R20, R10, R28, R184: a swap puts the staged contents in force, counts the generation from 65535 to 1, clears the
staged bank, restarts a scrub step of the same table and touches no other table. One that replaces a CORRUPT bank
evaluates TABLE_CORRUPT of each channel of the table, clean when no other table of the channel is CORRUPT and else an
observation of the lowest CORRUPT id; one that replaces an EMPTY or VALID bank evaluates nothing. -/
def Obligations.SwapReplacesActiveBank : Prop :=
  ∀ (s : State) (t : TableId) (load : Load) (supplied : Check), (s.table t).staged = .swapWait load supplied →
    ((s.swapIfWaiting t).table t).staged = .idle ∧ ((s.swapIfWaiting t).table t).lock = (s.table t).lock ∧
    ((s.swapIfWaiting t).table t).active.state = .valid ∧ ((s.swapIfWaiting t).table t).active.bytes = load.bytes ∧
    ((s.swapIfWaiting t).table t).active.length = load.declared ∧
    ((s.swapIfWaiting t).table t).active.checksum = supplied ∧
    ((s.swapIfWaiting t).table t).active.generation =
      (if (s.table t).active.generation = 65535 then 1 else (s.table t).active.generation + 1) ∧
    (∀ x, x ≠ t → (s.swapIfWaiting t).table x = s.table x) ∧
    (∀ st, s.tables.scrub = some st → st.table = t →
      (s.swapIfWaiting t).tables.scrub = some { st with reached := 0, acc := .start }) ∧
    (∀ st, s.tables.scrub = some st → st.table ≠ t → (s.swapIfWaiting t).tables.scrub = some st) ∧
    (s.swapIfWaiting t).tables.scrubPosition = s.tables.scrubPosition ∧
    ((s.table t).active.state ≠ .corrupt → (s.swapIfWaiting t).entries = s.entries) ∧
    (∀ ch k, k ≠ .tableCorrupt ∨ ch ∉ t.channels → (s.swapIfWaiting t).entry ch k = s.entry ch k) ∧
    ((s.table t).active.state = .corrupt → ∀ ch ∈ t.channels, ∀ judged : Option Nat → FaultEntry,
      judged = (fun outcome => ((s.entry ch .tableCorrupt).evaluate ((s.swapIfWaiting t).valuesInForce .tableCorrupt) outcome
        s.counter (s.link.get ch).frameSeq).1) →
      ((∀ x : TableId, ch ∈ x.channels → x ≠ t → (s.table x).active.state ≠ .corrupt) →
        (s.swapIfWaiting t).entry ch .tableCorrupt = judged none) ∧
      (∀ x : TableId, ch ∈ x.channels → x ≠ t → (s.table x).active.state = .corrupt →
        (∀ y : TableId, ch ∈ y.channels → y ≠ t → (s.table y).active.state = .corrupt → x.number ≤ y.number) →
        (s.swapIfWaiting t).entry ch .tableCorrupt = judged (some x.number)))

/-- R26: a scrub step whose pair sum differs marks the bank CORRUPT, keeping its generation, length and checksum, and
observes TABLE_CORRUPT with the table id, by the values in force with table 12 as it now stands (R174). Where the bank
is a Warp Mesh, a view in LIVE or HOLD enters FALLBACK (R63, R65): SHOWN is released, the hold timer is 0, the tile map
is reset and the record is amended; START and FALLBACK stay unless the observation begins to drive FALLBACK (R66). One
that matches leaves the directory and evaluates TABLE_CORRUPT by the CORRUPT tables that are left. No other entry moves.
-/
def Obligations.ScrubStepComparesPairSum : Prop :=
  ∀ (s : State) (st : ScrubStep) (e : TableEntry), s.held = false → s.tables.scrub = some st → st.suspended = false →
    e = s.table st.table → st.acc = PairAcc.start.over ((e.active.bytes.take e.active.length).take st.reached) →
    ∃ t : State, exec .scrubStepEnd s = .next t ∧ t.tables.scrub = none ∧ t.link = s.link ∧ t.coverage = s.coverage ∧
      t.agent = s.agent ∧ (∀ x, x ≠ st.table → t.table x = s.table x) ∧
      t.tables.verifyQueue = s.tables.verifyQueue ∧ t.tables.scrubPosition = s.tables.scrubPosition ∧
      (∀ ch k, k ≠ .tableCorrupt ∨ ch ∉ st.table.channels → t.entry ch k = s.entry ch k) ∧
      (∀ ch, ch ∉ st.table.channels →
        t.view.get ch = s.view.get ch ∧ t.store.get ch = s.store.get ch ∧ t.glare.get ch = s.glare.get ch) ∧
      (pairSum (e.active.bytes.take e.active.length) ≠ e.active.checksum →
        t.table st.table = { e with active := { e.active with state := .corrupt } } ∧
        (∀ ch ∈ st.table.channels, t.entry ch .tableCorrupt =
          ((s.entry ch .tableCorrupt).evaluate (t.valuesInForce .tableCorrupt) (some st.table.number) s.counter
            (s.link.get ch).frameSeq).1) ∧
        (∀ ch, st.table = .warpMesh ch →
          ((s.view.get ch).state = .live ∨ (s.view.get ch).state = .hold ∨ ((s.view.get ch).state = .start ∧
              (s.entry ch .tableCorrupt).Begins (t.entry ch .tableCorrupt) .fallback) →
            (t.view.get ch).state = .fallback ∧ (t.view.get ch).holdTimer = 0 ∧
            (∀ x ∈ (t.glare.get ch).tiles, x = Tile.reset) ∧ (∀ n ∈ (t.glare.get ch).last, n = 0) ∧
            (s.store.get ch).ReleasedTo (t.store.get ch) (s.link.get ch).frame.lineInProgress ∧
            ((s.view.get ch).record = none → (t.view.get ch).record = none) ∧
            (∀ r, (s.view.get ch).record = some r → ∃ c, (t.view.get ch).record =
              some { r with view := .fallback, buffer := none, fresh := false, mesh := none, conditions := c })) ∧
          ((s.view.get ch).state = .fallback ∨ ((s.view.get ch).state = .start ∧
              ¬(s.entry ch .tableCorrupt).Begins (t.entry ch .tableCorrupt) .fallback) →
            t.view.get ch = s.view.get ch ∧ t.store.get ch = s.store.get ch ∧ t.glare.get ch = s.glare.get ch))) ∧
      (pairSum (e.active.bytes.take e.active.length) = e.active.checksum →
        t.table st.table = e ∧
        ∀ ch ∈ st.table.channels, t.entry ch .tableCorrupt =
          ((s.entry ch .tableCorrupt).evaluate (s.valuesInForce .tableCorrupt) (s.lowestCorrupt ch) s.counter
            (s.link.get ch).frameSeq).1)

/-! ## Fault supervision -/

/-- R176 to R178: how an entry takes an evaluation: the applied values, the detail, the state and run by the table of
R177, and what a new activation writes. -/
def Obligations.EntryMovesByItsTable : Prop :=
  ∀ (e : FaultEntry) (v : ActionValues) (now : Time) (seq : Seq) (d : Nat),
    (∀ c, c = (e.evaluate v none now seq) → c.2 = false ∧ c.1.applied = v ∧ c.1.detail = e.detail ∧
      c.1.occurrences = e.occurrences ∧ c.1.unacknowledged = e.unacknowledged ∧
      (c.1.state, c.1.run) =
        (match e.state with
         | .inactive => (.inactive, 0)
         | .pending => (.inactive, 0)
         | .active =>
           if v.recovery ≤ 1 then (if v.latch then .latched else .inactive, 0) else (.recovering, 1)
         | .recovering =>
           if v.recovery ≤ e.run + 1 then (if v.latch then .latched else .inactive, 0) else (.recovering, e.run + 1)
         | .latched => (.latched, 0))) ∧
    (∀ o, o = (e.evaluate v (some d) now seq) → o.1.applied = v ∧ o.1.detail = some d ∧
      (o.1.state, o.1.run, o.2) =
        (match e.state with
         | .inactive => if v.debounce ≤ 1 then (.active, 0, true) else (.pending, 1, false)
         | .pending => if v.debounce ≤ e.run + 1 then (.active, 0, true) else (.pending, e.run + 1, false)
         | .active => (.active, 0, false)
         | .recovering => (.active, 0, false)
         | .latched => (.active, 0, true)) ∧
      (o.2 = true → o.1.occurrences = min 255 (e.occurrences + 1) ∧ o.1.last = some ⟨now, seq⟩ ∧
        o.1.first = (if e.occurrences = 0 then some ⟨now, seq⟩ else e.first) ∧
        o.1.unacknowledged = (e.unacknowledged || v.assertLine)) ∧
      (o.2 = false → o.1.occurrences = e.occurrences ∧ o.1.last = e.last ∧ o.1.first = e.first ∧
        o.1.unacknowledged = e.unacknowledged))

/-- R174, R182, R59, R63, R65, R187, R190: FAULT_N is asserted exactly while an entry of either channel holds its mark. An
evaluation moves its entry alone, with the Fault Actions values of a VALID table
12 or the built-in ones. One that makes it begin to drive FALLBACK takes any other view there: SHOWN is released, the
hold timer is 0, the tile map is reset and the record is amended; one that begins to drive HOLD takes a LIVE view to
HOLD with the timer at 0; any other leaves views, buffers and tile maps. A new activation writes the newest history
record. Tables, links, receivers and parameters stand. -/
def Obligations.EvaluationReachesViewAndHistory : Prop :=
  (∀ (s : State) (k : FaultKind) (bank : ActiveBank) (o : Nat), bank = (s.table .faultActions).active →
    o = 5 * (k.number - 1) →
    (bank.state ≠ .valid → s.valuesInForce k = k.builtIn) ∧
    (bank.state = .valid →
      (byteAt bank.bytes o ≤ 2 → (s.valuesInForce k).action.code = byteAt bank.bytes o) ∧
      (s.valuesInForce k).debounce = byteAt bank.bytes (o + 1) ∧ (s.valuesInForce k).recovery = byteAt bank.bytes (o + 2) ∧
      (byteAt bank.bytes (o + 3) ≤ 1 → (s.valuesInForce k).latch.toNat = byteAt bank.bytes (o + 3)) ∧
      (byteAt bank.bytes (o + 4) ≤ 1 → (s.valuesInForce k).assertLine.toNat = byteAt bank.bytes (o + 4)))) ∧
  (allKinds.map (fun k => (k.number, k.builtIn)) =
    [(1, ⟨.hold, 1, 2, false, true⟩), (2, ⟨.hold, 3, 3, false, true⟩), (3, ⟨.report, 1, 30, false, false⟩),
     (4, ⟨.fallback, 2, 30, true, true⟩), (5, ⟨.hold, 2, 10, false, true⟩), (6, ⟨.hold, 1, 2, false, false⟩),
     (7, ⟨.fallback, 3, 30, true, true⟩), (8, ⟨.fallback, 2, 60, true, true⟩), (9, ⟨.report, 2, 1, false, true⟩),
     (10, ⟨.report, 1, 1, false, true⟩), (11, ⟨.report, 1, 1, true, true⟩), (12, ⟨.report, 120, 8, false, false⟩),
     (13, ⟨.report, 30, 30, false, false⟩)]) ∧
  (∀ s : State, s.faultN = true ↔ ∃ c k, (s.entry c k).unacknowledged = true) ∧
  ∀ (s t : State) (ch : Channel) (k : FaultKind) (outcome : Option Nat) (after : FaultEntry) (new : Bool),
    t = s.evaluate ch k outcome →
    (after, new) = (s.entry ch k).evaluate (s.valuesInForce k) outcome s.counter (s.link.get ch).frameSeq →
    t.entry ch k = after ∧ (∀ c j, (c, j) ≠ (ch, k) → t.entry c j = s.entry c j) ∧
    ((s.entry ch k).Begins after .fallback → (s.view.get ch).state ≠ .fallback →
      (t.view.get ch).state = .fallback ∧ (t.view.get ch).holdTimer = 0 ∧
      (∀ x ∈ (t.glare.get ch).tiles, x = Tile.reset) ∧ (∀ n ∈ (t.glare.get ch).last, n = 0) ∧
      (s.store.get ch).ReleasedTo (t.store.get ch) (s.link.get ch).frame.lineInProgress ∧
      ((s.view.get ch).record = none → (t.view.get ch).record = none) ∧
      (∀ r, (s.view.get ch).record = some r → ∃ c, (t.view.get ch).record =
        some { r with view := .fallback, buffer := none, fresh := false, mesh := none, conditions := c })) ∧
    ((s.entry ch k).Begins after .hold → (s.view.get ch).state = .live →
      t.view.get ch = { s.view.get ch with state := .hold, holdTimer := 0 } ∧ t.store = s.store ∧ t.glare = s.glare) ∧
    ((¬(s.entry ch k).Begins after .fallback ∨ (s.view.get ch).state = .fallback) →
      (¬(s.entry ch k).Begins after .hold ∨ (s.view.get ch).state ≠ .live) →
      t.view = s.view ∧ t.store = s.store ∧ t.glare = s.glare) ∧
    (new = true → t.history =
      ({ kind := k, channel := ch, time := s.counter, seq := (s.link.get ch).frameSeq, detail := outcome.getD 0 } ::
        s.history).take 32 ∧ t.historyCount = s.historyCount + 1) ∧
    (new = false → t.history = s.history ∧ t.historyCount = s.historyCount) ∧
    (∀ c, c ≠ ch → t.view.get c = s.view.get c ∧ t.store.get c = s.store.get c ∧ t.glare.get c = s.glare.get c) ∧
    t = { s with
      entries := t.entries, history := t.history, historyCount := t.historyCount, view := t.view, store := t.store
      glare := t.glare }

/-- R158, R43, R146, R52, R25: a supervision tick evaluates CAM_LOST and DISP_SILENT of both channels and clears their
flags, counts each WAITING pass or times it out, and, where no scrub step exists, starts one on the first VALID table
from the scrub position in cyclic order, past which the position moves. A pass timed out is answered TIMEOUT at the tail
of its link's answers, that of the left channel first (assumption 15). Of the receivers and the links nothing else
changes, and no entry of another kind; a view that neither entry begins to drive stands, with its buffers and its tile
map. -/
def Obligations.SupervisionTickReachesItsBlocks : Prop :=
  ∀ s : State, s.held = false → s.tickDue = true →
    ∃ t : State, exec .supervisionTick s = .next t ∧
      t = { s with
        lastTick := some s.counter, receiver := t.receiver, link := t.link, tables := t.tables, entries := t.entries
        history := t.history, historyCount := t.historyCount, view := t.view, store := t.store, glare := t.glare } ∧
      (∀ x, t.table x = s.table x) ∧ t.tables.verifyQueue = s.tables.verifyQueue ∧
      (∀ st, s.tables.scrub = some st → t.tables = s.tables) ∧
      (∀ n x, s.tables.scrub = none → n < 13 → tableOfNumber ((s.tables.scrubPosition.number + n) % 13) = some x →
        (s.table x).active.state = .valid →
        (∀ m y, m < n → tableOfNumber ((s.tables.scrubPosition.number + m) % 13) = some y →
          (s.table y).active.state ≠ .valid) →
        t.tables.scrub =
          some { table := x, suspended := !s.tables.verifyQueue.isEmpty, reached := 0, acc := .start } ∧
        t.tables.scrubPosition.number = (x.number + 1) % 13) ∧
      ((∀ x, (s.table x).active.state ≠ .valid) → t.tables = s.tables) ∧
      ∀ ch,
        t.receiver.get ch = { s.receiver.get ch with
          startSeen := false, pass := (t.receiver.get ch).pass
          silentTicks :=
            if (s.receiver.get ch).startSeen then (s.receiver.get ch).silentTicks
            else min 255 ((s.receiver.get ch).silentTicks + 1) } ∧
        t.link.get ch = { s.link.get ch with
          statusSeen := false
          silentTicks := if (s.link.get ch).statusSeen then 0 else min 255 ((s.link.get ch).silentTicks + 1)
          answers := (s.link.get ch).answers ++ [Channel.left, Channel.right].filterMap fun c =>
            match (s.receiver.get c).pass with
            | .waiting link tag (_ + 1) =>
              if link = ch then some { tag := tag, kind := 12, result := .timeout, payload := [] } else none
            | .waiting _ _ 0 | .idle => none } ∧
        t.entry ch .camLost = ((s.entry ch .camLost).evaluate (s.valuesInForce .camLost)
          (if (s.receiver.get ch).startSeen then none else some (min 255 ((s.receiver.get ch).silentTicks + 1)))
          s.counter (s.link.get ch).frameSeq).1 ∧
        t.entry ch .dispSilent = ((s.entry ch .dispSilent).evaluate (s.valuesInForce .dispSilent)
          (if (s.link.get ch).statusSeen then none else some (min 255 ((s.link.get ch).silentTicks + 1)))
          s.counter (s.link.get ch).frameSeq).1 ∧
        (∀ k, k ≠ .camLost → k ≠ .dispSilent → t.entry ch k = s.entry ch k) ∧
        ((∀ k a, a ≠ .report → ¬(s.entry ch k).Begins (t.entry ch k) a) →
          t.view.get ch = s.view.get ch ∧ t.store.get ch = s.store.get ch ∧ t.glare.get ch = s.glare.get ch) ∧
        ((s.receiver.get ch).pass = .idle → (t.receiver.get ch).pass = .idle) ∧
        (∀ link tag, (s.receiver.get ch).pass = .waiting link tag 0 → (t.receiver.get ch).pass = .waiting link tag 1) ∧
        (∀ link tag n, (s.receiver.get ch).pass = .waiting link tag (n + 1) → (t.receiver.get ch).pass = .idle)

/-! ## The display frame -/

/-- R138, R159, R160, R60, R19, R205: at the link's display frame start the frame takes the sequence number, its start
time, a period within the bounds in force and a record; the display-side tables in SWAP-WAIT and the pending values take
effect. A size change resets the tile map (R76, R110), and a GAIN_FLOOR that takes effect lifts the gains and targets
below it (R106). With source INTERNAL the period is PERIOD_NOM. The frame's mesh, knots, response and overlay are those
of the banks that now stand, or the defaults (R29, R78, R80, R88, R104, R119), and the hot counts of a frame that shows
a buffer are 0 (R98). -/
def Obligations.DisplayFrameStartOpensFrame : Prop :=
  ∀ (s : State) (ch : Channel), s.held = false → s.startDue ch = true →
    ∃ (t : State) (r : FrameRecord), exec (.displayFrameStart ch) s = .next t ∧
      (t.link.get ch).frameSeq = (s.link.get ch).nextSeq ∧ (t.link.get ch).nextSeq = (s.link.get ch).nextSeq + 1 ∧
      (t.timing.get ch).start = some s.counter ∧
      (t.params.get ch).periodNom - min (t.params.get ch).span ((t.params.get ch).periodNom / 16) ≤
        (t.timing.get ch).period ∧
      (t.timing.get ch).period ≤
        (t.params.get ch).periodNom + min (t.params.get ch).span ((t.params.get ch).periodNom / 16) ∧
      ((s.timing.get ch).source = .internal → (t.timing.get ch).period = (t.params.get ch).periodNom) ∧
      s.TablesTaken t (displayTables ch) ∧ (s.ParamsSound → s.ValuesTaken t ch .display) ∧
      (s.ParamsSound → (t.params.get ch).dispWidth ≠ (s.params.get ch).dispWidth ∨
          (t.params.get ch).dispHeight ≠ (s.params.get ch).dispHeight →
        (∀ x ∈ (t.glare.get ch).tiles, x = Tile.reset) ∧ ∀ n ∈ (t.glare.get ch).last, n = 0) ∧
      (s.ParamsSound → (t.params.get ch).gainFloor ≠ (s.params.get ch).gainFloor →
        ∀ x ∈ (t.glare.get ch).tiles, (t.params.get ch).gainFloor ≤ x.gain ∧ (t.params.get ch).gainFloor ≤ x.target) ∧
      ((t.params.get ch).dispWidth = (s.params.get ch).dispWidth →
        (t.params.get ch).dispHeight = (s.params.get ch).dispHeight → (t.view.get ch).state ≠ .fallback →
        (∀ x ∈ displayTables ch, (s.table x).active.state ≠ .corrupt) →
        (t.glare.get ch).tiles =
          (if (t.params.get ch).gainFloor = (s.params.get ch).gainFloor then (s.glare.get ch).tiles
           else (s.glare.get ch).tiles.map fun x => { x with
             gain := max x.gain (t.params.get ch).gainFloor, target := max x.target (t.params.get ch).gainFloor })) ∧
      (t.view.get ch).record = some r ∧ r.seq = (s.link.get ch).nextSeq ∧ r.start = s.counter ∧
      r.night = (s.glare.get ch).night ∧ (r.buffer = none → r.fresh = false ∧ r.mesh = none) ∧
      t.ItemsHeld ch r (t.link.get ch).frame.items ∧
      (r.buffer ≠ none → r.mesh ≠ none ∧ (t.glare.get ch).hot = List.replicate 80 0) ∧
      (t.link.get ch).frame.stage = .activeLines ∧ (t.link.get ch).frame.nextLine = 0 ∧
      (t.link.get ch).frame.lineInProgress = none ∧ (t.link.get ch).frame.signature = .start ∧
      (t.link.get ch).answers = (s.link.get ch).answers ∧ (t.link.get ch).expected = (s.link.get ch).expected ∧
      t.pendingParams.get ch = (s.pendingParams.get ch).filter (fun pv => pv.1.cls != .display) ∧
      (∀ c, c ≠ ch → t.receiver.get c = s.receiver.get c ∧ t.store.get c = s.store.get c ∧ t.view.get c = s.view.get c ∧
        t.glare.get c = s.glare.get c ∧ t.timing.get c = s.timing.get c ∧ t.entries.get c = s.entries.get c ∧
        t.params.get c = s.params.get c ∧ t.link.get c = s.link.get c) ∧
      t.coverage = s.coverage ∧ t.counter = s.counter ∧ t.agent = s.agent ∧ t.receiver = s.receiver

/-- R62, R58, R79: the four steps of the decision, for a frame at whose start no table swaps, no value takes effect and the
tracker is OFF. A view that may go LIVE takes the READY buffer; START and FALLBACK else show none; LIVE takes or repeats; HOLD
repeats until its timer reaches HOLD_LIMIT. -/
def Obligations.FrameIsDecidedInFourSteps : Prop :=
  ∀ (s : State) (ch : Channel), s.held = false → s.startDue ch = true → (s.timing.get ch).tracker.state = .off →
    (∀ x load supplied, x = .warpMesh ch ∨ x = .toneCurves ch ∨ x = .glareResponse ch ∨ x = .overlaySet ch →
      (s.table x).staged ≠ .swapWait load supplied) →
    (∀ pv ∈ s.pendingParams.get ch, pv.1.cls ≠ .display) → (s.store.get ch).released = false →
    ∃ (t : State) (r : FrameRecord), exec (.displayFrameStart ch) s = .next t ∧ (t.view.get ch).record = some r ∧
      r.view = (t.view.get ch).state ∧ t.entries = s.entries ∧
      (∀ b p n, (s.store.get ch).find Buffer.isReady = some b → (s.store.get ch).get b = .ready p n →
        (s.view.get ch).state = .live ∨ (s.meshValid ch = true ∧ s.withheld ch = false) →
        (t.view.get ch).state = .live ∧ (t.view.get ch).holdTimer =
          (if (s.view.get ch).state = .live then (s.view.get ch).holdTimer else 0) ∧
        (t.store.get ch).get b = .shown p n 1 ∧ r.buffer = some b ∧ r.fresh = true ∧
        r.mesh = some (if s.pins.turn.get ch = true ∧ s.meshCount ch = 2 then .turn else .primary) ∧
        (∀ a, a ≠ b → (t.store.get ch).get a =
          if ((s.store.get ch).get a).isShown then .free else (s.store.get ch).get a)) ∧
      (s.mayGoLive ch = false → (s.view.get ch).state = .start ∨ (s.view.get ch).state = .fallback →
        (t.view.get ch).state = (s.view.get ch).state ∧ t.store = s.store ∧ r.buffer = none ∧ r.fresh = false) ∧
      (s.mayGoLive ch = false → (s.view.get ch).state = .hold →
        (s.params.get ch).holdLimit ≤ (s.view.get ch).holdTimer + 1 →
        (t.view.get ch).state = .fallback ∧ (t.view.get ch).holdTimer = 0 ∧ r.buffer = none ∧ r.fresh = false ∧
        (∀ x ∈ (t.glare.get ch).tiles, x = Tile.reset) ∧ (∀ a, ((t.store.get ch).get a).isShown = false)) ∧
      (∀ b p n times, (s.store.get ch).find Buffer.isShown = some b → (s.store.get ch).get b = .shown p n times →
        ((s.view.get ch).state = .live ∧ (s.store.get ch).hasReady = false) ∨
          ((s.view.get ch).state = .hold ∧ s.mayGoLive ch = false ∧
            (s.view.get ch).holdTimer + 1 < (s.params.get ch).holdLimit) →
        (t.view.get ch).state = (s.view.get ch).state ∧ (t.store.get ch).get b = .shown p n (min 255 (times + 1)) ∧
        (∀ a, a ≠ b → (t.store.get ch).get a = (s.store.get ch).get a) ∧ r.buffer = some b ∧ r.fresh = false ∧
        (t.view.get ch).holdTimer =
          (if (s.view.get ch).state = .hold then (s.view.get ch).holdTimer + 1 else (s.view.get ch).holdTimer))

/-- R62 step 3, R65, R59: HOLD_LIMIT_REACHED takes a view in HOLD to FALLBACK: the SHOWN buffer is released, FREE at
once with no line in progress and else SHOWN and marked released, the timer is 0, the tile map reset and the record
amended. At the end of the active line in progress a released SHOWN buffer becomes FREE. Nothing else changes. That
HOLD_LIMIT_REACHED is a step of its own that does this part of its display frame start is the model's choice (assumption
13). -/
def Obligations.FallbackReleasesShownBuffer : Prop :=
  (∀ (s : State) (ch : Channel), s.held = false → s.startDue ch = true → s.reachesHoldLimit ch = true →
     ∃ t : State, exec (.holdLimitReached ch) s = .next t ∧
       t = { s with
         view := s.view.set ch (t.view.get ch), store := s.store.set ch (t.store.get ch)
         glare := s.glare.set ch (t.glare.get ch) } ∧
       (t.view.get ch).state = .fallback ∧ (t.view.get ch).holdTimer = 0 ∧
       (∀ x ∈ (t.glare.get ch).tiles, x = Tile.reset) ∧ (t.glare.get ch).night = (s.glare.get ch).night ∧
       (s.store.get ch).ReleasedTo (t.store.get ch) (s.link.get ch).frame.lineInProgress ∧
       (∀ r, (s.view.get ch).record = some r → ∃ c, (t.view.get ch).record =
         some { r with view := .fallback, buffer := none, fresh := false, mesh := none, conditions := c })) ∧
  (∀ (s : State) (ch : Channel) (y : Nat), s.held = false → (s.link.get ch).frame.lineInProgress = some y →
     ∃ t : State, exec (.activeLineEnd ch) s = .next t ∧
       t = { s with
         link := s.link.set ch { s.link.get ch with
           frame := { (s.link.get ch).frame with lineInProgress := none } }
         store := s.store.set ch (t.store.get ch) } ∧
       ((s.store.get ch).released = false → t.store = s.store) ∧
       ((s.store.get ch).released = true → (t.store.get ch).released = false ∧
         ∀ b, (t.store.get ch).get b =
           if ((s.store.get ch).get b).isShown then .free else (s.store.get ch).get b))

/-- R67, R77, R123, R124, R129 to R131, R139, R149: an active line starts with the record as it stands. LIVE and HOLD
show the buffer remapped, gained and toned beneath the layers, FALLBACK the field beneath them, START the field alone;
the line joins the signature through the check window, and the hot pixels of a LIVE or HOLD line, judged before the
gain, join the hot counts of their tiles (R97). That the whole line is made at its start is the model's choice
(assumption 9). -/
def Obligations.ActiveLineShowsWhatRecordSays : Prop :=
  ∀ (s : State) (ch : Channel) (r : FrameRecord) (y : Nat), s.held = false → s.lineCanStart ch = true →
    (s.view.get ch).record = some r → y = (s.link.get ch).frame.nextLine →
    ∃ t : State, exec (.activeLineStart ch) s = .next t ∧
      t = { s with
        link := s.link.set ch { s.link.get ch with
          frame := { (s.link.get ch).frame with
            nextLine := y + 1, lineInProgress := some y
            signature := (s.link.get ch).frame.signature.over
              (windowBytes (s.params.get ch).checkWindow (t.outputs.get ch).lineOut y) } }
        glare := s.glare.set ch { s.glare.get ch with hot := (t.glare.get ch).hot }
        outputs := s.outputs.set ch { s.outputs.get ch with lineOut := (t.outputs.get ch).lineOut } } ∧
      (t.outputs.get ch).lineOut.length = (s.params.get ch).dispWidth ∧
      (r.view = .start → (t.outputs.get ch).lineOut =
        List.replicate (s.params.get ch).dispWidth (s.params.get ch).fieldColour ∧
        (t.glare.get ch).hot = (s.glare.get ch).hot) ∧
      (r.view = .fallback → (t.glare.get ch).hot = (s.glare.get ch).hot ∧ ∀ x, x < (s.params.get ch).dispWidth →
        (t.outputs.get ch).lineOut[x]? = some (drawLayers (s.link.get ch).frame.items.overlay r.conditions x y
          (s.params.get ch).fieldColour)) ∧
      (∀ b p, r.view = .live ∨ r.view = .hold → r.buffer = some b → ((s.store.get ch).get b).picture = some p →
        ∀ x, x < (s.params.get ch).dispWidth →
          (t.outputs.get ch).lineOut[x]? = some (drawLayers (s.link.get ch).frame.items.overlay r.conditions x y
            (tonePixel (s.link.get ch).frame.items.knots
              (gainPixel (pixelGain (s.glare.get ch).tiles ((s.params.get ch).dispWidth / 8)
                  ((s.params.get ch).dispHeight / 10) x y)
                (samplePicture p (s.params.get ch).borderColour
                  (sourcePosition (s.link.get ch).frame.items.mesh ((s.params.get ch).dispWidth / 8)
                    ((s.params.get ch).dispHeight / 10) x y)))))) ∧
      (∀ b p, r.view = .live ∨ r.view = .hold → r.buffer = some b → ((s.store.get ch).get b).picture = some p →
        ∀ n count tw th, (s.glare.get ch).hot[n]? = some count → tw = (s.params.get ch).dispWidth / 8 →
          th = (s.params.get ch).dispHeight / 10 →
          (t.glare.get ch).hot[n]? = some (if n / 8 = y / th then
            count + (List.range tw).countP (fun k => decide ((s.params.get ch).hotLevel ≤
              luminance (samplePicture p (s.params.get ch).borderColour
                (sourcePosition (s.link.get ch).frame.items.mesh tw th (n % 8 * tw + k) y)))) else count))

/-- R68, R69, R98, R101, R107, R150: the display frame end pushes the frame's signature, dropping the oldest of 4; the counts
of a frame that shows a buffer become the last counts; a fresh frame updates every tile and evaluates GLARE_SATURATED by the
number of tiles in GLARE and LATENCY by its age, and VIEW_STALE is evaluated as R69 says. That all are judged from the record,
the buffers and the tile map as they stood before the first evaluation is the model's choice (assumption 15). -/
def Obligations.FrameEndPushesAndEvaluates : Prop :=
  ∀ (s : State) (ch : Channel) (r : FrameRecord), s.held = false → s.frameCanEnd ch = true →
    (s.view.get ch).record = some r →
    ∃ (t : State) (updated : List Tile) (inGlare : Nat), exec (.displayFrameEnd ch) s = .next t ∧
      t = { s with
        link := s.link.set ch { s.link.get ch with
          expected := (if 4 ≤ (s.link.get ch).expected.length then (s.link.get ch).expected.drop 1
            else (s.link.get ch).expected) ++ [(r.seq, (s.link.get ch).frame.signature.value)]
          frame := { (s.link.get ch).frame with stage := .ended } }
        glare := s.glare.set ch (t.glare.get ch), view := s.view.set ch (t.view.get ch)
        store := s.store.set ch (t.store.get ch), entries := s.entries.set ch (t.entries.get ch)
        history := t.history, historyCount := t.historyCount } ∧
      updated = (if r.fresh then
        (List.zip (s.glare.get ch).tiles
          (if r.buffer.isSome then (s.glare.get ch).hot else (s.glare.get ch).last)).map
          fun x => x.1.update (s.params.get ch) (s.link.get ch).frame.items.response r.night x.2
        else (s.glare.get ch).tiles) ∧
      ((s.view.get ch).state = .fallback ∨ (t.view.get ch).state ≠ .fallback →
        (t.glare.get ch).tiles = updated ∧
        (t.glare.get ch).last = (if r.buffer.isSome then (s.glare.get ch).hot else (s.glare.get ch).last)) ∧
      ((s.view.get ch).state ≠ .fallback → (t.view.get ch).state = .fallback →
        ∀ x ∈ (t.glare.get ch).tiles, x = Tile.reset) ∧
      inGlare = (updated.filter fun x => x.state == .glare).length ∧
      (r.fresh = true → t.entry ch .glareSaturated =
        ((s.entry ch .glareSaturated).evaluate (s.valuesInForce .glareSaturated)
          (if (s.params.get ch).glareTileLimit ≤ inGlare then some inGlare else none)
          s.counter (s.link.get ch).frameSeq).1) ∧
      (r.fresh = false → t.entry ch .latency = s.entry ch .latency ∧
        t.entry ch .glareSaturated = s.entry ch .glareSaturated) ∧
      (∀ p times, r.fresh = true → (s.store.get ch).shownPicture = some (p, times) →
        t.entry ch .latency = ((s.entry ch .latency).evaluate (s.valuesInForce .latency)
          (if ((s.params.get ch).latencyLimit : Int) < (r.start - p.arrival).toInt
            then some (r.start - p.arrival).toInt.toNat else none)
          s.counter (s.link.get ch).frameSeq).1) ∧
      ((s.store.get ch).hasReady = true → t.entry ch .viewStale =
        ((s.entry ch .viewStale).evaluate (s.valuesInForce .viewStale) none s.counter (s.link.get ch).frameSeq).1) ∧
      (∀ p times, (s.store.get ch).hasReady = false → (s.store.get ch).shownPicture = some (p, times) →
        r.view = .live ∨ r.view = .hold →
        ((s.params.get ch).repeatLimit ≤ times → t.entry ch .viewStale =
          ((s.entry ch .viewStale).evaluate (s.valuesInForce .viewStale) (some times) s.counter
            (s.link.get ch).frameSeq).1) ∧
        (times < (s.params.get ch).repeatLimit → t.entry ch .viewStale = s.entry ch .viewStale)) ∧
      ((s.store.get ch).hasReady = false → r.view = .start ∨ r.view = .fallback →
        t.entry ch .viewStale = s.entry ch .viewStale)

/-- R140, R141, R144, R213: the header cell is 18 bytes with its check, carries its flags, the tiles in GLARE, the
active and latched kinds, the free slots and the answers that follow, fixes their number and clears RX-DISCARD; each
answer cell then sends the oldest answer and frees its slot. -/
def Obligations.AncillaryAreaSendsHeaderThenAnswers : Prop :=
  (∀ (s : State) (ch : Channel) (r : FrameRecord), s.held = false → (s.link.get ch).frame.stage = .ended →
    (s.view.get ch).record = some r → s.slotsHeld ch ≤ 8 →
    ∃ cell : List Byte, exec (.headerCell ch) s = .next { s with
        link := s.link.set ch { s.link.get ch with
          rxDiscard := false
          frame := { (s.link.get ch).frame with stage := .ancillary (min 8 (s.link.get ch).answers.length) false } }
        outputs := s.outputs.set ch { s.outputs.get ch with cellOut := cell } } ∧
      cell.length = 18 ∧ checkPasses cell 18 = true ∧ byteAt cell 0 = 32 ∧ le16 cell 1 = r.seq.toNat ∧
      byteAt cell 3 = r.view.code ∧ byteAt cell 10 = s.historyCount.toNat ∧
      byteAt cell 11 = (s.timing.get ch).tracker.state.code ∧ byteAt cell 12 = 8 - s.slotsHeld ch ∧
      byteAt cell 13 = min 8 (s.link.get ch).answers.length ∧
      (byteAt cell 4).testBit 0 = r.fresh ∧ (byteAt cell 4).testBit 1 = r.night ∧
      ((byteAt cell 4).testBit 2 = true ↔ r.mesh = some .turn) ∧
      ((byteAt cell 4).testBit 3 = true ↔ ∃ k, (s.entry ch k).unacknowledged = true) ∧
      ((byteAt cell 4).testBit 6 = true ↔ (s.timing.get ch).source = .tracked) ∧ (byteAt cell 4).testBit 7 = false ∧
      byteAt cell 5 = ((s.glare.get ch).tiles.filter fun x => x.state == .glare).length % 256 ∧
      (∀ k : FaultKind,
        ((le16 cell 6).testBit (k.number - 1) = true ↔ (s.entry ch k).state = .active ∨ (s.entry ch k).state = .recovering) ∧
        ((le16 cell 8).testBit (k.number - 1) = true ↔ (s.entry ch k).state = .latched)) ∧
      (∀ n, 13 ≤ n → (le16 cell 6).testBit n = false ∧ (le16 cell 8).testBit n = false) ∧
      (byteAt cell 4).testBit 4 = s.faultN ∧ (byteAt cell 4).testBit 5 = (s.link.get ch).rxDiscard) ∧
  (∀ (s : State) (ch : Channel) (n : Nat) (carried : Bool) (a : Answer) (rest : List Answer), s.held = false →
    (s.link.get ch).frame.stage = .ancillary (n + 1) carried → (s.link.get ch).answers = a :: rest →
    exec (.answerCellSent ch) s = .next { s with
      link := s.link.set ch { s.link.get ch with
        answers := rest
        frame := { (s.link.get ch).frame with
          stage := .ancillary n (carried || (a.kind == 15 && a.result == .ok)) } }
      outputs := s.outputs.set ch { s.outputs.get ch with
        cellOut := withCheck ([33, a.tag, a.kind] ++ toLe 1 a.result.code ++ toLe 1 a.payload.length ++ a.payload) } })

/-! ## Pixels and tiles -/

/-- R99, R101, R102, R104, R105: one tile's update: the hot fraction, the move of state and run, the target and one ramp
step. -/
def Obligations.TileMovesByItsTable : Prop :=
  ∀ (t : Tile) (p : ChannelParams) (response : List Nat) (night : Bool) (count q off : Nat) (u : Tile),
    q = min 255 (256 * count / (p.dispWidth / 8 * (p.dispHeight / 10))) → off = min p.glareOff (p.glareOn - 1) →
    u = t.update p response night count →
    u.qLast = q ∧
    (u.state, u.run) =
      (match t.state with
       | .clear =>
         if night = true ∧ p.glareOn ≤ q then (if p.onsetFrames ≤ 1 then (.glare, 0) else (.onset, 1)) else (.clear, 0)
       | .onset =>
         if night = true ∧ p.glareOn ≤ q then
           (if p.onsetFrames ≤ t.run + 1 then (.glare, 0) else (.onset, t.run + 1)) else (.clear, 0)
       | .glare =>
         if night = false ∨ q < off then (if p.releaseFrames ≤ 1 then (.clear, 0) else (.release, 1)) else (.glare, 0)
       | .release =>
         if night = true ∧ p.glareOn ≤ q then (.glare, 0)
         else if p.releaseFrames ≤ t.run + 1 then (.clear, 0) else (.release, t.run + 1)) ∧
    u.target =
      (match u.state with
       | .clear => 256
       | .onset => 256
       | .glare => max p.gainFloor (response.getD (q / 16) 256)
       | .release => t.target) ∧
    (u.target ≤ t.gain → u.gain = max u.target (t.gain - p.attackStep)) ∧
    (t.gain ≤ u.target → u.gain = min u.target (t.gain + p.releaseStep))

/-- R81 to R85, R87, R89, R112 to R114: the stages of a pixel by their formulas, and what they stay between. A source
position is the weighted mean of the cell's four corner points and lies between them; the sample is the weighted mean of
four camera pixels, or the border colour when one lies outside the buffer's frame; the luminance lies between the
components it is formed from; the pixel gain is the weighted mean of four tiles and lies between them; a gained value is
at most the value, and the same at gain 256; a tone output follows the formula of R89 on every curve, and on one that
never falls lies between its two knots. -/
def Obligations.PixelStagesFollowTheirFormulas : Prop :=
  (∀ (mesh : List MeshPoint) (cw ch : Nat), 60 ≤ cw → 64 ≤ ch →
     (∀ i j, i < 8 → j < 10 → sourcePosition mesh cw ch (i * cw) (j * ch) = meshAt mesh i j) ∧
     (∀ (i j u v : Nat) (p00 p10 p01 p11 : MeshPoint), u < cw → v < ch → mesh[9 * j + i]? = some p00 →
       mesh[9 * j + (i + 1)]? = some p10 → mesh[9 * (j + 1) + i]? = some p01 → mesh[9 * (j + 1) + (i + 1)]? = some p11 →
       sourcePosition mesh cw ch (i * cw + u) (j * ch + v) =
         { sx := (((cw : Int) - u) * (ch - v) * p00.sx + u * (ch - v) * p10.sx + (cw - u) * v * p01.sx + u * v * p11.sx +
             (cw * ch / 2 : Nat)) / (cw * ch)
           sy := (((cw : Int) - u) * (ch - v) * p00.sy + u * (ch - v) * p10.sy + (cw - u) * v * p01.sy + u * v * p11.sy +
             (cw * ch / 2 : Nat)) / (cw * ch) }) ∧
     (∀ lo hi x y, (∀ c r, c = x / cw ∨ c = x / cw + 1 → r = y / ch ∨ r = y / ch + 1 →
         lo ≤ (meshAt mesh c r).sx ∧ (meshAt mesh c r).sx ≤ hi) →
       lo ≤ (sourcePosition mesh cw ch x y).sx ∧ (sourcePosition mesh cw ch x y).sx ≤ hi) ∧
     (∀ lo hi x y, (∀ c r, c = x / cw ∨ c = x / cw + 1 → r = y / ch ∨ r = y / ch + 1 →
         lo ≤ (meshAt mesh c r).sy ∧ (meshAt mesh c r).sy ≤ hi) →
       lo ≤ (sourcePosition mesh cw ch x y).sy ∧ (sourcePosition mesh cw ch x y).sy ≤ hi)) ∧
  (∀ (p : Picture) (border : Rgb) (px py : Int) (fx fy : Nat), fx ≤ 15 → fy ≤ 15 →
     (¬(0 ≤ px ∧ px + 1 < p.width ∧ 0 ≤ py ∧ py + 1 < p.height) →
       samplePicture p border ⟨16 * px + fx, 16 * py + fy⟩ = border) ∧
     (∀ (m n : Nat) (upper lower : List Rgb) (a b c d : Rgb) (weigh : Nat → Nat → Nat → Nat → Nat), px = m → py = n →
       m + 1 < p.width → n + 1 < p.height → p.rows[n]? = some upper → p.rows[n + 1]? = some lower → upper[m]? = some a →
       upper[m + 1]? = some b → lower[m]? = some c → lower[m + 1]? = some d →
       weigh = (fun a b c d =>
         (a * ((16 - fx) * (16 - fy)) + b * (fx * (16 - fy)) + c * ((16 - fx) * fy) + d * (fx * fy) + 128) / 256) →
       samplePicture p border ⟨16 * px + fx, 16 * py + fy⟩ =
         ⟨weigh a.r b.r c.r d.r, weigh a.g b.g c.g d.g, weigh a.b b.b c.b d.b⟩)) ∧
  (∀ (p : Rgb) (lo hi : Nat), lo ≤ p.r → lo ≤ p.g → lo ≤ p.b → p.r ≤ hi → p.g ≤ hi → p.b ≤ hi →
     luminance p = (77 * p.r + 150 * p.g + 29 * p.b + 128) / 256 ∧ lo ≤ luminance p ∧ luminance p ≤ hi ∧
     (hi ≤ 4095 → gainPixel 256 p = p)) ∧
  (∀ (tiles : List Tile) (cw ch x y c0 r0 u v : Nat), 60 ≤ cw → 64 ≤ ch → x < 8 * cw → y < 10 * ch →
     u = min (x - cw / 2) (7 * cw) → v = min (y - ch / 2) (9 * ch) → c0 = min 6 (u / cw) → r0 = min 8 (v / ch) →
     tiles.length = 80 →
     (∀ lo hi, (∀ n t, n = 8 * r0 + c0 ∨ n = 8 * r0 + c0 + 1 ∨ n = 8 * (r0 + 1) + c0 ∨ n = 8 * (r0 + 1) + c0 + 1 →
         tiles[n]? = some t → lo ≤ t.gain ∧ t.gain ≤ hi) →
       lo ≤ pixelGain tiles cw ch x y ∧ pixelGain tiles cw ch x y ≤ hi) ∧
     (∀ (g00 g10 g01 g11 : Tile) (fx fy : Nat), tiles[8 * r0 + c0]? = some g00 → tiles[8 * r0 + c0 + 1]? = some g10 →
       tiles[8 * (r0 + 1) + c0]? = some g01 → tiles[8 * (r0 + 1) + c0 + 1]? = some g11 →
       fx = 64 * (u - c0 * cw) / cw → fy = 64 * (v - r0 * ch) / ch → fx ≤ 64 ∧ fy ≤ 64 ∧
       pixelGain tiles cw ch x y = (g00.gain * ((64 - fx) * (64 - fy)) + g10.gain * (fx * (64 - fy)) +
         g01.gain * ((64 - fx) * fy) + g11.gain * (fx * fy) + 2048) / 4096)) ∧
  (∀ gain c, gain ≤ 256 → c ≤ 4095 → gainComponent gain c = (c * gain + 128) / 256 ∧ gainComponent gain c ≤ c) ∧
  (∀ (knots : List Nat) (c : Nat), (toneComponent knots c : Int) = (knots.getD (c / 64) 0 : Int) +
     (((knots.getD (c / 64 + 1) 0 : Int) - (knots.getD (c / 64) 0 : Int)) * (c % 64 : Nat) + 32) / 64) ∧
  (∀ (knots : List Nat) (c : Nat), knots.length = 65 → c ≤ 4095 → (∀ v ∈ knots, v ≤ 255) →
     (∀ i, i < 64 → knots.getD i 0 ≤ knots.getD (i + 1) 0) →
     knots.getD (c / 64) 0 ≤ toneComponent knots c ∧ toneComponent knots c ≤ knots.getD (c / 64 + 1) 0 ∧
     toneComponent knots c ≤ 255 ∧ (c % 64 = 0 → toneComponent knots c = knots.getD (c / 64) 0))

/-- R120 to R125, R148, R149: each bit of a combined component is the combine code's bit chosen by the mask, the pixel
beneath and the colour. The layers are drawn in list order, each over what lies beneath it where its condition is true
and it covers the position, with the foreground where its mask bit, counted from the row's left in whole bytes, is 1 and
the background where it is 0. The signature takes of a line the bytes of its pixels inside the check window, from the
left, R, G, B. -/
def Obligations.LayersCombineInOrderAndAreSigned : Prop :=
  (∀ (code : Byte) (mask : Bool) (a b k : Nat),
    (combineComponent code mask a b).testBit k =
      (decide (k < 8) &&
        code.getLsbD ((if mask then 4 else 0) + (if b.testBit k then 2 else 0) + (if a.testBit k then 1 else 0)))) ∧
  (∀ (pool : List Byte) (conditions : BitVec 16) (x y : Nat) (base : Rgb),
    drawLayers { layers := [], pool := pool } conditions x y base = base ∧
    ∀ (under : List Layer) (l : Layer) (beneath : Rgb),
      beneath = drawLayers { layers := under, pool := pool } conditions x y base →
      (conditions.getLsbD l.condition = false ∨ (x : Int) < l.x ∨ l.x + l.width ≤ x ∨ (y : Int) < l.y ∨ l.y + l.height ≤ y →
        drawLayers { layers := under ++ [l], pool := pool } conditions x y base = beneath) ∧
      (∀ (col row : Nat) (byte : Byte) (m : Bool) (colour : Rgb), conditions.getLsbD l.condition = true →
        (x : Int) = l.x + col → (y : Int) = l.y + row → col < l.width → row < l.height →
        pool[l.offset + row * ((l.width + 7) / 8) + col / 8]? = some byte → m = byte.getLsbD (7 - col % 8) →
        colour = (if m then l.foreground else l.background) →
        drawLayers { layers := under ++ [l], pool := pool } conditions x y base =
          ⟨combineComponent l.code m beneath.r colour.r, combineComponent l.code m beneath.g colour.g,
           combineComponent l.code m beneath.b colour.b⟩)) ∧
  (∀ (w : Window) (line : List Rgb) (y : Nat),
    (y < w.y ∨ w.y + w.h ≤ y → windowBytes w line y = []) ∧
    (w.y ≤ y → y < w.y + w.h → windowBytes w line y = (((line.take (w.x + w.w)).drop w.x).map fun p =>
      [BitVec.ofNat 8 p.r, BitVec.ofNat 8 p.g, BitVec.ofNat 8 p.b]).flatten))

/-! ## Genlock -/

/-- R163 to R165, R167: a reference start at V that meets a frame end E measures e = V − (E + OFFSET), sets the period
with the divisor of its mode and state, and moves the lock runs; a measurement in HOLDOVER is made as ACQUIRE. An empty
one is counted and keeps the clamped period, and the third in ACQUIRE or TRACK enters HOLDOVER, clearing LOCKED and the
source. With LOCKED clear a TRACKED source reverts to INTERNAL and the aligned flag is cleared; else both stand. The
frame in progress keeps its start and period. That HOLDOVER is a step of its own, which its reference start completes,
is the model's choice (assumption 13). -/
def Obligations.ReferenceStartMeasuresOrCounts : Prop :=
  (∀ (s : State) (ch : Channel) (k : Tracker) (p : ChannelParams) (e : Time) (err d : Int) (state : TrackerState),
    s.held = false → s.referenceDue ch = true → k = (s.timing.get ch).tracker → p = s.params.get ch →
    k.frameEnd = some e → err = (s.counter - (e + BitVec.ofNat 32 p.offset)).toInt →
    state = (if k.state = .holdover then .acquire else k.state) →
    d = (match k.bandwidth with
      | .auto => if state = .track then 32 else 4
      | .wide => 4
      | .narrow => 32) →
    ∃ t : State, exec (.referenceStart ch) s = .next t ∧ t = { s with timing := s.timing.set ch (t.timing.get ch) } ∧
      (t.timing.get ch).start = (s.timing.get ch).start ∧ (t.timing.get ch).period = (s.timing.get ch).period ∧
      ((t.timing.get ch).tracker.period : Int) =
        max (p.periodNom - p.spanInUse : Int) (min (p.periodNom + p.spanInUse) (p.periodNom - err.tdiv d)) ∧
      (t.timing.get ch).tracker.nextRef = some (s.counter + BitVec.ofNat 32 (t.timing.get ch).tracker.period) ∧
      (t.timing.get ch).tracker.lastError = some err ∧ (t.timing.get ch).tracker.frameEnd = none ∧
      (t.timing.get ch).tracker.emptyCount = 0 ∧
      ((t.timing.get ch).tracker.state, (t.timing.get ch).tracker.locked, (t.timing.get ch).tracker.lockRun,
          (t.timing.get ch).tracker.unlockRun) =
        (if state = .track then
          (if max p.unlockWindow p.lockWindow < err.natAbs then
            (if 2 ≤ k.unlockRun + 1 then (.acquire, false, 0, 0) else (.track, k.locked, k.lockRun, k.unlockRun + 1))
          else (.track, k.locked, k.lockRun, 0))
        else
          (if err.natAbs ≤ p.lockWindow then
            (if 8 ≤ k.lockRun + 1 then (.track, true, 0, 0) else (.acquire, k.locked, k.lockRun + 1, k.unlockRun))
          else (.acquire, k.locked, 0, k.unlockRun))) ∧
      (t.timing.get ch).tracker.bandwidth = k.bandwidth ∧ (s.timing.get ch).RevertsTo (t.timing.get ch)) ∧
  (∀ (s : State) (ch : Channel) (k : Tracker) (p : ChannelParams), s.held = false → s.referenceDue ch = true →
    k = (s.timing.get ch).tracker → p = s.params.get ch → k.frameEnd = none →
    (∃ t : State, exec (.referenceStart ch) s = .next t ∧ t = { s with timing := s.timing.set ch (t.timing.get ch) } ∧
      ((t.timing.get ch).tracker.period : Int) =
        max (p.periodNom - p.spanInUse : Int) (min (p.periodNom + p.spanInUse) k.period) ∧
      (t.timing.get ch).tracker.nextRef = some (s.counter + BitVec.ofNat 32 (t.timing.get ch).tracker.period) ∧
      (t.timing.get ch).tracker.lastError = k.lastError ∧
      (t.timing.get ch).tracker.emptyCount = min 3 (k.emptyCount + 1) ∧
      (t.timing.get ch).start = (s.timing.get ch).start ∧ (t.timing.get ch).period = (s.timing.get ch).period ∧
      (t.timing.get ch).tracker.frameEnd = none ∧ (t.timing.get ch).tracker.bandwidth = k.bandwidth ∧
      (s.timing.get ch).RevertsTo (t.timing.get ch) ∧
      (k.emptyCount + 1 < 3 ∨ k.state = .holdover → (t.timing.get ch).tracker.state = k.state ∧
        (t.timing.get ch).tracker.locked = k.locked ∧ (t.timing.get ch).tracker.lockRun = k.lockRun ∧
        (t.timing.get ch).tracker.unlockRun = k.unlockRun) ∧
      (3 ≤ k.emptyCount + 1 → k.state = .acquire ∨ k.state = .track →
        (t.timing.get ch).tracker.state = .holdover ∧ (t.timing.get ch).tracker.locked = false ∧
        (t.timing.get ch).tracker.lockRun = 0 ∧ (t.timing.get ch).tracker.unlockRun = 0 ∧
        (t.timing.get ch).source = .internal)) ∧
    (3 ≤ k.emptyCount + 1 → k.state = .acquire ∨ k.state = .track →
      ∃ t : State, exec (.holdover ch) s = .next t ∧ t = { s with timing := s.timing.set ch (t.timing.get ch) } ∧
        (t.timing.get ch).tracker.state = .holdover ∧ (t.timing.get ch).tracker.locked = false ∧
        (t.timing.get ch).tracker.period = k.period ∧ (t.timing.get ch).source = .internal ∧
        (t.timing.get ch).start = (s.timing.get ch).start ∧ (t.timing.get ch).period = (s.timing.get ch).period ∧
        (s.timing.get ch).RevertsTo (t.timing.get ch) ∧
        exec (.referenceStart ch) t = exec (.referenceStart ch) s))

/-- R166, R167, R169, R160: the period and the flags of the frame that begins at a display frame start V, and
GENLOCK_LOST there. INTERNAL takes PERIOD_NOM. TRACKED at a reference start, with the aligned flag set or due to be set,
is one event: the reference start is made and the frame takes its period. TRACKED otherwise steers to the target, Vn or
Vn plus the tracker period, within the bounds. How the flag is carried to the next start, and that a reference start at
V itself is not after V, is the model's reading (assumption 14). -/
def Obligations.DisplayFrameStartChoosesPeriod : Prop :=
  ∀ (s : State) (ch : Channel) (g : LinkTiming), s.held = false → s.startDue ch = true → g = s.timing.get ch →
    ∃ (t : State) (g' : LinkTiming) (p : ChannelParams), exec (.displayFrameStart ch) s = .next t ∧
      g' = t.timing.get ch ∧ p = t.params.get ch ∧ g'.start = some s.counter ∧
      (g.source = .internal →
        g' = { g with start := some s.counter, period := p.periodNom, aligned := false, landing := false }) ∧
      (g.source = .tracked → g.tracker.nextRef = some s.counter → g.aligned = true ∨ g.landing = true →
        g'.tracker = g.tracker.referenceStart p s.counter ∧ g'.period = g'.tracker.period ∧
        g'.tracker.nextRef = some g'.nextStart ∧
        (g'.tracker.locked = true → g'.source = .tracked ∧ g'.aligned = true) ∧
        (g'.tracker.locked = false → g'.source = .internal ∧ g'.aligned = false)) ∧
      (∀ (v : Time) (ahead target : Nat), g.source = .tracked → g.tracker.nextRef = some v →
        ¬(v = s.counter ∧ (g.aligned = true ∨ g.landing = true)) →
        ahead = (if v = s.counter then g.tracker.period else (v - s.counter).toNat) →
        target = (if g.tracker.period ≤ 2 * ahead then ahead else ahead + g.tracker.period) →
        g'.tracker = g.tracker ∧ g'.source = .tracked ∧ g'.aligned = false ∧
        (g'.period : Int) = max (p.periodNom - p.spanInUse : Int) (min (p.periodNom + p.spanInUse) target) ∧
        (g'.landing = true ↔ g'.period = target)) ∧
      (g.tracker.state = .off → t.entry ch .genlockLost = s.entry ch .genlockLost) ∧
      (g.tracker.state ≠ .off → t.entry ch .genlockLost =
        ((s.entry ch .genlockLost).evaluate (s.valuesInForce .genlockLost)
          (if g'.tracker.locked then none else some g'.tracker.state.code) s.counter (s.link.get ch).nextSeq).1)

/-! ## What every step keeps -/

/-- R55: of a channel's three buffers at most one is FILLING, one READY and one SHOWN, and a FILLING one belongs to a frame in
progress. -/
def Obligations.StepKeepsBuffersSingle : Prop :=
  ∀ s t : State, s.BuffersSound → step s = .next t → t.BuffersSound

/-- R61, R182: a view is LIVE only while its mesh is VALID and no entry of the channel drives HOLD or FALLBACK. -/
def Obligations.StepKeepsLiveViewsSound : Prop :=
  ∀ s t : State, s.ViewsSound → step s = .next t → t.ViewsSound

/-- R109: in START and FALLBACK the tile map stays reset and the frame in progress is not fresh. -/
def Obligations.StepKeepsBlankMapsReset : Prop :=
  ∀ s t : State, s.ParamsSound → s.BlankMapsReset → step s = .next t → t.BlankMapsReset

/-- R106: every stored gain and target lies between the GAIN_FLOOR in force and 256. -/
def Obligations.StepKeepsGainsBetweenFloorAndUnity : Prop :=
  ∀ s t : State, s.ParamsSound → s.LoadsBounded → s.GainsSound → step s = .next t → t.GainsSound

/-- R167: a link's source is TRACKED only while its tracker is LOCKED. -/
def Obligations.StepKeepsTrackedSourcesLocked : Prop :=
  ∀ s t : State, s.SourcesSound → step s = .next t → t.SourcesSound

/-- R141, R150: the slots held on a link never exceed 8, given that a queued request carries its own queue's link, which every
step keeps too; and an expected signature queue holds at most 4 entries. -/
def Obligations.StepKeepsSlotsAndSignaturesBounded : Prop :=
  ∀ s t : State, step s = .next t →
    (s.RequestsOwned → t.RequestsOwned ∧ (s.SlotsSound → t.SlotsSound)) ∧ (s.ExpectedSound → t.ExpectedSound)

/-- R16, R27: the verify queue holds each VERIFYING table once, a running verify is at its head, and a scrub step is suspended
exactly while the queue is non-empty. -/
def Obligations.StepKeepsVerifyQueueSound : Prop :=
  ∀ s t : State, s.EngineSound → step s = .next t → t.EngineSound

/-- R33, R17, R31: whenever a channel's mesh is VALID and its record WRITTEN or FIXED, every mesh of the table passes the
envelope check; and no load holds more bytes than declared. -/
def Obligations.StepKeepsMeshesCovered : Prop :=
  ∀ s t : State, s.LoadsBounded → s.MeshesCovered → step s = .next t → t.LoadsBounded ∧ t.MeshesCovered

/-- R30: a FIXED coverage record never changes, and no reset alters any coverage record. -/
def Obligations.FixedCoverageNeverChanges : Prop :=
  (∀ (s t : State) (ch : Channel) (q : Rect), s.coverage.get ch = .fixed q → step s = .next t →
    t.coverage.get ch = .fixed q) ∧
  (∀ (s t : State) (c : Instr), exec c s = .next t → c ≠ .coverageWrite → c ≠ .coverageFix → t.coverage = s.coverage)

/-- R175, R177, R190: the run of an entry never passes 255 and is 0 in INACTIVE, ACTIVE and LATCHED, occurrences stop at
255, and the history holds at most 32 records. -/
def Obligations.StepKeepsFaultEntriesSound : Prop :=
  ∀ s t : State, s.FaultsSound → step s = .next t → t.FaultsSound

/-- R204, R205: every value in force and every pending value lies in its range and on its step, and no
parameter has two pending values. -/
def Obligations.StepKeepsParametersLegal : Prop :=
  ∀ s t : State, s.ParamsSound → step s = .next t → t.ParamsSound
end

