-- ==== Sys2Proof/Laws/State.lean ====
section
/-! SUPPORT. One lemma per field per update of the state, true by `rfl`, so that no proof unfolds a record update; and the
reads and writes of a pair of channels. -/

namespace Sys2Proof.Machine

/-! ## Pairs -/

@[simp] theorem Pair.get_both {α : Type} (x : α) (c : Channel) : (Pair.both x).get c = x := by cases c <;> rfl

@[simp] theorem Pair.get_set {α : Type} (p : Pair α) (c : Channel) (x : α) : (p.set c x).get c = x := by
  cases c <;> rfl

theorem Pair.get_set_other {α : Type} (p : Pair α) {c d : Channel} (x : α) (h : d ≠ c) :
    (p.set c x).get d = p.get d := by
  cases c <;> cases d <;> first | rfl | exact absurd rfl h

theorem Pair.get_set_eq {α : Type} (p : Pair α) (c d : Channel) (x : α) :
    (p.set c x).get d = if d = c then x else p.get d := by
  cases c <;> cases d <;> rfl

@[simp] theorem Pair.set_set {α : Type} (p : Pair α) (c : Channel) (x y : α) : (p.set c x).set c y = p.set c y := by
  cases c <;> rfl

@[simp] theorem Pair.set_get {α : Type} (p : Pair α) (c : Channel) : p.set c (p.get c) = p := by cases c <;> rfl

theorem Pair.ext_get {α : Type} {p q : Pair α} (h : ∀ c, p.get c = q.get c) : p = q := by
  have hl := h .left
  have hr := h .right
  cases p
  cases q
  simp only [Pair.get] at hl hr
  subst hl
  subst hr
  rfl

@[simp] theorem Pair.get_left {α : Type} (p : Pair α) : p.get .left = p.left := rfl
@[simp] theorem Pair.get_right {α : Type} (p : Pair α) : p.get .right = p.right := rfl
@[simp] theorem Pair.set_left {α : Type} (p : Pair α) (x : α) : p.set .left x = ⟨x, p.right⟩ := rfl
@[simp] theorem Pair.set_right {α : Type} (p : Pair α) (x : α) : p.set .right x = ⟨p.left, x⟩ := rfl

/-! ## setReceiver -/

section

variable (s : State) (ch : Channel) (x : Receiver)

@[simp] theorem State.setReceiver_pending : (s.setReceiver ch x).pending = s.pending := rfl
@[simp] theorem State.setReceiver_counter : (s.setReceiver ch x).counter = s.counter := rfl
@[simp] theorem State.setReceiver_lastTick : (s.setReceiver ch x).lastTick = s.lastTick := rfl
@[simp] theorem State.setReceiver_pins : (s.setReceiver ch x).pins = s.pins := rfl
@[simp] theorem State.setReceiver_hold : (s.setReceiver ch x).hold = s.hold := rfl
@[simp] theorem State.setReceiver_tables : (s.setReceiver ch x).tables = s.tables := rfl
@[simp] theorem State.setReceiver_coverage : (s.setReceiver ch x).coverage = s.coverage := rfl
@[simp] theorem State.setReceiver_receiver : (s.setReceiver ch x).receiver = s.receiver.set ch x := rfl
@[simp] theorem State.setReceiver_store : (s.setReceiver ch x).store = s.store := rfl
@[simp] theorem State.setReceiver_view : (s.setReceiver ch x).view = s.view := rfl
@[simp] theorem State.setReceiver_glare : (s.setReceiver ch x).glare = s.glare := rfl
@[simp] theorem State.setReceiver_link : (s.setReceiver ch x).link = s.link := rfl
@[simp] theorem State.setReceiver_timing : (s.setReceiver ch x).timing = s.timing := rfl
@[simp] theorem State.setReceiver_entries : (s.setReceiver ch x).entries = s.entries := rfl
@[simp] theorem State.setReceiver_history : (s.setReceiver ch x).history = s.history := rfl
@[simp] theorem State.setReceiver_historyCount : (s.setReceiver ch x).historyCount = s.historyCount := rfl
@[simp] theorem State.setReceiver_resetRecord : (s.setReceiver ch x).resetRecord = s.resetRecord := rfl
@[simp] theorem State.setReceiver_agent : (s.setReceiver ch x).agent = s.agent := rfl
@[simp] theorem State.setReceiver_params : (s.setReceiver ch x).params = s.params := rfl
@[simp] theorem State.setReceiver_pendingParams : (s.setReceiver ch x).pendingParams = s.pendingParams := rfl
@[simp] theorem State.setReceiver_partParams : (s.setReceiver ch x).partParams = s.partParams := rfl
@[simp] theorem State.setReceiver_outputs : (s.setReceiver ch x).outputs = s.outputs := rfl
@[simp] theorem State.setReceiver_draws : (s.setReceiver ch x).draws = s.draws := rfl
@[simp] theorem State.setReceiver_held : (s.setReceiver ch x).held = s.held := rfl
@[simp] theorem State.setReceiver_table (t : TableId) : (s.setReceiver ch x).table t = s.table t := rfl

end

/-! ## setStore -/

section

variable (s : State) (ch : Channel) (x : FrameStore)

@[simp] theorem State.setStore_pending : (s.setStore ch x).pending = s.pending := rfl
@[simp] theorem State.setStore_counter : (s.setStore ch x).counter = s.counter := rfl
@[simp] theorem State.setStore_lastTick : (s.setStore ch x).lastTick = s.lastTick := rfl
@[simp] theorem State.setStore_pins : (s.setStore ch x).pins = s.pins := rfl
@[simp] theorem State.setStore_hold : (s.setStore ch x).hold = s.hold := rfl
@[simp] theorem State.setStore_tables : (s.setStore ch x).tables = s.tables := rfl
@[simp] theorem State.setStore_coverage : (s.setStore ch x).coverage = s.coverage := rfl
@[simp] theorem State.setStore_receiver : (s.setStore ch x).receiver = s.receiver := rfl
@[simp] theorem State.setStore_store : (s.setStore ch x).store = s.store.set ch x := rfl
@[simp] theorem State.setStore_view : (s.setStore ch x).view = s.view := rfl
@[simp] theorem State.setStore_glare : (s.setStore ch x).glare = s.glare := rfl
@[simp] theorem State.setStore_link : (s.setStore ch x).link = s.link := rfl
@[simp] theorem State.setStore_timing : (s.setStore ch x).timing = s.timing := rfl
@[simp] theorem State.setStore_entries : (s.setStore ch x).entries = s.entries := rfl
@[simp] theorem State.setStore_history : (s.setStore ch x).history = s.history := rfl
@[simp] theorem State.setStore_historyCount : (s.setStore ch x).historyCount = s.historyCount := rfl
@[simp] theorem State.setStore_resetRecord : (s.setStore ch x).resetRecord = s.resetRecord := rfl
@[simp] theorem State.setStore_agent : (s.setStore ch x).agent = s.agent := rfl
@[simp] theorem State.setStore_params : (s.setStore ch x).params = s.params := rfl
@[simp] theorem State.setStore_pendingParams : (s.setStore ch x).pendingParams = s.pendingParams := rfl
@[simp] theorem State.setStore_partParams : (s.setStore ch x).partParams = s.partParams := rfl
@[simp] theorem State.setStore_outputs : (s.setStore ch x).outputs = s.outputs := rfl
@[simp] theorem State.setStore_draws : (s.setStore ch x).draws = s.draws := rfl
@[simp] theorem State.setStore_held : (s.setStore ch x).held = s.held := rfl
@[simp] theorem State.setStore_table (t : TableId) : (s.setStore ch x).table t = s.table t := rfl

end

/-! ## setView -/

section

variable (s : State) (ch : Channel) (x : ViewControl)

@[simp] theorem State.setView_pending : (s.setView ch x).pending = s.pending := rfl
@[simp] theorem State.setView_counter : (s.setView ch x).counter = s.counter := rfl
@[simp] theorem State.setView_lastTick : (s.setView ch x).lastTick = s.lastTick := rfl
@[simp] theorem State.setView_pins : (s.setView ch x).pins = s.pins := rfl
@[simp] theorem State.setView_hold : (s.setView ch x).hold = s.hold := rfl
@[simp] theorem State.setView_tables : (s.setView ch x).tables = s.tables := rfl
@[simp] theorem State.setView_coverage : (s.setView ch x).coverage = s.coverage := rfl
@[simp] theorem State.setView_receiver : (s.setView ch x).receiver = s.receiver := rfl
@[simp] theorem State.setView_store : (s.setView ch x).store = s.store := rfl
@[simp] theorem State.setView_view : (s.setView ch x).view = s.view.set ch x := rfl
@[simp] theorem State.setView_glare : (s.setView ch x).glare = s.glare := rfl
@[simp] theorem State.setView_link : (s.setView ch x).link = s.link := rfl
@[simp] theorem State.setView_timing : (s.setView ch x).timing = s.timing := rfl
@[simp] theorem State.setView_entries : (s.setView ch x).entries = s.entries := rfl
@[simp] theorem State.setView_history : (s.setView ch x).history = s.history := rfl
@[simp] theorem State.setView_historyCount : (s.setView ch x).historyCount = s.historyCount := rfl
@[simp] theorem State.setView_resetRecord : (s.setView ch x).resetRecord = s.resetRecord := rfl
@[simp] theorem State.setView_agent : (s.setView ch x).agent = s.agent := rfl
@[simp] theorem State.setView_params : (s.setView ch x).params = s.params := rfl
@[simp] theorem State.setView_pendingParams : (s.setView ch x).pendingParams = s.pendingParams := rfl
@[simp] theorem State.setView_partParams : (s.setView ch x).partParams = s.partParams := rfl
@[simp] theorem State.setView_outputs : (s.setView ch x).outputs = s.outputs := rfl
@[simp] theorem State.setView_draws : (s.setView ch x).draws = s.draws := rfl
@[simp] theorem State.setView_held : (s.setView ch x).held = s.held := rfl
@[simp] theorem State.setView_table (t : TableId) : (s.setView ch x).table t = s.table t := rfl

end

/-! ## setGlare -/

section

variable (s : State) (ch : Channel) (x : Glare)

@[simp] theorem State.setGlare_pending : (s.setGlare ch x).pending = s.pending := rfl
@[simp] theorem State.setGlare_counter : (s.setGlare ch x).counter = s.counter := rfl
@[simp] theorem State.setGlare_lastTick : (s.setGlare ch x).lastTick = s.lastTick := rfl
@[simp] theorem State.setGlare_pins : (s.setGlare ch x).pins = s.pins := rfl
@[simp] theorem State.setGlare_hold : (s.setGlare ch x).hold = s.hold := rfl
@[simp] theorem State.setGlare_tables : (s.setGlare ch x).tables = s.tables := rfl
@[simp] theorem State.setGlare_coverage : (s.setGlare ch x).coverage = s.coverage := rfl
@[simp] theorem State.setGlare_receiver : (s.setGlare ch x).receiver = s.receiver := rfl
@[simp] theorem State.setGlare_store : (s.setGlare ch x).store = s.store := rfl
@[simp] theorem State.setGlare_view : (s.setGlare ch x).view = s.view := rfl
@[simp] theorem State.setGlare_glare : (s.setGlare ch x).glare = s.glare.set ch x := rfl
@[simp] theorem State.setGlare_link : (s.setGlare ch x).link = s.link := rfl
@[simp] theorem State.setGlare_timing : (s.setGlare ch x).timing = s.timing := rfl
@[simp] theorem State.setGlare_entries : (s.setGlare ch x).entries = s.entries := rfl
@[simp] theorem State.setGlare_history : (s.setGlare ch x).history = s.history := rfl
@[simp] theorem State.setGlare_historyCount : (s.setGlare ch x).historyCount = s.historyCount := rfl
@[simp] theorem State.setGlare_resetRecord : (s.setGlare ch x).resetRecord = s.resetRecord := rfl
@[simp] theorem State.setGlare_agent : (s.setGlare ch x).agent = s.agent := rfl
@[simp] theorem State.setGlare_params : (s.setGlare ch x).params = s.params := rfl
@[simp] theorem State.setGlare_pendingParams : (s.setGlare ch x).pendingParams = s.pendingParams := rfl
@[simp] theorem State.setGlare_partParams : (s.setGlare ch x).partParams = s.partParams := rfl
@[simp] theorem State.setGlare_outputs : (s.setGlare ch x).outputs = s.outputs := rfl
@[simp] theorem State.setGlare_draws : (s.setGlare ch x).draws = s.draws := rfl
@[simp] theorem State.setGlare_held : (s.setGlare ch x).held = s.held := rfl
@[simp] theorem State.setGlare_table (t : TableId) : (s.setGlare ch x).table t = s.table t := rfl

end

/-! ## setLink -/

section

variable (s : State) (ch : Channel) (x : LinkUnit)

@[simp] theorem State.setLink_pending : (s.setLink ch x).pending = s.pending := rfl
@[simp] theorem State.setLink_counter : (s.setLink ch x).counter = s.counter := rfl
@[simp] theorem State.setLink_lastTick : (s.setLink ch x).lastTick = s.lastTick := rfl
@[simp] theorem State.setLink_pins : (s.setLink ch x).pins = s.pins := rfl
@[simp] theorem State.setLink_hold : (s.setLink ch x).hold = s.hold := rfl
@[simp] theorem State.setLink_tables : (s.setLink ch x).tables = s.tables := rfl
@[simp] theorem State.setLink_coverage : (s.setLink ch x).coverage = s.coverage := rfl
@[simp] theorem State.setLink_receiver : (s.setLink ch x).receiver = s.receiver := rfl
@[simp] theorem State.setLink_store : (s.setLink ch x).store = s.store := rfl
@[simp] theorem State.setLink_view : (s.setLink ch x).view = s.view := rfl
@[simp] theorem State.setLink_glare : (s.setLink ch x).glare = s.glare := rfl
@[simp] theorem State.setLink_link : (s.setLink ch x).link = s.link.set ch x := rfl
@[simp] theorem State.setLink_timing : (s.setLink ch x).timing = s.timing := rfl
@[simp] theorem State.setLink_entries : (s.setLink ch x).entries = s.entries := rfl
@[simp] theorem State.setLink_history : (s.setLink ch x).history = s.history := rfl
@[simp] theorem State.setLink_historyCount : (s.setLink ch x).historyCount = s.historyCount := rfl
@[simp] theorem State.setLink_resetRecord : (s.setLink ch x).resetRecord = s.resetRecord := rfl
@[simp] theorem State.setLink_agent : (s.setLink ch x).agent = s.agent := rfl
@[simp] theorem State.setLink_params : (s.setLink ch x).params = s.params := rfl
@[simp] theorem State.setLink_pendingParams : (s.setLink ch x).pendingParams = s.pendingParams := rfl
@[simp] theorem State.setLink_partParams : (s.setLink ch x).partParams = s.partParams := rfl
@[simp] theorem State.setLink_outputs : (s.setLink ch x).outputs = s.outputs := rfl
@[simp] theorem State.setLink_draws : (s.setLink ch x).draws = s.draws := rfl
@[simp] theorem State.setLink_held : (s.setLink ch x).held = s.held := rfl
@[simp] theorem State.setLink_table (t : TableId) : (s.setLink ch x).table t = s.table t := rfl

end

/-! ## setTiming -/

section

variable (s : State) (ch : Channel) (x : LinkTiming)

@[simp] theorem State.setTiming_pending : (s.setTiming ch x).pending = s.pending := rfl
@[simp] theorem State.setTiming_counter : (s.setTiming ch x).counter = s.counter := rfl
@[simp] theorem State.setTiming_lastTick : (s.setTiming ch x).lastTick = s.lastTick := rfl
@[simp] theorem State.setTiming_pins : (s.setTiming ch x).pins = s.pins := rfl
@[simp] theorem State.setTiming_hold : (s.setTiming ch x).hold = s.hold := rfl
@[simp] theorem State.setTiming_tables : (s.setTiming ch x).tables = s.tables := rfl
@[simp] theorem State.setTiming_coverage : (s.setTiming ch x).coverage = s.coverage := rfl
@[simp] theorem State.setTiming_receiver : (s.setTiming ch x).receiver = s.receiver := rfl
@[simp] theorem State.setTiming_store : (s.setTiming ch x).store = s.store := rfl
@[simp] theorem State.setTiming_view : (s.setTiming ch x).view = s.view := rfl
@[simp] theorem State.setTiming_glare : (s.setTiming ch x).glare = s.glare := rfl
@[simp] theorem State.setTiming_link : (s.setTiming ch x).link = s.link := rfl
@[simp] theorem State.setTiming_timing : (s.setTiming ch x).timing = s.timing.set ch x := rfl
@[simp] theorem State.setTiming_entries : (s.setTiming ch x).entries = s.entries := rfl
@[simp] theorem State.setTiming_history : (s.setTiming ch x).history = s.history := rfl
@[simp] theorem State.setTiming_historyCount : (s.setTiming ch x).historyCount = s.historyCount := rfl
@[simp] theorem State.setTiming_resetRecord : (s.setTiming ch x).resetRecord = s.resetRecord := rfl
@[simp] theorem State.setTiming_agent : (s.setTiming ch x).agent = s.agent := rfl
@[simp] theorem State.setTiming_params : (s.setTiming ch x).params = s.params := rfl
@[simp] theorem State.setTiming_pendingParams : (s.setTiming ch x).pendingParams = s.pendingParams := rfl
@[simp] theorem State.setTiming_partParams : (s.setTiming ch x).partParams = s.partParams := rfl
@[simp] theorem State.setTiming_outputs : (s.setTiming ch x).outputs = s.outputs := rfl
@[simp] theorem State.setTiming_draws : (s.setTiming ch x).draws = s.draws := rfl
@[simp] theorem State.setTiming_held : (s.setTiming ch x).held = s.held := rfl
@[simp] theorem State.setTiming_table (t : TableId) : (s.setTiming ch x).table t = s.table t := rfl

end

/-! ## setEntries -/

section

variable (s : State) (ch : Channel) (x : FaultEntries)

@[simp] theorem State.setEntries_pending : (s.setEntries ch x).pending = s.pending := rfl
@[simp] theorem State.setEntries_counter : (s.setEntries ch x).counter = s.counter := rfl
@[simp] theorem State.setEntries_lastTick : (s.setEntries ch x).lastTick = s.lastTick := rfl
@[simp] theorem State.setEntries_pins : (s.setEntries ch x).pins = s.pins := rfl
@[simp] theorem State.setEntries_hold : (s.setEntries ch x).hold = s.hold := rfl
@[simp] theorem State.setEntries_tables : (s.setEntries ch x).tables = s.tables := rfl
@[simp] theorem State.setEntries_coverage : (s.setEntries ch x).coverage = s.coverage := rfl
@[simp] theorem State.setEntries_receiver : (s.setEntries ch x).receiver = s.receiver := rfl
@[simp] theorem State.setEntries_store : (s.setEntries ch x).store = s.store := rfl
@[simp] theorem State.setEntries_view : (s.setEntries ch x).view = s.view := rfl
@[simp] theorem State.setEntries_glare : (s.setEntries ch x).glare = s.glare := rfl
@[simp] theorem State.setEntries_link : (s.setEntries ch x).link = s.link := rfl
@[simp] theorem State.setEntries_timing : (s.setEntries ch x).timing = s.timing := rfl
@[simp] theorem State.setEntries_entries : (s.setEntries ch x).entries = s.entries.set ch x := rfl
@[simp] theorem State.setEntries_history : (s.setEntries ch x).history = s.history := rfl
@[simp] theorem State.setEntries_historyCount : (s.setEntries ch x).historyCount = s.historyCount := rfl
@[simp] theorem State.setEntries_resetRecord : (s.setEntries ch x).resetRecord = s.resetRecord := rfl
@[simp] theorem State.setEntries_agent : (s.setEntries ch x).agent = s.agent := rfl
@[simp] theorem State.setEntries_params : (s.setEntries ch x).params = s.params := rfl
@[simp] theorem State.setEntries_pendingParams : (s.setEntries ch x).pendingParams = s.pendingParams := rfl
@[simp] theorem State.setEntries_partParams : (s.setEntries ch x).partParams = s.partParams := rfl
@[simp] theorem State.setEntries_outputs : (s.setEntries ch x).outputs = s.outputs := rfl
@[simp] theorem State.setEntries_draws : (s.setEntries ch x).draws = s.draws := rfl
@[simp] theorem State.setEntries_held : (s.setEntries ch x).held = s.held := rfl
@[simp] theorem State.setEntries_table (t : TableId) : (s.setEntries ch x).table t = s.table t := rfl

end

/-! ## setCoverage -/

section

variable (s : State) (ch : Channel) (x : Coverage)

@[simp] theorem State.setCoverage_pending : (s.setCoverage ch x).pending = s.pending := rfl
@[simp] theorem State.setCoverage_counter : (s.setCoverage ch x).counter = s.counter := rfl
@[simp] theorem State.setCoverage_lastTick : (s.setCoverage ch x).lastTick = s.lastTick := rfl
@[simp] theorem State.setCoverage_pins : (s.setCoverage ch x).pins = s.pins := rfl
@[simp] theorem State.setCoverage_hold : (s.setCoverage ch x).hold = s.hold := rfl
@[simp] theorem State.setCoverage_tables : (s.setCoverage ch x).tables = s.tables := rfl
@[simp] theorem State.setCoverage_coverage : (s.setCoverage ch x).coverage = s.coverage.set ch x := rfl
@[simp] theorem State.setCoverage_receiver : (s.setCoverage ch x).receiver = s.receiver := rfl
@[simp] theorem State.setCoverage_store : (s.setCoverage ch x).store = s.store := rfl
@[simp] theorem State.setCoverage_view : (s.setCoverage ch x).view = s.view := rfl
@[simp] theorem State.setCoverage_glare : (s.setCoverage ch x).glare = s.glare := rfl
@[simp] theorem State.setCoverage_link : (s.setCoverage ch x).link = s.link := rfl
@[simp] theorem State.setCoverage_timing : (s.setCoverage ch x).timing = s.timing := rfl
@[simp] theorem State.setCoverage_entries : (s.setCoverage ch x).entries = s.entries := rfl
@[simp] theorem State.setCoverage_history : (s.setCoverage ch x).history = s.history := rfl
@[simp] theorem State.setCoverage_historyCount : (s.setCoverage ch x).historyCount = s.historyCount := rfl
@[simp] theorem State.setCoverage_resetRecord : (s.setCoverage ch x).resetRecord = s.resetRecord := rfl
@[simp] theorem State.setCoverage_agent : (s.setCoverage ch x).agent = s.agent := rfl
@[simp] theorem State.setCoverage_params : (s.setCoverage ch x).params = s.params := rfl
@[simp] theorem State.setCoverage_pendingParams : (s.setCoverage ch x).pendingParams = s.pendingParams := rfl
@[simp] theorem State.setCoverage_partParams : (s.setCoverage ch x).partParams = s.partParams := rfl
@[simp] theorem State.setCoverage_outputs : (s.setCoverage ch x).outputs = s.outputs := rfl
@[simp] theorem State.setCoverage_draws : (s.setCoverage ch x).draws = s.draws := rfl
@[simp] theorem State.setCoverage_held : (s.setCoverage ch x).held = s.held := rfl
@[simp] theorem State.setCoverage_table (t : TableId) : (s.setCoverage ch x).table t = s.table t := rfl

end

/-! ## setParams -/

section

variable (s : State) (ch : Channel) (x : ChannelParams)

@[simp] theorem State.setParams_pending : (s.setParams ch x).pending = s.pending := rfl
@[simp] theorem State.setParams_counter : (s.setParams ch x).counter = s.counter := rfl
@[simp] theorem State.setParams_lastTick : (s.setParams ch x).lastTick = s.lastTick := rfl
@[simp] theorem State.setParams_pins : (s.setParams ch x).pins = s.pins := rfl
@[simp] theorem State.setParams_hold : (s.setParams ch x).hold = s.hold := rfl
@[simp] theorem State.setParams_tables : (s.setParams ch x).tables = s.tables := rfl
@[simp] theorem State.setParams_coverage : (s.setParams ch x).coverage = s.coverage := rfl
@[simp] theorem State.setParams_receiver : (s.setParams ch x).receiver = s.receiver := rfl
@[simp] theorem State.setParams_store : (s.setParams ch x).store = s.store := rfl
@[simp] theorem State.setParams_view : (s.setParams ch x).view = s.view := rfl
@[simp] theorem State.setParams_glare : (s.setParams ch x).glare = s.glare := rfl
@[simp] theorem State.setParams_link : (s.setParams ch x).link = s.link := rfl
@[simp] theorem State.setParams_timing : (s.setParams ch x).timing = s.timing := rfl
@[simp] theorem State.setParams_entries : (s.setParams ch x).entries = s.entries := rfl
@[simp] theorem State.setParams_history : (s.setParams ch x).history = s.history := rfl
@[simp] theorem State.setParams_historyCount : (s.setParams ch x).historyCount = s.historyCount := rfl
@[simp] theorem State.setParams_resetRecord : (s.setParams ch x).resetRecord = s.resetRecord := rfl
@[simp] theorem State.setParams_agent : (s.setParams ch x).agent = s.agent := rfl
@[simp] theorem State.setParams_params : (s.setParams ch x).params = s.params.set ch x := rfl
@[simp] theorem State.setParams_pendingParams : (s.setParams ch x).pendingParams = s.pendingParams := rfl
@[simp] theorem State.setParams_partParams : (s.setParams ch x).partParams = s.partParams := rfl
@[simp] theorem State.setParams_outputs : (s.setParams ch x).outputs = s.outputs := rfl
@[simp] theorem State.setParams_draws : (s.setParams ch x).draws = s.draws := rfl
@[simp] theorem State.setParams_held : (s.setParams ch x).held = s.held := rfl
@[simp] theorem State.setParams_table (t : TableId) : (s.setParams ch x).table t = s.table t := rfl

end

/-! ## setPending -/

section

variable (s : State) (ch : Channel) (x : List PendingValue)

@[simp] theorem State.setPending_pending : (s.setPending ch x).pending = s.pending := rfl
@[simp] theorem State.setPending_counter : (s.setPending ch x).counter = s.counter := rfl
@[simp] theorem State.setPending_lastTick : (s.setPending ch x).lastTick = s.lastTick := rfl
@[simp] theorem State.setPending_pins : (s.setPending ch x).pins = s.pins := rfl
@[simp] theorem State.setPending_hold : (s.setPending ch x).hold = s.hold := rfl
@[simp] theorem State.setPending_tables : (s.setPending ch x).tables = s.tables := rfl
@[simp] theorem State.setPending_coverage : (s.setPending ch x).coverage = s.coverage := rfl
@[simp] theorem State.setPending_receiver : (s.setPending ch x).receiver = s.receiver := rfl
@[simp] theorem State.setPending_store : (s.setPending ch x).store = s.store := rfl
@[simp] theorem State.setPending_view : (s.setPending ch x).view = s.view := rfl
@[simp] theorem State.setPending_glare : (s.setPending ch x).glare = s.glare := rfl
@[simp] theorem State.setPending_link : (s.setPending ch x).link = s.link := rfl
@[simp] theorem State.setPending_timing : (s.setPending ch x).timing = s.timing := rfl
@[simp] theorem State.setPending_entries : (s.setPending ch x).entries = s.entries := rfl
@[simp] theorem State.setPending_history : (s.setPending ch x).history = s.history := rfl
@[simp] theorem State.setPending_historyCount : (s.setPending ch x).historyCount = s.historyCount := rfl
@[simp] theorem State.setPending_resetRecord : (s.setPending ch x).resetRecord = s.resetRecord := rfl
@[simp] theorem State.setPending_agent : (s.setPending ch x).agent = s.agent := rfl
@[simp] theorem State.setPending_params : (s.setPending ch x).params = s.params := rfl
@[simp] theorem State.setPending_pendingParams : (s.setPending ch x).pendingParams = s.pendingParams.set ch x := rfl
@[simp] theorem State.setPending_partParams : (s.setPending ch x).partParams = s.partParams := rfl
@[simp] theorem State.setPending_outputs : (s.setPending ch x).outputs = s.outputs := rfl
@[simp] theorem State.setPending_draws : (s.setPending ch x).draws = s.draws := rfl
@[simp] theorem State.setPending_held : (s.setPending ch x).held = s.held := rfl
@[simp] theorem State.setPending_table (t : TableId) : (s.setPending ch x).table t = s.table t := rfl

end

/-! ## setOutputs -/

section

variable (s : State) (ch : Channel) (x : Outputs)

@[simp] theorem State.setOutputs_pending : (s.setOutputs ch x).pending = s.pending := rfl
@[simp] theorem State.setOutputs_counter : (s.setOutputs ch x).counter = s.counter := rfl
@[simp] theorem State.setOutputs_lastTick : (s.setOutputs ch x).lastTick = s.lastTick := rfl
@[simp] theorem State.setOutputs_pins : (s.setOutputs ch x).pins = s.pins := rfl
@[simp] theorem State.setOutputs_hold : (s.setOutputs ch x).hold = s.hold := rfl
@[simp] theorem State.setOutputs_tables : (s.setOutputs ch x).tables = s.tables := rfl
@[simp] theorem State.setOutputs_coverage : (s.setOutputs ch x).coverage = s.coverage := rfl
@[simp] theorem State.setOutputs_receiver : (s.setOutputs ch x).receiver = s.receiver := rfl
@[simp] theorem State.setOutputs_store : (s.setOutputs ch x).store = s.store := rfl
@[simp] theorem State.setOutputs_view : (s.setOutputs ch x).view = s.view := rfl
@[simp] theorem State.setOutputs_glare : (s.setOutputs ch x).glare = s.glare := rfl
@[simp] theorem State.setOutputs_link : (s.setOutputs ch x).link = s.link := rfl
@[simp] theorem State.setOutputs_timing : (s.setOutputs ch x).timing = s.timing := rfl
@[simp] theorem State.setOutputs_entries : (s.setOutputs ch x).entries = s.entries := rfl
@[simp] theorem State.setOutputs_history : (s.setOutputs ch x).history = s.history := rfl
@[simp] theorem State.setOutputs_historyCount : (s.setOutputs ch x).historyCount = s.historyCount := rfl
@[simp] theorem State.setOutputs_resetRecord : (s.setOutputs ch x).resetRecord = s.resetRecord := rfl
@[simp] theorem State.setOutputs_agent : (s.setOutputs ch x).agent = s.agent := rfl
@[simp] theorem State.setOutputs_params : (s.setOutputs ch x).params = s.params := rfl
@[simp] theorem State.setOutputs_pendingParams : (s.setOutputs ch x).pendingParams = s.pendingParams := rfl
@[simp] theorem State.setOutputs_partParams : (s.setOutputs ch x).partParams = s.partParams := rfl
@[simp] theorem State.setOutputs_outputs : (s.setOutputs ch x).outputs = s.outputs.set ch x := rfl
@[simp] theorem State.setOutputs_draws : (s.setOutputs ch x).draws = s.draws := rfl
@[simp] theorem State.setOutputs_held : (s.setOutputs ch x).held = s.held := rfl
@[simp] theorem State.setOutputs_table (t : TableId) : (s.setOutputs ch x).table t = s.table t := rfl

end

/-! ## setTables -/

section

variable (s : State) (x : TableStore)

@[simp] theorem State.setTables_pending : (s.setTables x).pending = s.pending := rfl
@[simp] theorem State.setTables_counter : (s.setTables x).counter = s.counter := rfl
@[simp] theorem State.setTables_lastTick : (s.setTables x).lastTick = s.lastTick := rfl
@[simp] theorem State.setTables_pins : (s.setTables x).pins = s.pins := rfl
@[simp] theorem State.setTables_hold : (s.setTables x).hold = s.hold := rfl
@[simp] theorem State.setTables_tables : (s.setTables x).tables = x := rfl
@[simp] theorem State.setTables_coverage : (s.setTables x).coverage = s.coverage := rfl
@[simp] theorem State.setTables_receiver : (s.setTables x).receiver = s.receiver := rfl
@[simp] theorem State.setTables_store : (s.setTables x).store = s.store := rfl
@[simp] theorem State.setTables_view : (s.setTables x).view = s.view := rfl
@[simp] theorem State.setTables_glare : (s.setTables x).glare = s.glare := rfl
@[simp] theorem State.setTables_link : (s.setTables x).link = s.link := rfl
@[simp] theorem State.setTables_timing : (s.setTables x).timing = s.timing := rfl
@[simp] theorem State.setTables_entries : (s.setTables x).entries = s.entries := rfl
@[simp] theorem State.setTables_history : (s.setTables x).history = s.history := rfl
@[simp] theorem State.setTables_historyCount : (s.setTables x).historyCount = s.historyCount := rfl
@[simp] theorem State.setTables_resetRecord : (s.setTables x).resetRecord = s.resetRecord := rfl
@[simp] theorem State.setTables_agent : (s.setTables x).agent = s.agent := rfl
@[simp] theorem State.setTables_params : (s.setTables x).params = s.params := rfl
@[simp] theorem State.setTables_pendingParams : (s.setTables x).pendingParams = s.pendingParams := rfl
@[simp] theorem State.setTables_partParams : (s.setTables x).partParams = s.partParams := rfl
@[simp] theorem State.setTables_outputs : (s.setTables x).outputs = s.outputs := rfl
@[simp] theorem State.setTables_draws : (s.setTables x).draws = s.draws := rfl
@[simp] theorem State.setTables_held : (s.setTables x).held = s.held := rfl

end

/-! ## setAgent -/

section

variable (s : State) (x : Agent)

@[simp] theorem State.setAgent_pending : (s.setAgent x).pending = s.pending := rfl
@[simp] theorem State.setAgent_counter : (s.setAgent x).counter = s.counter := rfl
@[simp] theorem State.setAgent_lastTick : (s.setAgent x).lastTick = s.lastTick := rfl
@[simp] theorem State.setAgent_pins : (s.setAgent x).pins = s.pins := rfl
@[simp] theorem State.setAgent_hold : (s.setAgent x).hold = s.hold := rfl
@[simp] theorem State.setAgent_tables : (s.setAgent x).tables = s.tables := rfl
@[simp] theorem State.setAgent_coverage : (s.setAgent x).coverage = s.coverage := rfl
@[simp] theorem State.setAgent_receiver : (s.setAgent x).receiver = s.receiver := rfl
@[simp] theorem State.setAgent_store : (s.setAgent x).store = s.store := rfl
@[simp] theorem State.setAgent_view : (s.setAgent x).view = s.view := rfl
@[simp] theorem State.setAgent_glare : (s.setAgent x).glare = s.glare := rfl
@[simp] theorem State.setAgent_link : (s.setAgent x).link = s.link := rfl
@[simp] theorem State.setAgent_timing : (s.setAgent x).timing = s.timing := rfl
@[simp] theorem State.setAgent_entries : (s.setAgent x).entries = s.entries := rfl
@[simp] theorem State.setAgent_history : (s.setAgent x).history = s.history := rfl
@[simp] theorem State.setAgent_historyCount : (s.setAgent x).historyCount = s.historyCount := rfl
@[simp] theorem State.setAgent_resetRecord : (s.setAgent x).resetRecord = s.resetRecord := rfl
@[simp] theorem State.setAgent_agent : (s.setAgent x).agent = x := rfl
@[simp] theorem State.setAgent_params : (s.setAgent x).params = s.params := rfl
@[simp] theorem State.setAgent_pendingParams : (s.setAgent x).pendingParams = s.pendingParams := rfl
@[simp] theorem State.setAgent_partParams : (s.setAgent x).partParams = s.partParams := rfl
@[simp] theorem State.setAgent_outputs : (s.setAgent x).outputs = s.outputs := rfl
@[simp] theorem State.setAgent_draws : (s.setAgent x).draws = s.draws := rfl
@[simp] theorem State.setAgent_held : (s.setAgent x).held = s.held := rfl
@[simp] theorem State.setAgent_table (t : TableId) : (s.setAgent x).table t = s.table t := rfl

end

end Sys2Proof.Machine
end

