-- ==== Sys2Proof/Laws/Frames.lean ====
section
/-! SUPPORT. What each shared operation of the fault supervisor, the view controller, the swaps and the camera receiver can
change: one frame per operation, cited in place of unfolding it. -/

namespace Sys2Proof.Machine

/-! ## The shape of a frame -/

/-- From `s` to `t` only what an evaluation for a channel may change has changed: the channel's entries, view, buffers and
tile map, and the fault history. -/
structure State.EvalFrame (ch : Channel) (s t : State) : Prop where
  frame : t = { s with
    entries := t.entries, history := t.history, historyCount := t.historyCount, view := t.view, store := t.store
    glare := t.glare }
  other : ∀ c, c ≠ ch →
    t.entries.get c = s.entries.get c ∧ t.view.get c = s.view.get c ∧ t.store.get c = s.store.get c ∧
      t.glare.get c = s.glare.get c

/-- From `s` to `t` only what a boundary of a channel may change has changed: what an evaluation may change, the tables, the
channel's values in force and its pending values. -/
structure State.SwapFrame (ch : Channel) (s t : State) : Prop where
  frame : t = { s with
    entries := t.entries, history := t.history, historyCount := t.historyCount, view := t.view, store := t.store
    glare := t.glare, tables := t.tables, params := t.params, pendingParams := t.pendingParams }
  other : ∀ c, c ≠ ch →
    t.entries.get c = s.entries.get c ∧ t.view.get c = s.view.get c ∧ t.store.get c = s.store.get c ∧
      t.glare.get c = s.glare.get c ∧ t.params.get c = s.params.get c ∧ t.pendingParams.get c = s.pendingParams.get c

theorem State.EvalFrame.refl (ch : Channel) (s : State) : State.EvalFrame ch s s :=
  ⟨rfl, fun _ _ => ⟨rfl, rfl, rfl, rfl⟩⟩

theorem State.EvalFrame.trans {ch : Channel} {s t u : State} (h : State.EvalFrame ch s t) (k : State.EvalFrame ch t u) :
    State.EvalFrame ch s u := by
  obtain ⟨hf, ho⟩ := h
  obtain ⟨kf, ko⟩ := k
  refine ⟨by rw [kf, hf], fun c hc => ?_⟩
  obtain ⟨a1, a2, a3, a4⟩ := ho c hc
  obtain ⟨b1, b2, b3, b4⟩ := ko c hc
  exact ⟨b1.trans a1, b2.trans a2, b3.trans a3, b4.trans a4⟩

theorem State.SwapFrame.refl (ch : Channel) (s : State) : State.SwapFrame ch s s :=
  ⟨rfl, fun _ _ => ⟨rfl, rfl, rfl, rfl, rfl, rfl⟩⟩

theorem State.SwapFrame.trans {ch : Channel} {s t u : State} (h : State.SwapFrame ch s t) (k : State.SwapFrame ch t u) :
    State.SwapFrame ch s u := by
  obtain ⟨hf, ho⟩ := h
  obtain ⟨kf, ko⟩ := k
  refine ⟨by rw [kf, hf], fun c hc => ?_⟩
  obtain ⟨a1, a2, a3, a4, a5, a6⟩ := ho c hc
  obtain ⟨b1, b2, b3, b4, b5, b6⟩ := ko c hc
  exact ⟨b1.trans a1, b2.trans a2, b3.trans a3, b4.trans a4, b5.trans a5, b6.trans a6⟩

theorem State.EvalFrame.toSwap {ch : Channel} {s t : State} (h : State.EvalFrame ch s t) : State.SwapFrame ch s t := by
  obtain ⟨hf, ho⟩ := h
  refine ⟨by rw [hf], fun c hc => ?_⟩
  obtain ⟨a1, a2, a3, a4⟩ := ho c hc
  exact ⟨a1, a2, a3, a4, by rw [hf], by rw [hf]⟩

section

variable {ch : Channel} {s t : State} (h : State.EvalFrame ch s t)
include h

theorem State.EvalFrame.tables : t.tables = s.tables := (congrArg State.tables h.frame :)
theorem State.EvalFrame.params : t.params = s.params := (congrArg State.params h.frame :)
theorem State.EvalFrame.pendingParams : t.pendingParams = s.pendingParams := (congrArg State.pendingParams h.frame :)
theorem State.EvalFrame.receiver : t.receiver = s.receiver := (congrArg State.receiver h.frame :)
theorem State.EvalFrame.link : t.link = s.link := (congrArg State.link h.frame :)
theorem State.EvalFrame.timing : t.timing = s.timing := (congrArg State.timing h.frame :)
theorem State.EvalFrame.coverage : t.coverage = s.coverage := (congrArg State.coverage h.frame :)
theorem State.EvalFrame.agent : t.agent = s.agent := (congrArg State.agent h.frame :)
theorem State.EvalFrame.counter : t.counter = s.counter := (congrArg State.counter h.frame :)
theorem State.EvalFrame.hold : t.hold = s.hold := (congrArg State.hold h.frame :)
theorem State.EvalFrame.pins : t.pins = s.pins := (congrArg State.pins h.frame :)
theorem State.EvalFrame.table (x : TableId) : t.table x = s.table x := by
  rw [State.table, State.table, h.tables]

end

section

variable {ch : Channel} {s t : State} (h : State.SwapFrame ch s t)
include h

theorem State.SwapFrame.receiver : t.receiver = s.receiver := (congrArg State.receiver h.frame :)
theorem State.SwapFrame.link : t.link = s.link := (congrArg State.link h.frame :)
theorem State.SwapFrame.timing : t.timing = s.timing := (congrArg State.timing h.frame :)
theorem State.SwapFrame.coverage : t.coverage = s.coverage := (congrArg State.coverage h.frame :)
theorem State.SwapFrame.agent : t.agent = s.agent := (congrArg State.agent h.frame :)
theorem State.SwapFrame.counter : t.counter = s.counter := (congrArg State.counter h.frame :)
theorem State.SwapFrame.hold : t.hold = s.hold := (congrArg State.hold h.frame :)
theorem State.SwapFrame.pins : t.pins = s.pins := (congrArg State.pins h.frame :)

end

/-! ## The view controller -/

theorem State.setView_evalFrame (s : State) (ch : Channel) (x : ViewControl) : State.EvalFrame ch s (s.setView ch x) :=
  ⟨rfl, fun _ hc => ⟨rfl, Pair.get_set_other _ _ hc, rfl, rfl⟩⟩

theorem State.setStore_evalFrame (s : State) (ch : Channel) (x : FrameStore) : State.EvalFrame ch s (s.setStore ch x) :=
  ⟨rfl, fun _ hc => ⟨rfl, rfl, Pair.get_set_other _ _ hc, rfl⟩⟩

theorem State.setGlare_evalFrame (s : State) (ch : Channel) (x : Glare) : State.EvalFrame ch s (s.setGlare ch x) :=
  ⟨rfl, fun _ hc => ⟨rfl, rfl, rfl, Pair.get_set_other _ _ hc⟩⟩

theorem State.setEntries_evalFrame (s : State) (ch : Channel) (x : FaultEntries) :
    State.EvalFrame ch s (s.setEntries ch x) :=
  ⟨rfl, fun _ hc => ⟨Pair.get_set_other _ _ hc, rfl, rfl, rfl⟩⟩

theorem State.amendRecord_evalFrame (s : State) (ch : Channel) (v : ViewState) :
    State.EvalFrame ch s (s.amendRecord ch v) := by
  rw [State.amendRecord]
  split
  · exact .refl ch s
  · exact s.setView_evalFrame ch _

/-- R65: what entering FALLBACK may change. -/
theorem State.enterFallback_evalFrame (s : State) (ch : Channel) : State.EvalFrame ch s (s.enterFallback ch) :=
  (((s.setStore_evalFrame ch _).trans ((s.releaseShown ch).setView_evalFrame ch _)).trans
    (State.setGlare_evalFrame _ ch _)).trans (State.amendRecord_evalFrame _ ch _)

theorem State.onDriveFallback_evalFrame (s : State) (ch : Channel) : State.EvalFrame ch s (s.onDriveFallback ch) := by
  rw [State.onDriveFallback]
  split
  · exact .refl ch s
  · exact s.enterFallback_evalFrame ch

theorem State.onDriveHold_evalFrame (s : State) (ch : Channel) : State.EvalFrame ch s (s.onDriveHold ch) := by
  rw [State.onDriveHold]
  split
  · exact s.setView_evalFrame ch _
  · exact .refl ch s

theorem State.onMeshLost_evalFrame (s : State) (ch : Channel) : State.EvalFrame ch s (s.onMeshLost ch) := by
  rw [State.onMeshLost]
  split
  · exact s.enterFallback_evalFrame ch
  · exact .refl ch s

/-! ## The fault supervisor -/

theorem State.tellView_evalFrame (s : State) (ch : Channel) (a : Option Action) :
    State.EvalFrame ch s (s.tellView ch a) := by
  simp only [State.tellView]
  split
  · exact s.onDriveHold_evalFrame ch
  · exact s.onDriveFallback_evalFrame ch
  · exact .refl ch s
  · exact .refl ch s

theorem State.writeHistory_evalFrame (s : State) (ch : Channel) (r : HistoryRecord) :
    State.EvalFrame ch s (s.writeHistory r) := ⟨rfl, fun _ _ => ⟨rfl, rfl, rfl, rfl⟩⟩

/-- R172, R176 to R182: what an evaluation may change. -/
theorem State.evaluate_evalFrame (s : State) (ch : Channel) (k : FaultKind) (outcome : Option Nat) :
    State.EvalFrame ch s (s.evaluate ch k outcome) := by
  simp only [State.evaluate]
  split
  · exact ((s.setEntries_evalFrame ch _).trans (State.writeHistory_evalFrame _ ch _)).trans
      (State.tellView_evalFrame _ ch _)
  · exact (s.setEntries_evalFrame ch _).trans (State.tellView_evalFrame _ ch _)

/-! ## Boundaries -/

theorem State.setTables_swapFrame (s : State) (ch : Channel) (x : TableStore) : State.SwapFrame ch s (s.setTables x) :=
  ⟨rfl, fun _ _ => ⟨rfl, rfl, rfl, rfl, rfl, rfl⟩⟩

theorem State.applyPending_swapFrame (s : State) (ch : Channel) (cls : ParamClass) :
    State.SwapFrame ch s (s.applyPending ch cls) :=
  ⟨rfl, fun _ hc => ⟨rfl, rfl, rfl, rfl, Pair.get_set_other _ _ hc, Pair.get_set_other _ _ hc⟩⟩

/-- R20: what a swap of a table of one channel may change. -/
theorem State.swapIn_swapFrame (s : State) (ch : Channel) (t : TableId) (load : Load) (supplied : Check)
    (ht : t.channels = [ch]) : State.SwapFrame ch s (s.swapIn t load supplied) := by
  simp only [State.swapIn, State.evaluateTableCorruptFor, ht, List.foldl_cons, List.foldl_nil]
  split
  · exact ((State.setTables_swapFrame _ ch _).trans (State.setTables_swapFrame _ ch _)).trans
      (State.evaluate_evalFrame _ ch _ _).toSwap
  · exact (State.setTables_swapFrame _ ch _).trans (State.setTables_swapFrame _ ch _)

theorem State.swapIfWaiting_swapFrame (s : State) (ch : Channel) (t : TableId) (ht : t.channels = [ch]) :
    State.SwapFrame ch s (s.swapIfWaiting t) := by
  rw [State.swapIfWaiting]
  split
  · exact s.swapIn_swapFrame ch t _ _ ht
  · exact .refl ch s

/-- R44: what a camera-side boundary may change. -/
theorem State.cameraBoundary_swapFrame (s : State) (ch : Channel) : State.SwapFrame ch s (s.cameraBoundary ch) :=
  ((s.applyPending_swapFrame ch .camera).trans (State.swapIfWaiting_swapFrame _ ch _ rfl)).trans
    (State.swapIfWaiting_swapFrame _ ch _ rfl)

theorem State.cameraBoundaryIfIdle_swapFrame (s : State) (ch : Channel) :
    State.SwapFrame ch s (s.cameraBoundaryIfIdle ch) := by
  rw [State.cameraBoundaryIfIdle]
  split
  · exact .refl ch s
  · exact s.cameraBoundary_swapFrame ch

/-- R19, R205: what a display-side boundary may change. -/
theorem State.displayBoundary_swapFrame (s : State) (ch : Channel) : State.SwapFrame ch s (s.displayBoundary ch) := by
  simp only [State.displayBoundary]
  have base := (((((s.swapIfWaiting_swapFrame ch (.warpMesh ch) rfl).trans
    (State.swapIfWaiting_swapFrame _ ch (.toneCurves ch) rfl)).trans
    (State.swapIfWaiting_swapFrame _ ch (.glareResponse ch) rfl)).trans
    (State.swapIfWaiting_swapFrame _ ch (.overlaySet ch) rfl)).trans
    (State.applyPending_swapFrame _ ch .display))
  split <;> split
  · exact base
  · exact base.trans (State.setGlare_evalFrame _ ch _).toSwap
  · exact base.trans (State.setGlare_evalFrame _ ch _).toSwap
  · exact (base.trans (State.setGlare_evalFrame _ ch _).toSwap).trans (State.setGlare_evalFrame _ ch _).toSwap

end Sys2Proof.Machine
end

