-- ==== Sys2Proof/Laws/Steps.lean ====
section
/-! SUPPORT. The induction over the commands, made once: a promise that each effect of the part keeps is kept by every
command and by every step. -/

namespace Sys2Proof.Machine

/-! ## What a command can answer -/

theorem whenRunning_next {s t : State} {f : State → State} (h : whenRunning s f = .next t) :
    (s.held = true ∧ t = s) ∨ (s.held = false ∧ t = f s) := by
  simp only [whenRunning, Host.Outcome.next.injEq] at h
  split at h
  · exact .inl ⟨‹_›, h.symm⟩
  · exact .inr ⟨Bool.eq_false_of_not_eq_true ‹_›, h.symm⟩

theorem whenExecuting_next {s t : State} {row : Request → Bool} {f : State → Request → State}
    (h : whenExecuting s row f = .next t) :
    t = s ∨ ∃ r, s.Executes r ∧ row r = true ∧ t = f s r := by
  rcases whenRunning_next h with ⟨-, ht⟩ | ⟨hs, ht⟩
  · exact .inl ht
  · split at ht
    · rename_i r hr
      split at ht
      · exact .inr ⟨r, ⟨hs, hr⟩, ‹_›, ht⟩
      · exact .inl ht
    · exact .inl ht

/-- A running part that executes a request of a command's row takes the command's effect. -/
theorem whenExecuting_eq {s : State} {r : Request} {row : Request → Bool} {f : State → Request → State}
    (hs : s.Executes r) (hr : row r = true) : whenExecuting s row f = .next (f s r) := by
  obtain ⟨h, hx⟩ := hs
  simp [whenExecuting, whenRunning, h, hx, hr]

/-- R199: finishing a request answers it and frees the agent. -/
theorem State.finish_eq_answered (s : State) (r : Request) (result : Result) (payload : List Byte) :
    s.finish r result payload = s.answered r result payload := rfl

theorem State.refuse_eq_answered (s : State) (r : Request) (result : Result) :
    s.refuse r result = s.answered r result [] := rfl

/-! ## Effects that leave the agent as it is -/

theorem State.leaveQueue_agent (s : State) (t : TableId) : (s.leaveQueue t).agent = s.agent := by
  simp only [State.leaveQueue]
  split <;> rfl

theorem State.setTickSchedule_agent (s : State) (x : PartParams) : (s.setTickSchedule x).agent = s.agent := by
  rw [State.setTickSchedule]
  split <;> rfl

theorem State.stageValue_agent (s : State) (ch : Channel) (p : Param) (v : List Nat) :
    (s.stageValue ch p v).agent = s.agent := by
  rw [State.stageValue]
  split
  · cases p <;> first | rfl | exact s.setTickSchedule_agent _
  · exact (State.cameraBoundaryIfIdle_swapFrame _ ch).agent
  · rfl

theorem State.endPass_agent (s : State) (ch : Channel) (x : Result) (p : List Byte) :
    (s.endPass ch x p).agent = s.agent := by
  rw [State.endPass]
  split <;> rfl

theorem State.restart_agent (s : State) (ch : Channel) : (s.restart ch).agent = s.agent := by
  simp only [State.restart]
  refine (State.amendRecord_evalFrame _ ch .start).agent.trans ?_
  rw [State.setTiming_agent, State.endPass_agent, State.setLink_agent, State.setEntries_agent, State.mapReset,
    State.setGlare_agent, State.setViewState, State.setView_agent, State.releaseShown, State.setStore_agent,
    State.setStore_agent, State.restartReceiver]
  exact (State.cameraBoundary_swapFrame _ ch).agent.trans rfl

/-! ## The induction -/

/-- Each effect of a running part keeps a promise: every effect of a command but those of the reset conditions (R207). -/
structure State.Worked (Inv : State → Prop) : Prop where
  frameStart : ∀ s ch, Inv s → Inv (s.takeFrameStart ch)
  embedded : ∀ s ch f, Inv s → Inv (s.takeEmbedded ch f)
  line : ∀ s ch f, Inv s → Inv (s.takeLine ch f)
  frameEnd : ∀ s ch f, Inv s → Inv (s.takeFrameEnd ch f)
  endPass : ∀ s ch x p, Inv s → Inv (s.endPass ch x p)
  status : ∀ s ch lux f, Inv s → Inv (s.takeStatus ch lux f)
  signature : ∀ s ch q v, Inv s → Inv (s.takeSignature ch q v)
  accept : ∀ s r, Inv s → Inv (s.acceptRequest r)
  discard : ∀ s ch, Inv s → Inv (s.discardCell ch)
  serve : ∀ s ch, Inv s → s.agent.executing = none → Inv (s.serve ch)
  finish : ∀ s r x p, Inv s → s.agent.executing = some r → Inv (s.finish r x p)
  stage : ∀ s (r : Request) ch p, Inv s → s.agent.executing = some r → p.badCode (p.read r.payload) = false →
    Inv (s.stageValue ch p (p.taken (p.read r.payload)))
  setStaged : ∀ s r t, Inv s → s.agent.executing = some r → (s.table t).staged = .idle →
    Inv (s.setStaged t (.loading { declared := le16 r.payload 0, owner := r.link, bytes := [] }))
  loadData : ∀ s r t load, Inv s → s.agent.executing = some r → (s.table t).staged = .loading load →
    load.bytes.length + (r.payload.drop 2).length ≤ load.declared →
    Inv (s.setStaged t (.loading { load with bytes := load.bytes ++ r.payload.drop 2 }))
  commit : ∀ s r t load, Inv s → s.agent.executing = some r → (s.table t).staged = .loading load →
    load.owner = r.link → Inv (s.commit r t load)
  abandonVerify : ∀ s t load supplied tag, Inv s → (s.table t).staged = .verifying load supplied tag →
    Inv (((s.answerCommit load tag .aborted []).setStaged t .idle).leaveQueue t)
  abandon : ∀ s t, Inv s → (s.table t).staged.isVerifying = false → Inv (s.setStaged t .idle)
  lock : ∀ s t l, Inv s → Inv (s.setTable t { s.table t with lock := l })
  acknowledge : ∀ s, Inv s → Inv ((s.setEntries .left (s.entries.left.map FaultEntry.acknowledge)).setEntries .right
    (s.entries.right.map FaultEntry.acknowledge))
  clear : ∀ s ch, Inv s → Inv (s.clearChannel ch)
  restart : ∀ s ch, Inv s → Inv (s.restart ch)
  trackerOff : ∀ s ch, Inv s → (s.timing.get ch).source = .internal →
    Inv (s.setTiming ch (s.timing.get ch).trackerOff)
  trackerOn : ∀ s ch, Inv s → Inv (s.setTiming ch ((s.timing.get ch).trackerOn (s.params.get ch)))
  bandwidth : ∀ s ch m, Inv s → Inv (s.setTiming ch { s.timing.get ch with
    tracker := { (s.timing.get ch).tracker with bandwidth := m } })
  selectTracked : ∀ s ch, Inv s → (s.timing.get ch).tracker.locked = true →
    Inv (s.setTiming ch (s.timing.get ch).selectTracked)
  selectInternal : ∀ s ch, Inv s → Inv (s.setTiming ch (s.timing.get ch).selectInternal)
  sendPass : ∀ s r ch, Inv s → s.agent.executing = some r → (s.receiver.get ch).pass = .idle → Inv (s.sendPass r ch)
  writeCoverage : ∀ s ch q, Inv s → (s.coverage.get ch).isFixed = false →
    (s.table (.warpMesh ch)).staged.committed = false → s.meshConflict ch q = none →
    Inv (s.setCoverage ch (.written q))
  fixCoverage : ∀ s ch q, Inv s → s.coverage.get ch = .written q → Inv (s.setCoverage ch (.fixed q))
  requestReset : ∀ s ch, Inv s → Inv (s.setLink ch { s.link.get ch with resetPending := true })
  tick : ∀ s, Inv s → Inv s.superviseTick
  verifyStart : ∀ s t rest, Inv s → s.tables.verifying = none → s.tables.verifyQueue = t :: rest →
    Inv (s.setTables { s.tables with verifying := some t })
  verifyEnd : ∀ s t load supplied tag, Inv s → s.tables.verifying = some t →
    (s.table t).staged = .verifying load supplied tag → Inv (s.endVerify t load supplied tag)
  scrubEnd : ∀ s st, Inv s → s.tables.scrub = some st → Inv (s.endScrub st)
  startFrame : ∀ s ch, Inv s → Inv (s.startFrame ch)
  holdLimit : ∀ s ch, Inv s → Inv (s.enterFallback ch)
  startLine : ∀ s ch, Inv s → Inv (s.startLine ch)
  endLine : ∀ s ch, Inv s → Inv (s.endLine ch)
  endFrame : ∀ s ch, Inv s → Inv (s.endFrame ch)
  header : ∀ s ch, Inv s → Inv (s.sendHeader ch)
  sendAnswer : ∀ s ch n b, Inv s → Inv (s.sendAnswer ch n b)
  areaEnd : ∀ s ch, Inv s → Inv (s.setLink ch { s.link.get ch with
    frame := { (s.link.get ch).frame with stage := .blanking } })
  referenceStart : ∀ s ch, Inv s →
    Inv (s.setTiming ch ((s.timing.get ch).referenceStart (s.params.get ch) s.counter))
  holdover : ∀ s ch, Inv s →
    Inv (s.setTiming ch (LinkTiming.revert { s.timing.get ch with tracker := (s.timing.get ch).tracker.countEmpty }))
  manageReset : ∀ s, Inv s → Inv (s.completeReset .management)

/-- Each effect of the part keeps a promise. -/
structure State.Kept (Inv : State → Prop) : Prop extends State.Worked Inv where
  queue : ∀ s q n, Inv s → Inv { s with pending := q, draws := n }
  passTime : ∀ s, Inv s → Inv s.passTime
  beginReset : ∀ s h, Inv s → Inv (s.beginReset h)
  completeReset : ∀ s h c, Inv s → Inv ({ s with hold := h }.completeReset c)
  hold : ∀ s h, Inv s → Inv { s with hold := h }

section

variable {Inv : State → Prop} (k : State.Worked Inv) {s : State} (h : Inv s)
include k h

theorem State.Worked.withLength {r : Request} {n : Nat} {t : State} (hr : s.agent.executing = some r)
    (ht : r.payload.length = n → Inv t) : Inv (s.withLength r n t) := by
  rw [State.withLength]
  split
  · exact ht ‹_›
  · exact k.finish s r _ _ h hr

theorem State.Worked.onChannel {r : Request} {f : Channel → State} (hr : s.agent.executing = some r)
    (hf : ∀ ch, channelOf r.channel = some ch → Inv (f ch)) : Inv (s.onChannel r f) := by
  rw [State.onChannel]
  split
  · exact hf _ ‹_›
  · exact k.finish s r _ _ h hr

theorem State.Worked.onTable {r : Request} {f : TableId → State} (hr : s.agent.executing = some r)
    (hf : ∀ t, tableOfNumber r.item.toNat = some t → Inv (f t)) : Inv (s.onTable r f) := by
  rw [State.onTable]
  split
  · exact hf _ ‹_›
  · exact k.finish s r _ _ h hr

end

/-! Each command keeps what its effects keep. -/

section

variable {Inv : State → Prop} (k : State.Worked Inv) {s t : State} (h : Inv s)
include k h

theorem State.Worked.frameStartCommand {ch : Channel} {p : List Byte}
    (he : execFrameStart ch p s = .next t) : Inv t := by
  unfold execFrameStart at he
  rcases whenRunning_next he with ⟨-, rfl⟩ | ⟨-, rfl⟩
  · exact h
  · cases readCameraPacket p
    case frameStart => exact k.frameStart _ _ h
    all_goals exact h

theorem State.Worked.embeddedCommand {ch : Channel} {p : List Byte}
    (he : execEmbedded ch p s = .next t) : Inv t := by
  unfold execEmbedded at he
  rcases whenRunning_next he with ⟨-, rfl⟩ | ⟨-, rfl⟩
  · exact h
  · cases readCameraPacket p
    case embedded => exact k.embedded _ _ _ h
    case embeddedFailed => exact k.embedded _ _ _ h
    all_goals exact h

theorem State.Worked.lineCommand {ch : Channel} {p : List Byte}
    (he : execLine ch p s = .next t) : Inv t := by
  unfold execLine at he
  rcases whenRunning_next he with ⟨-, rfl⟩ | ⟨-, rfl⟩
  · exact h
  · cases readCameraPacket p
    case line => exact k.line _ _ _ h
    case lineFailed => exact k.line _ _ _ h
    all_goals exact h

theorem State.Worked.frameEndCommand {ch : Channel} {p : List Byte}
    (he : execFrameEnd ch p s = .next t) : Inv t := by
  unfold execFrameEnd at he
  rcases whenRunning_next he with ⟨-, rfl⟩ | ⟨-, rfl⟩
  · exact h
  · cases readCameraPacket p
    case frameEnd => exact k.frameEnd _ _ _ h
    case frameEndFailed => exact k.frameEnd _ _ _ h
    all_goals exact h

theorem State.Worked.replyCommand {ch : Channel} {p : List Byte}
    (he : execReply ch p s = .next t) : Inv t := by
  unfold execReply at he
  rcases whenRunning_next he with ⟨-, rfl⟩ | ⟨-, rfl⟩
  · exact h
  · cases readCameraPacket p
    case reply => exact k.endPass _ _ _ _ h
    all_goals exact h

theorem State.Worked.monitorStatusCommand {ch : Channel} {p : List Byte}
    (he : execMonitorStatus ch p s = .next t) : Inv t := by
  unfold execMonitorStatus at he
  rcases whenRunning_next he with ⟨-, rfl⟩ | ⟨-, rfl⟩
  · exact h
  · cases readReturnCell p
    case monitorStatus => exact k.status _ _ _ _ h
    case discarded => exact k.discard _ _ h
    all_goals exact h

theorem State.Worked.signatureCommand {ch : Channel} {p : List Byte}
    (he : execSignature ch p s = .next t) : Inv t := by
  unfold execSignature at he
  rcases whenRunning_next he with ⟨-, rfl⟩ | ⟨-, rfl⟩
  · exact h
  · cases readReturnCell p
    case signature => exact k.signature _ _ _ _ h
    case discarded => exact k.discard _ _ h
    all_goals exact h

theorem State.Worked.requestCellCommand {ch : Channel} {p : List Byte}
    (he : execRequestCell ch p s = .next t) : Inv t := by
  unfold execRequestCell at he
  rcases whenRunning_next he with ⟨-, rfl⟩ | ⟨-, rfl⟩
  · exact h
  · cases readReturnCell p
    case request => exact k.accept _ _ h
    case discarded => exact k.discard _ _ h
    all_goals exact h

theorem State.Worked.returnCellDiscardCommand {ch : Channel} {p : List Byte}
    (he : execReturnCellDiscard ch p s = .next t) : Inv t := by
  unfold execReturnCellDiscard at he
  rcases whenRunning_next he with ⟨-, rfl⟩ | ⟨-, rfl⟩
  · exact h
  · cases readReturnCell p
    case discarded => exact k.discard _ _ h
    all_goals exact h

theorem State.Worked.agentTakesRequestCommand (he : execAgentTakesRequest s = .next t) : Inv t := by
  unfold execAgentTakesRequest at he
  rcases whenRunning_next he with ⟨-, rfl⟩ | ⟨-, rfl⟩
  · exact h
  · split
    · exact k.serve _ _ h ‹_›
    · exact h

theorem State.Worked.queryIdentityCommand (he : execQueryIdentity s = .next t) : Inv t := by
  unfold execQueryIdentity at he
  rcases whenExecuting_next he with rfl | ⟨r, ⟨-, hr⟩, -, rfl⟩
  · exact h
  · exact k.finish _ _ _ _ h hr

theorem State.Worked.queryRefusedCommand (he : execQueryRefused s = .next t) : Inv t := by
  unfold execQueryRefused at he
  rcases whenExecuting_next he with rfl | ⟨r, ⟨-, hr⟩, -, rfl⟩
  · exact h
  · exact k.withLength h hr fun _ => k.finish _ _ _ _ h hr

theorem State.Worked.queryChannelCommand (he : execQueryChannel s = .next t) : Inv t := by
  unfold execQueryChannel at he
  rcases whenExecuting_next he with rfl | ⟨r, ⟨-, hr⟩, -, rfl⟩
  · exact h
  · exact k.onChannel h hr fun ch _ => k.finish _ _ _ _ h hr

theorem State.Worked.queryBufferCommand (he : execQueryBuffer s = .next t) : Inv t := by
  unfold execQueryBuffer at he
  rcases whenExecuting_next he with rfl | ⟨r, ⟨-, hr⟩, -, rfl⟩
  · exact h
  · exact k.onChannel h hr fun ch _ => k.finish _ _ _ _ h hr

theorem State.Worked.queryCoverageCommand (he : execQueryCoverage s = .next t) : Inv t := by
  unfold execQueryCoverage at he
  rcases whenExecuting_next he with rfl | ⟨r, ⟨-, hr⟩, -, rfl⟩
  · exact h
  · exact k.onChannel h hr fun ch _ => k.finish _ _ _ _ h hr

theorem State.Worked.queryTimingCommand (he : execQueryTiming s = .next t) : Inv t := by
  unfold execQueryTiming at he
  rcases whenExecuting_next he with rfl | ⟨r, ⟨-, hr⟩, -, rfl⟩
  · exact h
  · exact k.onChannel h hr fun ch _ => k.finish _ _ _ _ h hr

theorem State.Worked.queryPassCommand (he : execQueryPass s = .next t) : Inv t := by
  unfold execQueryPass at he
  rcases whenExecuting_next he with rfl | ⟨r, ⟨-, hr⟩, -, rfl⟩
  · exact h
  · exact k.onChannel h hr fun ch _ => k.finish _ _ _ _ h hr

theorem State.Worked.queryTileCommand (he : execQueryTile s = .next t) : Inv t := by
  unfold execQueryTile at he
  rcases whenExecuting_next he with rfl | ⟨r, ⟨-, hr⟩, -, rfl⟩
  · exact h
  · refine k.onChannel h hr fun ch _ => ?_
    split <;> exact k.finish _ _ _ _ h hr

theorem State.Worked.queryFaultEntryCommand (he : execQueryFaultEntry s = .next t) : Inv t := by
  unfold execQueryFaultEntry at he
  rcases whenExecuting_next he with rfl | ⟨r, ⟨-, hr⟩, -, rfl⟩
  · exact h
  · refine k.onChannel h hr fun ch _ => ?_
    split <;> exact k.finish _ _ _ _ h hr

theorem State.Worked.queryHistoryCommand (he : execQueryHistory s = .next t) : Inv t := by
  unfold execQueryHistory at he
  rcases whenExecuting_next he with rfl | ⟨r, ⟨-, hr⟩, -, rfl⟩
  · exact h
  · split <;> exact k.finish _ _ _ _ h hr

theorem State.Worked.queryTableCommand (he : execQueryTable s = .next t) : Inv t := by
  unfold execQueryTable at he
  rcases whenExecuting_next he with rfl | ⟨r, ⟨-, hr⟩, -, rfl⟩
  · exact h
  · exact k.onTable h hr fun t _ => k.finish _ _ _ _ h hr

theorem State.Worked.queryParameterCommand (he : execQueryParameter s = .next t) : Inv t := by
  unfold execQueryParameter at he
  rcases whenExecuting_next he with rfl | ⟨r, ⟨-, hr⟩, -, rfl⟩
  · exact h
  · split
    · exact k.finish _ _ _ _ h hr
    · split <;> exact k.finish _ _ _ _ h hr

theorem State.Worked.setCommand (he : execSet s = .next t) : Inv t := by
  unfold execSet at he
  rcases whenExecuting_next he with rfl | ⟨r, ⟨-, hr⟩, -, rfl⟩
  · exact h
  · rw [State.runSet]
    split
    · exact k.finish _ _ _ _ h hr
    · split
      · exact k.finish _ _ _ _ h hr
      · refine k.withLength h hr fun _ => ?_
        simp only [State.setValue]
        split
        · exact k.finish _ _ _ _ h hr
        · refine k.finish _ _ _ _ (k.stage _ r _ _ h hr (Bool.eq_false_of_not_eq_true ‹_›)) ?_
          rw [State.stageValue_agent]
          exact hr

theorem State.Worked.tableOpenCommand (he : execTableOpen s = .next t) : Inv t := by
  unfold execTableOpen at he
  rcases whenExecuting_next he with rfl | ⟨r, ⟨-, hr⟩, -, rfl⟩
  · exact h
  · refine k.onTable h hr fun t _ => k.withLength h hr fun _ => ?_
    simp only [State.openLoad]
    split
    · exact k.finish _ _ _ _ h hr
    · split
      · exact k.finish _ _ _ _ h hr
      · split
        · exact k.finish _ _ _ _ (k.setStaged _ r t h hr (not_not.mp ‹_›)) hr
        · exact k.finish _ _ _ _ h hr

theorem State.Worked.tableDataCommand (he : execTableData s = .next t) : Inv t := by
  unfold execTableData at he
  rcases whenExecuting_next he with rfl | ⟨r, ⟨-, hr⟩, -, rfl⟩
  · exact h
  · refine k.onTable h hr fun t _ => ?_
    split
    · rw [State.takeData]
      split
      · split
        · simp only [State.loadData]
          split
          · exact k.finish _ _ _ _ h hr
          · split
            · exact k.finish _ _ _ _ h hr
            · split
              · exact k.finish _ _ _ _ h hr
              · refine k.finish _ _ _ _ (k.loadData _ r t _ h hr ‹_› ?_) hr
                simp only [List.length_drop] at *
                omega
        · exact k.finish _ _ _ _ h hr
      · exact k.finish _ _ _ _ h hr
    · exact k.finish _ _ _ _ h hr

theorem State.Worked.tableCommitCommand (he : execTableCommit s = .next t) : Inv t := by
  unfold execTableCommit at he
  rcases whenExecuting_next he with rfl | ⟨r, ⟨-, hr⟩, -, rfl⟩
  · exact h
  · refine k.onTable h hr fun t _ => k.withLength h hr fun _ => ?_
    rw [State.takeCommit]
    split
    · exact k.finish _ _ _ _ h hr
    · split
      · rename_i hown _ load hload
        rw [State.commitLoad]
        split
        · exact k.finish _ _ _ _ h hr
        · split
          · exact k.finish _ _ _ _ h hr
          · refine k.commit _ r t load h hr hload ?_
            simpa [hload, Staged.owner] using hown
      · exact k.finish _ _ _ _ h hr

theorem State.Worked.tableAbandonCommand (he : execTableAbandon s = .next t) : Inv t := by
  unfold execTableAbandon at he
  rcases whenExecuting_next he with rfl | ⟨r, ⟨-, hr⟩, -, rfl⟩
  · exact h
  · refine k.onTable h hr fun t _ => k.withLength h hr fun _ => ?_
    rw [State.takeAbandon]
    split
    · exact k.finish _ _ _ _ h hr
    · split
      · refine k.finish _ _ _ _ (k.abandonVerify _ t _ _ _ h ‹_›) ?_
        rw [State.leaveQueue_agent]
        exact hr
      · rename_i hn
        refine k.finish _ _ _ _ (k.abandon _ t h ?_) hr
        cases hx : (s.table t).staged <;> first | rfl | exact absurd hx (hn _ _ _)

theorem State.Worked.tableLockLockCommand (he : execTableLockLock s = .next t) : Inv t := by
  unfold execTableLockLock at he
  rcases whenExecuting_next he with rfl | ⟨r, ⟨-, hr⟩, -, rfl⟩
  · exact h
  · exact k.onTable h hr fun t _ => k.withLength h hr fun _ => k.finish _ _ _ _ (k.lock _ t _ h) hr

theorem State.Worked.tableLockLockDownCommand (he : execTableLockLockDown s = .next t) : Inv t := by
  unfold execTableLockLockDown at he
  rcases whenExecuting_next he with rfl | ⟨r, ⟨-, hr⟩, -, rfl⟩
  · exact h
  · exact k.onTable h hr fun t _ => k.withLength h hr fun _ => k.finish _ _ _ _ (k.lock _ t _ h) hr

theorem State.Worked.tableLockUnlockCommand (he : execTableLockUnlock s = .next t) : Inv t := by
  unfold execTableLockUnlock at he
  rcases whenExecuting_next he with rfl | ⟨r, ⟨-, hr⟩, -, rfl⟩
  · exact h
  · refine k.onTable h hr fun t _ => k.withLength h hr fun _ => ?_
    rw [State.unlock]
    split
    · exact k.finish _ _ _ _ h hr
    · exact k.finish _ _ _ _ (k.lock _ t _ h) hr

theorem State.Worked.tableLockUnknownActionCommand (he : execTableLockUnknownAction s = .next t) : Inv t := by
  unfold execTableLockUnknownAction at he
  rcases whenExecuting_next he with rfl | ⟨r, ⟨-, hr⟩, -, rfl⟩
  · exact h
  · exact k.onTable h hr fun t _ => k.withLength h hr fun _ => k.finish _ _ _ _ h hr

theorem State.Worked.faultAckCommand (he : execFaultAck s = .next t) : Inv t := by
  unfold execFaultAck at he
  rcases whenExecuting_next he with rfl | ⟨r, ⟨-, hr⟩, -, rfl⟩
  · exact h
  · exact k.withLength h hr fun _ => k.finish _ _ _ _ (k.acknowledge _ h) hr

theorem State.Worked.faultClearCommand (he : execFaultClear s = .next t) : Inv t := by
  unfold execFaultClear at he
  rcases whenExecuting_next he with rfl | ⟨r, ⟨-, hr⟩, -, rfl⟩
  · exact h
  · split
    · refine k.withLength h hr fun _ => ?_
      rename_i chs _ _
      have key : ∀ (cs : List Channel) (u : State), Inv u → u.agent.executing = some r →
          Inv (cs.foldl State.clearChannel u) ∧ (cs.foldl State.clearChannel u).agent.executing = some r := by
        intro cs
        induction cs with
        | nil => exact fun u hu ha => ⟨hu, ha⟩
        | cons c cs ih => exact fun u hu ha => ih _ (k.clear u c hu) ha
      exact k.finish _ _ _ _ (key chs s h hr).1 (key chs s h hr).2
    · exact k.finish _ _ _ _ h hr

theorem State.Worked.viewRestartCommand (he : execViewRestart s = .next t) : Inv t := by
  unfold execViewRestart at he
  rcases whenExecuting_next he with rfl | ⟨r, ⟨-, hr⟩, -, rfl⟩
  · exact h
  · refine k.onChannel h hr fun ch _ => k.withLength h hr fun _ => k.finish _ _ _ _ (k.restart _ ch h) ?_
    rw [State.restart_agent]
    exact hr

theorem State.Worked.timingTrackerCommand (he : execTimingTracker s = .next t) : Inv t := by
  unfold execTimingTracker at he
  rcases whenExecuting_next he with rfl | ⟨r, ⟨-, hr⟩, -, rfl⟩
  · exact h
  · refine k.onChannel h hr fun ch _ => k.withLength h hr fun _ => ?_
    simp only [State.timingTracker]
    split
    · split
      · exact k.finish _ _ _ _ h hr
      · refine k.finish _ _ _ _ (k.trackerOff _ ch h ?_) hr
        cases hx : (s.timing.get ch).source
        · rfl
        · exact absurd hx ‹_›
    · exact k.finish _ _ _ _ (k.trackerOn _ ch h) hr
    · exact k.finish _ _ _ _ h hr

theorem State.Worked.timingBandwidthCommand (he : execTimingBandwidth s = .next t) : Inv t := by
  unfold execTimingBandwidth at he
  rcases whenExecuting_next he with rfl | ⟨r, ⟨-, hr⟩, -, rfl⟩
  · exact h
  · refine k.onChannel h hr fun ch _ => k.withLength h hr fun _ => ?_
    simp only [State.timingBandwidth]
    split
    · exact k.finish _ _ _ _ (k.bandwidth _ ch _ h) hr
    · exact k.finish _ _ _ _ h hr

theorem State.Worked.timingSourceCommand (he : execTimingSource s = .next t) : Inv t := by
  unfold execTimingSource at he
  rcases whenExecuting_next he with rfl | ⟨r, ⟨-, hr⟩, -, rfl⟩
  · exact h
  · refine k.onChannel h hr fun ch _ => k.withLength h hr fun _ => ?_
    simp only [State.timingSource]
    split
    · exact k.finish _ _ _ _ (k.selectInternal _ ch h) hr
    · split
      · exact k.finish _ _ _ _ (k.selectTracked _ ch h ‹_›) hr
      · exact k.finish _ _ _ _ h hr
    · exact k.finish _ _ _ _ h hr

theorem State.Worked.timingUnknownItemCommand (he : execTimingUnknownItem s = .next t) : Inv t := by
  unfold execTimingUnknownItem at he
  rcases whenExecuting_next he with rfl | ⟨r, ⟨-, hr⟩, -, rfl⟩
  · exact h
  · exact k.finish _ _ _ _ h hr

theorem State.Worked.unknownRequestCommand (he : execUnknownRequest s = .next t) : Inv t := by
  unfold execUnknownRequest at he
  rcases whenExecuting_next he with rfl | ⟨r, ⟨-, hr⟩, -, rfl⟩
  · exact h
  · exact k.finish _ _ _ _ h hr

theorem State.Worked.cameraPassCommand (he : execCameraPass s = .next t) : Inv t := by
  unfold execCameraPass at he
  rcases whenExecuting_next he with rfl | ⟨r, ⟨-, hr⟩, -, rfl⟩
  · exact h
  · refine k.onChannel h hr fun ch _ => ?_
    rw [State.takePass]
    split
    · exact k.finish _ _ _ _ h hr
    · split
      · exact k.finish _ _ _ _ h hr
      · exact k.sendPass _ r ch h hr (not_not.mp ‹_›)

theorem State.Worked.coverageWriteCommand (he : execCoverageWrite s = .next t) : Inv t := by
  unfold execCoverageWrite at he
  rcases whenExecuting_next he with rfl | ⟨r, ⟨-, hr⟩, -, rfl⟩
  · exact h
  · refine k.onChannel h hr fun ch _ => k.withLength h hr fun _ => ?_
    simp only [State.writeCoverage]
    split
    · exact k.finish _ _ _ _ h hr
    · split
      · exact k.finish _ _ _ _ h hr
      · split
        · exact k.finish _ _ _ _ h hr
        · split
          · exact k.finish _ _ _ _ h hr
          · split
            · exact k.finish _ _ _ _ h hr
            · exact k.finish _ _ _ _ (k.writeCoverage _ ch _ h (Bool.eq_false_of_not_eq_true ‹_›)
                (Bool.eq_false_of_not_eq_true ‹_›) ‹_›) hr

theorem State.Worked.coverageFixCommand (he : execCoverageFix s = .next t) : Inv t := by
  unfold execCoverageFix at he
  rcases whenExecuting_next he with rfl | ⟨r, ⟨-, hr⟩, -, rfl⟩
  · exact h
  · refine k.onChannel h hr fun ch _ => k.withLength h hr fun _ => ?_
    rw [State.fixCoverage]
    split
    · exact k.finish _ _ _ _ h hr
    · split
      · exact k.finish _ _ _ _ (k.fixCoverage _ ch _ h ‹_›) hr
      · exact k.finish _ _ _ _ h hr
      · exact k.finish _ _ _ _ h hr

theorem State.Worked.partResetCommand (he : execPartReset s = .next t) : Inv t := by
  unfold execPartReset at he
  rcases whenExecuting_next he with rfl | ⟨r, ⟨-, hr⟩, -, rfl⟩
  · exact h
  · exact k.withLength h hr fun _ => k.finish _ _ _ _ (k.requestReset _ _ h) hr

theorem State.Worked.supervisionTickCommand (he : execSupervisionTick s = .next t) : Inv t := by
  unfold execSupervisionTick at he
  rcases whenRunning_next he with ⟨-, rfl⟩ | ⟨-, rfl⟩
  · exact h
  · split
    · exact k.tick _ h
    · exact h

theorem State.Worked.passTimeoutCommand {ch : Channel} (he : execPassTimeout ch s = .next t) : Inv t := by
  unfold execPassTimeout at he
  rcases whenRunning_next he with ⟨-, rfl⟩ | ⟨-, rfl⟩
  · exact h
  · split
    · split
      · exact k.endPass _ _ _ _ h
      · exact h
    · exact h

theorem State.Worked.verifyStartCommand (he : execVerifyStart s = .next t) : Inv t := by
  unfold execVerifyStart at he
  rcases whenRunning_next he with ⟨-, rfl⟩ | ⟨-, rfl⟩
  · exact h
  · split
    · exact k.verifyStart _ _ _ h ‹_› ‹_›
    · exact h

theorem State.Worked.verifyEndCommand (he : execVerifyEnd s = .next t) : Inv t := by
  unfold execVerifyEnd at he
  rcases whenRunning_next he with ⟨-, rfl⟩ | ⟨-, rfl⟩
  · exact h
  · split
    · exact h
    · split
      · exact k.verifyEnd _ _ _ _ _ h ‹_› ‹_›
      · exact h

theorem State.Worked.scrubStepEndCommand (he : execScrubStepEnd s = .next t) : Inv t := by
  unfold execScrubStepEnd at he
  rcases whenRunning_next he with ⟨-, rfl⟩ | ⟨-, rfl⟩
  · exact h
  · split
    · exact h
    · split
      · exact h
      · exact k.scrubEnd _ _ h ‹_›

theorem State.Worked.displayFrameStartCommand {ch : Channel} (he : execDisplayFrameStart ch s = .next t) : Inv t := by
  unfold execDisplayFrameStart at he
  rcases whenRunning_next he with ⟨-, rfl⟩ | ⟨-, rfl⟩
  · exact h
  · split
    · exact k.startFrame _ _ h
    · exact h

theorem State.Worked.holdLimitReachedCommand {ch : Channel} (he : execHoldLimitReached ch s = .next t) : Inv t := by
  unfold execHoldLimitReached at he
  rcases whenRunning_next he with ⟨-, rfl⟩ | ⟨-, rfl⟩
  · exact h
  · split
    · exact k.holdLimit _ _ h
    · exact h

theorem State.Worked.activeLineStartCommand {ch : Channel} (he : execActiveLineStart ch s = .next t) : Inv t := by
  unfold execActiveLineStart at he
  rcases whenRunning_next he with ⟨-, rfl⟩ | ⟨-, rfl⟩
  · exact h
  · split
    · exact k.startLine _ _ h
    · exact h

theorem State.Worked.activeLineEndCommand {ch : Channel} (he : execActiveLineEnd ch s = .next t) : Inv t := by
  unfold execActiveLineEnd at he
  rcases whenRunning_next he with ⟨-, rfl⟩ | ⟨-, rfl⟩
  · exact h
  · split
    · exact k.endLine _ _ h
    · exact h

theorem State.Worked.displayFrameEndCommand {ch : Channel} (he : execDisplayFrameEnd ch s = .next t) : Inv t := by
  unfold execDisplayFrameEnd at he
  rcases whenRunning_next he with ⟨-, rfl⟩ | ⟨-, rfl⟩
  · exact h
  · split
    · exact k.endFrame _ _ h
    · exact h

theorem State.Worked.headerCellCommand {ch : Channel} (he : execHeaderCell ch s = .next t) : Inv t := by
  unfold execHeaderCell at he
  rcases whenRunning_next he with ⟨-, rfl⟩ | ⟨-, rfl⟩
  · exact h
  · split
    · exact k.header _ _ h
    · exact h

theorem State.Worked.answerCellSentCommand {ch : Channel} (he : execAnswerCellSent ch s = .next t) : Inv t := by
  unfold execAnswerCellSent at he
  rcases whenRunning_next he with ⟨-, rfl⟩ | ⟨-, rfl⟩
  · exact h
  · split
    · exact k.sendAnswer _ _ _ _ h
    · exact h

theorem State.Worked.ancillaryAreaEndCommand {ch : Channel} (he : execAncillaryAreaEnd ch s = .next t) : Inv t := by
  unfold execAncillaryAreaEnd at he
  rcases whenRunning_next he with ⟨-, rfl⟩ | ⟨-, rfl⟩
  · exact h
  · split
    · exact k.manageReset _ h
    · exact k.areaEnd _ _ h
    · exact h

theorem State.Worked.referenceStartCommand {ch : Channel} (he : execReferenceStart ch s = .next t) : Inv t := by
  unfold execReferenceStart at he
  rcases whenRunning_next he with ⟨-, rfl⟩ | ⟨-, rfl⟩
  · exact h
  · split
    · exact k.referenceStart _ _ h
    · exact h

theorem State.Worked.holdoverCommand {ch : Channel} (he : execHoldover ch s = .next t) : Inv t := by
  unfold execHoldover at he
  rcases whenRunning_next he with ⟨-, rfl⟩ | ⟨-, rfl⟩
  · exact h
  · dsimp only
    split
    · exact k.holdover _ _ h
    · exact h

/-- Every command but those of the reset conditions keeps what the effects of a running part keep. -/
theorem State.Worked.exec {c : Instr} (h1 : c ≠ .powerOn) (h2 : c ≠ .resetNAssert) (h3 : c ≠ .refclkLoss)
    (h4 : c ≠ .powerOnConditionEnd) (h5 : c ≠ .resetNDeassert) (h6 : c ≠ .refclkReturn)
    (he : Sys2Proof.Machine.exec c s = .next t) : Inv t := by
  cases c with
  | frameStart => exact k.frameStartCommand h he
  | embedded => exact k.embeddedCommand h he
  | line => exact k.lineCommand h he
  | frameEnd => exact k.frameEndCommand h he
  | reply => exact k.replyCommand h he
  | cameraPacketDiscard ch p => rcases whenRunning_next (f := fun s => s) he with ⟨-, rfl⟩ | ⟨-, rfl⟩ <;> exact h
  | monitorStatus => exact k.monitorStatusCommand h he
  | signature => exact k.signatureCommand h he
  | requestCell => exact k.requestCellCommand h he
  | returnCellDiscard => exact k.returnCellDiscardCommand h he
  | agentTakesRequest => exact k.agentTakesRequestCommand h he
  | queryIdentity => exact k.queryIdentityCommand h he
  | queryRefused => exact k.queryRefusedCommand h he
  | queryChannel => exact k.queryChannelCommand h he
  | queryBuffer => exact k.queryBufferCommand h he
  | queryCoverage => exact k.queryCoverageCommand h he
  | queryTiming => exact k.queryTimingCommand h he
  | queryPass => exact k.queryPassCommand h he
  | queryTile => exact k.queryTileCommand h he
  | queryFaultEntry => exact k.queryFaultEntryCommand h he
  | queryHistory => exact k.queryHistoryCommand h he
  | queryTable => exact k.queryTableCommand h he
  | queryParameter => exact k.queryParameterCommand h he
  | set => exact k.setCommand h he
  | tableOpen => exact k.tableOpenCommand h he
  | tableData => exact k.tableDataCommand h he
  | tableCommit => exact k.tableCommitCommand h he
  | tableAbandon => exact k.tableAbandonCommand h he
  | tableLockLock => exact k.tableLockLockCommand h he
  | tableLockLockDown => exact k.tableLockLockDownCommand h he
  | tableLockUnlock => exact k.tableLockUnlockCommand h he
  | tableLockUnknownAction => exact k.tableLockUnknownActionCommand h he
  | faultAck => exact k.faultAckCommand h he
  | faultClear => exact k.faultClearCommand h he
  | viewRestart => exact k.viewRestartCommand h he
  | timingTracker => exact k.timingTrackerCommand h he
  | timingBandwidth => exact k.timingBandwidthCommand h he
  | timingSource => exact k.timingSourceCommand h he
  | timingUnknownItem => exact k.timingUnknownItemCommand h he
  | unknownRequest => exact k.unknownRequestCommand h he
  | cameraPass => exact k.cameraPassCommand h he
  | coverageWrite => exact k.coverageWriteCommand h he
  | coverageFix => exact k.coverageFixCommand h he
  | partReset => exact k.partResetCommand h he
  | supervisionTick => exact k.supervisionTickCommand h he
  | passTimeout => exact k.passTimeoutCommand h he
  | verifyStart => exact k.verifyStartCommand h he
  | verifyEnd => exact k.verifyEndCommand h he
  | scrubStepEnd => exact k.scrubStepEndCommand h he
  | displayFrameStart => exact k.displayFrameStartCommand h he
  | holdLimitReached => exact k.holdLimitReachedCommand h he
  | activeLineStart => exact k.activeLineStartCommand h he
  | activeLineEnd => exact k.activeLineEndCommand h he
  | displayFrameEnd => exact k.displayFrameEndCommand h he
  | headerCell => exact k.headerCellCommand h he
  | answerCellSent => exact k.answerCellSentCommand h he
  | ancillaryAreaEnd => exact k.ancillaryAreaEndCommand h he
  | referenceStart => exact k.referenceStartCommand h he
  | holdover => exact k.holdoverCommand h he
  | powerOn => exact absurd rfl h1
  | resetNAssert => exact absurd rfl h2
  | refclkLoss => exact absurd rfl h3
  | powerOnConditionEnd => exact absurd rfl h4
  | resetNDeassert => exact absurd rfl h5
  | refclkReturn => exact absurd rfl h6

end

section

variable {Inv : State → Prop} (k : State.Kept Inv) {s t : State} (h : Inv s)
include k h

theorem State.Kept.powerOnCommand (he : execPowerOn s = .next t) : Inv t := by
  simp only [execPowerOn, Host.Outcome.next.injEq] at he
  exact he ▸ k.beginReset _ _ h

theorem State.Kept.resetNAssertCommand (he : execResetNAssert s = .next t) : Inv t := by
  simp only [execResetNAssert, Host.Outcome.next.injEq] at he
  exact he ▸ k.beginReset _ _ h

theorem State.Kept.refclkLossCommand (he : execRefclkLoss s = .next t) : Inv t := by
  simp only [execRefclkLoss, Host.Outcome.next.injEq] at he
  exact he ▸ k.beginReset _ _ h

theorem State.Kept.powerOnConditionEndCommand (he : execPowerOnConditionEnd s = .next t) : Inv t := by
  simp only [execPowerOnConditionEnd, State.endCondition, Host.Outcome.next.injEq] at he
  split at he
  · split at he
    · exact he ▸ k.hold _ _ h
    · exact he ▸ k.completeReset _ _ _ h
  · exact he ▸ h

theorem State.Kept.resetNDeassertCommand (he : execResetNDeassert s = .next t) : Inv t := by
  simp only [execResetNDeassert, State.endCondition, Host.Outcome.next.injEq] at he
  split at he
  · split at he
    · exact he ▸ k.hold _ _ h
    · exact he ▸ k.completeReset _ _ _ h
  · exact he ▸ h

theorem State.Kept.refclkReturnCommand (he : execRefclkReturn s = .next t) : Inv t := by
  simp only [execRefclkReturn, State.endCondition, Host.Outcome.next.injEq] at he
  split at he
  · split at he
    · exact he ▸ k.hold _ _ h
    · exact he ▸ k.completeReset _ _ _ h
  · exact he ▸ h

end

/-- Every command keeps what its effects keep. -/
theorem State.Kept.exec {Inv : State → Prop} (k : State.Kept Inv) {c : Instr} {s t : State} (h : Inv s)
    (he : Sys2Proof.Machine.exec c s = .next t) : Inv t := by
  by_cases h1 : c = .powerOn
  · subst h1; exact k.powerOnCommand h he
  by_cases h2 : c = .resetNAssert
  · subst h2; exact k.resetNAssertCommand h he
  by_cases h3 : c = .refclkLoss
  · subst h3; exact k.refclkLossCommand h he
  by_cases h4 : c = .powerOnConditionEnd
  · subst h4; exact k.powerOnConditionEndCommand h he
  by_cases h5 : c = .resetNDeassert
  · subst h5; exact k.resetNDeassertCommand h he
  by_cases h6 : c = .refclkReturn
  · subst h6; exact k.refclkReturnCommand h he
  exact k.toWorked.exec h h1 h2 h3 h4 h5 h6 he

/-- Every step keeps what the effects keep. -/
theorem State.Kept.step {Inv : State → Prop} (k : State.Kept Inv) {s t : State} (h : Inv s)
    (hs : Sys2Proof.Machine.step s = .next t) : Inv t := by
  rw [Sys2Proof.Machine.step] at hs
  split at hs
  · simp only [Host.Outcome.next.injEq, idle] at hs
    subst hs
    split
    · exact h
    · split
      · exact k.passTime _ h
      · exact k.queue _ _ _ h
  · exact k.exec (k.queue s _ s.draws h) hs

end Sys2Proof.Machine
end

