-- ==== Sys2Proof/Tests/Slice0.lean ====
section
/-! SUPPORT. The model's own tests: what WellFormed refuses, the manual's worked examples (each cites its section), and for
every obligation that has hypotheses a concrete state and operands that meet them. -/

namespace Sys2Proof.Tests

open Sys2Proof.Machine

/-! ## Small states -/

/-- A request of link L with tag 7. -/
def asked (kind channel item : Byte) (payload : List Byte) : Request :=
  { link := .left, tag := 7, kind := kind, channel := channel, item := item, payload := payload }

/-- After reset, with the agent executing a request. -/
def serving (r : Request) : State := State.reset.setAgent { executing := some r, lastServed := .left }

/-- The state a command leaves. -/
def after (c : Instr) (s : State) : State :=
  match exec c s with
  | .next t => t
  | .fault _ => s
  | .refused _ => s

/-- The results of the answers that wait on link L. -/
def results (s : State) : List Result := s.link.left.answers.map Answer.result

/-- A table of the store with a staged bank and a lock. -/
def staged (s : State) (t : TableId) (x : Staged) (l : Lock) : State := s.setTable t { s.table t with staged := x, lock := l }

/-- A load of an empty Defect List, whole. -/
def emptyList : Load := { declared := 2, owner := .left, bytes := [0, 0] }

/-- A small camera frame, two columns by `height` rows. -/
def facts (next height : Nat) : FrameFacts :=
  { nextLine := next, width := 2, height := height, arrival := 5, buffer := some .b0, develop := .default, defects := []
    raw := [] }

/-- A picture of one white row of two pixels. -/
def picture : Picture := { arrival := 5, width := 2, height := 1, rows := [[⟨4095, 4095, 4095⟩, ⟨4095, 4095, 4095⟩]] }

/-- The left receiver in LINES, its buffer filling. -/
def inLines (next height : Nat) : State :=
  (State.reset.setReceiver .left { State.reset.receiver.left with assembly := .lines (facts next height) 1001 0 }).setStore
    .left { State.reset.store.left with b0 := .filling picture }

/-- A display frame record of a frame 3 that started at 0. -/
def recordOf (view : ViewState) (buffer : Option BufferId) (fresh : Bool) : FrameRecord :=
  { seq := 3, start := 0, view := view, buffer := buffer, fresh := fresh, mesh := none, night := false, conditions := 1 }

/-- The left view in a state, with a record. -/
def viewing (view : ViewState) (timer : Nat) (r : FrameRecord) : State :=
  State.reset.setView .left { state := view, holdTimer := timer, record := some r }

/-- The left link's frame at a stage, with a next line and a line in progress. -/
def staging (s : State) (stage : Stage) (next : Nat) (line : Option Nat) : State :=
  s.setLink .left { s.link.left with
    frame := { s.link.left.frame with stage := stage, nextLine := next, lineInProgress := line } }

/-- The left tracker in a state, its next reference start due now. -/
def tracking (t : Tracker) : State :=
  State.reset.setTiming .left { State.reset.timing.left with start := some 0, tracker := { t with nextRef := some 0 } }

/-- A tracker in ACQUIRE. -/
def acquiring : Tracker := Tracker.acquire Tracker.reset ChannelParams.reset 0

/-! ## Ill-formed commands -/

theorem test_wf_frameStart : Instr.wellFormed (.frameStart .left [2]) = false := by decide
theorem test_wf_embedded : Instr.wellFormed (.embedded .left [1]) = false := by decide
theorem test_wf_line : Instr.wellFormed (.line .left []) = false := by decide
theorem test_wf_frameEnd : Instr.wellFormed (.frameEnd .left [5]) = false := by decide
theorem test_wf_reply : Instr.wellFormed (.reply .left [4]) = false := by decide
theorem test_wf_monitorStatus : Instr.wellFormed (.monitorStatus .left [17]) = false := by decide
theorem test_wf_signature : Instr.wellFormed (.signature .left [16]) = false := by decide
theorem test_wf_requestCell : Instr.wellFormed (.requestCell .left [32]) = false := by decide
theorem test_wf_cell_length : Instr.wellFormed (.returnCellDiscard .left (List.replicate (maxCell + 1) 0)) = false := by
  simp [Instr.wellFormed]
theorem test_wf_packet_length :
    Instr.wellFormed (.cameraPacketDiscard .left (List.replicate (maxPacket + 1) 0)) = false := by
  simp [Instr.wellFormed]
theorem test_wf_taken : Instr.wellFormed (.frameStart .left [1, 2, 0, 2, 0]) = true := by decide

/-! ## The manual's worked examples -/

/-- 1.1: two bytes 16 and 32, and the empty Defect List. -/
theorem test_pairSum : pairSum [16, 32] = 4325425 ∧ pairSum [0, 0] = 131073 ∧ pairSum [] = 1 := by decide

/-- 7, the signature of a small window: six bytes of 64. -/
theorem test_signature : pairSum (List.replicate 6 64) = 88473985 := by decide

/-- 10, the bytes of a FAULT-ACK cell. -/
theorem test_faultAckCell : readReturnCell [18, 7, 8, 2, 0, 0, 36, 0, 187, 0] = .request 7 8 2 0 [] := by decide

/-- 2.6: frames c and e of the run of counters. -/
theorem test_counterCheck :
    counterCheck (some 1001) 1004 = (none, some (some 2), true) ∧ counterCheck (some 1001) 1001 = (some 1001, none, false) ∧
      counterCheck (some 1005) 12 = (none, some none, true) := by decide

/-- 2.11: one pixel through the develop matrix. -/
theorem test_develop :
    let d : DevelopTable :=
      { black := 64, bayer := 0, matrix := [1720, -560, -136, -240, 1480, -216, -40, -620, 1684], offsets := [0, 0, 16] }
    [d.component 0 ⟨1218, 2032, 652⟩, d.component 1 ⟨1218, 2032, 652⟩, d.component 2 ⟨1218, 2032, 652⟩] = [848, 2514, 0] := by
  decide

/-- R99: the four rows of the table of hot fractions. -/
theorem test_hotFraction :
    hotFraction 100 128 1650 = 33 ∧ hotFraction 100 128 12800 = 255 ∧ hotFraction 60 64 100 = 6 ∧
      hotFraction 160 192 961 = 8 := by decide

/-- The response of the worked case of chapter 5. -/
def headlightResponse : List Nat := [256, 232, 176, 150, 128, 112, 104, 96] ++ List.replicate 8 96

/-- 5, worked case: frames 1 to 4 of tile (1, 0). -/
theorem test_headlight :
    let p := ChannelParams.reset
    let t1 := Tile.reset.update p headlightResponse true 1650
    let t2 := t1.update p headlightResponse true 1650
    let t4 := (t2.update p headlightResponse true 1650).update p headlightResponse true 1650
    t1 = ⟨.onset, 1, 33, 256, 256⟩ ∧ t2 = ⟨.glare, 0, 33, 176, 224⟩ ∧ t4 = ⟨.glare, 0, 33, 176, 176⟩ := by decide

/-- The tile map of the worked case: tile 1 at gain 176. -/
def headlightTiles : List Tile := [.reset, ⟨.glare, 0, 33, 176, 176⟩] ++ List.replicate 78 .reset

/-- 5, worked case: the gains of three pixels. -/
theorem test_pixelGain :
    pixelGain headlightTiles 100 128 150 64 = 176 ∧ pixelGain headlightTiles 100 128 200 64 = 216 ∧
      pixelGain headlightTiles 100 128 150 128 = 216 := by decide

/-- 5, worked case: the gained value and the tone of the pixel at the tile centre. -/
theorem test_tone :
    gainComponent 176 3800 = 2613 ∧
      toneComponent (List.replicate 40 0 ++ [214, 216] ++ List.replicate 23 255) 2613 = 216 := by decide

/-- R87: the luminance of the remap example's pixel. -/
theorem test_luminance : luminance ⟨924, 1148, 432⟩ = 1000 := by decide

/-- R125: code 204 shows the background colour's complement of nothing: it copies B wherever the mask is 0 or 1. -/
theorem test_combine : combineComponent 204 true 85 170 = 170 ∧ combineComponent 204 false 85 170 = 170 := by decide

/-- R160: the bounds of the default period. -/
theorem test_bounds : ChannelParams.reset.periodBounds = (16167, 17167) := by decide

/-- 8, worked acquisition: rows 0 and 10, each on a tracker with the frame end so far before the reference start. -/
theorem test_acquisition :
    ((acquiring.measure ChannelParams.reset 3800 0).period, (acquiring.measure ChannelParams.reset 3800 0).lockRun) =
        (16167, 0) ∧
      ((acquiring.measure ChannelParams.reset 1700 0).period, (acquiring.measure ChannelParams.reset 1700 0).lockRun) =
        (16617, 1) := by decide

/-- 8, worked acquisition: row 18, in TRACK. -/
theorem test_track :
    (Tracker.measure { acquiring with state := .track, locked := true } ChannelParams.reset 1583 0).period = 16665 := by
  decide

/-- R10: generation 65535 is followed by 1. -/
theorem test_generation : nextGeneration 65535 = 1 ∧ nextGeneration 7 = 8 := by decide

/-- R177: the built-in CAM_FROZEN is active at its third observation in a row. -/
theorem test_debounce :
    let e := FaultEntry.reset .camFrozen
    let v := FaultKind.camFrozen.builtIn
    let e1 := (e.evaluate v (some 9) 0 0).1
    let e2 := (e1.evaluate v (some 9) 0 0).1
    e2.state = .pending ∧ e2.run = 2 ∧ (e2.evaluate v (some 9) 0 0).1.state = .active ∧
      (e2.evaluate v (some 9) 0 0).2 = true := by decide

/-! ## One step each -/

theorem test_frameStart :
    ((after (.frameStart .left (withCheck [1])) State.reset).store.left.find Buffer.isFilling) = some .b0 := by decide

theorem test_frameStart_wrong_check :
    (after (.frameStart .left [1, 2, 0, 2, 1]) State.reset).receiver.left.assembly = .idle := by decide

theorem test_monitorStatus :
    (after (.monitorStatus .right (withCheck [16, 5, 0, 1])) State.reset).entries.right.dispBacklight.detail = some 5 := by
  decide

theorem test_requestCell :
    (after (.requestCell .left [18, 7, 8, 2, 0, 0, 36, 0, 187, 0]) State.reset).link.left.requests = [asked 8 2 0 []] := by
  decide

theorem test_agentTakesRequest :
    (after .agentTakesRequest (after (.requestCell .left [18, 7, 8, 2, 0, 0, 36, 0, 187, 0]) State.reset)).agent =
      { executing := some (asked 8 2 0 []), lastServed := .left } := by decide

theorem test_queryIdentity :
    (after .queryIdentity (serving (asked 1 0 0 [0]))).link.left.answers.map Answer.payload = [[74, 90, 62, 0, 1, 0, 0]] := by
  decide

theorem test_set_display :
    (after .set (serving (asked 2 0 5 [232, 3]))).pendingParams.left = [(.dispWidth, [992])] ∧
      results (after .set (serving (asked 2 0 5 [232, 3]))) = [.clamped] := by decide

theorem test_tableOpen_locked : results (after .tableOpen (serving (asked 3 0 2 [2, 0]))) = [.locked] := by decide

theorem test_tableCommit :
    (after .tableCommit (staged (serving (asked 5 0 2 [1, 0, 2, 0])) (.defectList .left) (.loading emptyList)
      .unlocked)).tables.verifyQueue = [.defectList .left] := by decide

theorem test_verifyEnd :
    ((after .verifyEnd ((staged State.reset (.defectList .left) (.verifying emptyList 131073 9) .locked).setTables
      { (staged State.reset (.defectList .left) (.verifying emptyList 131073 9) .locked).tables with
        verifyQueue := [.defectList .left], verifying := some (.defectList .left) })).table (.defectList .left)).active.state =
      .valid := by decide

theorem test_supervisionTick :
    (after .supervisionTick { State.reset with counter := 32768 }).entries.left.camLost.detail = some 1 := by decide

theorem test_faultAck : results (after .faultAck (serving (asked 8 9 0 []))) = [.ok] := by decide

theorem test_viewRestart : results (after .viewRestart (serving (asked 10 2 0 []))) = [.range] := by decide

theorem test_coverageWrite_normal :
    results (after .coverageWrite (serving (asked 13 0 0 [0, 0, 0, 0, 1, 0, 1, 0]))) = [.serviceOnly] := by decide

theorem test_resetN :
    (after .resetNDeassert (after .resetNAssert State.reset)).resetRecord = { cause := .line, mode := .normal } := by decide

theorem test_idle_tick : State.due { State.reset with counter := 32768, timing := .both { LinkTiming.reset with start := some 20000 } } = [.supervisionTick] := by
  decide

/-! ## Witnesses: a state and operands that meet the hypotheses of each obligation, clause by clause -/

theorem both {P : Channel → Prop} (l : P .left) (r : P .right) (ch : Channel) : P ch := by
  cases ch
  · exact l
  · exact r

theorem serving_executes (r : Request) : (serving r).Executes r := ⟨rfl, rfl⟩

theorem witness_StepTakesFrontCommand : ({ State.reset with pending := [.powerOn] } : State).pending = [.powerOn] := rfl

theorem witness_IdleQueuesDueEventsOrCountsOne :
    ({ State.reset with hold := ⟨false, true, false, false⟩ } : State).held = true ∧ State.reset.due ≠ [] ∧
      ({ State.reset with counter := 1 } : State).due = [] := by decide

/-- R156: the tick of the default schedule, at the transition and beside it, once, and that of the falling edge. -/
theorem test_tickDue :
    let at_ (time : Time) (last : Option Time) (edge : TickEdge) : Bool :=
      ({ State.reset with counter := time, lastTick := last, partParams := ⟨15, edge⟩ } : State).tickDue
    [at_ 32768 (some 0) .rising, at_ 32768 (some 32768) .rising, at_ 32767 (some 0) .rising, at_ 0 none .rising,
      at_ 98304 (some 32768) .rising, at_ 65536 (some 0) .falling, at_ 32768 (some 0) .falling] =
      [true, false, false, false, true, true, false] := by decide

/-- R159, R163, R166: the first display frame start, and a reference start due alone and as one event with it. -/
theorem test_startsDue :
    let tracked (start : Option Time) (aligned : Bool) : State :=
      { State.reset with
        timing := .both
          { source := .tracked, start := start, period := 16667, aligned := aligned, landing := false
            tracker := { Tracker.reset with state := .track, locked := true, nextRef := some 0 } } }
    State.reset.startDue .left = true ∧ (tracked none true).referenceDue .left = false ∧
      (tracked none false).referenceDue .left = true ∧ (tracked (some 5) true).referenceDue .left = true ∧
      (tracked (some 5) true).startDue .left = false ∧
      ({ tracked (some 5) true with counter := 16672 } : State).startDue .left = true := by decide

theorem witness_HeldPartTakesNothing :
    ({ State.reset with hold := ⟨false, false, true, false⟩ } : State).held = true ∧
      Instr.supervisionTick ≠ .powerOn ∧ Instr.supervisionTick ≠ .powerOnConditionEnd ∧
      Instr.supervisionTick ≠ .resetNAssert ∧ Instr.supervisionTick ≠ .resetNDeassert ∧
      Instr.supervisionTick ≠ .refclkLoss ∧ Instr.supervisionTick ≠ .refclkReturn := by decide

/-- R207, R192: each condition sets its own flag beside those that stand. -/
theorem test_conditionFlags :
    let held : State := { State.reset with hold := ⟨false, true, false, false⟩ }
    [(after .powerOn held).hold, (after .resetNAssert State.reset).hold, (after .refclkLoss held).hold] =
      [⟨true, true, false, true⟩, ⟨false, true, false, false⟩, ⟨false, true, true, false⟩] := by decide

/-- Each condition as the last one, and with another still holding. -/
def holding (powerOn resetN clock : Bool) : State := { State.reset with hold := ⟨powerOn, resetN, clock, false⟩ }

theorem witness_LastConditionEndCompletesReset :
    (holding true true false).hold.powerOn = true ∧ (holding true true false).hold.resetN = true ∧
      (holding false true true).hold.resetN = true ∧ (holding false true true).hold.clockAbsent = true ∧
      (holding true false false).hold.resetN = false ∧ (holding false true false).hold.clockAbsent = false ∧
      (holding false false true).hold.powerOn = false := by decide

theorem witness_PacketsAndCellsAreReadByLayout :
    (65535 < 65536 ∧ [65535, 0].length < 65536 ∧ ∀ v ∈ [65535, 0], v < 65536) ∧
      (List.replicate 48 (0 : Byte)).length ≤ 48 ∧
      le32 [1, 2, 0, 2, 1] 1 ≠ (pairSum (([1, 2, 0, 2, 1] : List Byte).take 1)).toNat := by decide

/-- R34, R210: packets that are not taken: unknown kinds, a REPLY declaring 49 bytes, and lengths other than the fields give. -/
theorem test_packetsNotTaken :
    [[6], [0], 5 :: 49 :: List.replicate 49 0, [1, 0], [5, 2, 1], [2, 0, 0], [3, 0, 0, 2, 0, 1, 0], [4, 0, 0, 0]].map
        (fun body => readCameraPacket (withCheck body)) =
      [.discarded, .discarded, .discarded, .discarded, .discarded, .embeddedFailed, .lineFailed, .frameEndFailed] ∧
      readCameraPacket [] = .discarded := by decide

/-- R143, R210: cells that are not taken: unknown kinds, a backlight code 2, a REQUEST declaring 49 bytes, other lengths. -/
theorem test_cellsNotTaken :
    ∀ body ∈ [[15], [19], [16, 0, 0, 2], 18 :: 1 :: 1 :: 0 :: 0 :: 49 :: List.replicate 49 0, [16, 0, 0, 0, 0], [17, 0, 0],
      [18, 1, 1, 0, 0, 2, 0]], readReturnCell (withCheck body) = .discarded := by decide

theorem inLines_buffersSound : (inLines 0 1).BuffersSound :=
  both ⟨⟨by decide, by decide, by decide⟩, by decide⟩ ⟨⟨by decide, by decide, by decide⟩, by decide⟩

/-- The default parameters are legal, whatever else the state holds. -/
theorem defaults_legal {s : State} (hp : s.params = .both .reset) (hq : s.partParams = .reset)
    (hn : s.pendingParams = .both []) : s.ParamsSound := by
  refine both ⟨fun p => ?_, fun pv h => ?_, ?_⟩ ⟨fun p => ?_, fun pv h => ?_, ?_⟩
  · cases p <;> simp only [State.paramValue, hp, hq] <;> exact ⟨by decide, by decide⟩
  · rw [hn] at h
    exact (nomatch h)
  · rw [hn]
    decide
  · cases p <;> simp only [State.paramValue, hp, hq] <;> exact ⟨by decide, by decide⟩
  · rw [hn] at h
    exact (nomatch h)
  · rw [hn]
    decide

/-- A state in which a DISP_WIDTH of 992 is pending on the left channel. -/
def pendingSize (s : State) : State := s.setPending .left [(.dispWidth, [992])]

theorem pendingSize_sound {s : State} (hp : s.params = .both .reset) (hq : s.partParams = .reset)
    (hn : s.pendingParams = .both [] := by rfl) : (pendingSize s).ParamsSound := by
  refine both ⟨fun p => ?_, ?_, ?_⟩ ⟨fun p => ?_, ?_, ?_⟩
  · cases p <;> simp only [State.paramValue, pendingSize, State.setPending, hp, hq] <;> exact ⟨by decide, by decide⟩
  · intro pv h
    simp only [pendingSize, State.setPending, Pair.set, Pair.get, List.mem_cons, List.not_mem_nil, or_false] at h
    subst h
    exact ⟨by decide, by decide⟩
  · simp only [pendingSize, State.setPending, Pair.set, Pair.get]
    decide
  · cases p <;> simp only [State.paramValue, pendingSize, State.setPending, hp, hq] <;> exact ⟨by decide, by decide⟩
  · intro pv h
    simp only [pendingSize, State.setPending, Pair.set, Pair.get, hn] at h
    exact (nomatch h)
  · simp only [pendingSize, State.setPending, Pair.set, Pair.get, hn]
    decide

/-- R56, R57: a FRAME-START that meets a frame in progress in buffer 1 discards it and takes buffer 0 when that is FREE, else
buffer 1 again. -/
theorem test_abandonedBuffer :
    let filled (b0 : Buffer) : FrameStore :=
      (after (.frameStart .left (withCheck [1])) ((inLines 0 1).setStore .left
        { b0 := b0, b1 := .filling picture, b2 := .free, released := false })).store.left
    ((filled .free).b0.isFilling = true ∧ (filled .free).b1 = .free) ∧
      (filled (.ready picture 8)).b0 = .ready picture 8 ∧ (filled (.ready picture 8)).b1.isFilling = true := by
  decide +kernel

/-- With no frame in progress, and with one that is abandoned. -/
theorem witness_FrameStartBeginsFrame :
    (State.reset.held = false ∧ readCameraPacket (withCheck [1]) = .frameStart ∧
      State.reset.receiver.left.assembly.inProgress = false) ∧
      ((inLines 0 1).held = false ∧ (inLines 0 1).receiver.left.assembly.inProgress = true) ∧
      (inLines 0 1).BuffersSound ∧ (inLines 0 1).ParamsSound :=
  ⟨by decide, by decide, inLines_buffersSound, defaults_legal rfl rfl rfl⟩

/-- A frame of five columns by five rows with listed positions and a phase. -/
def listed (defects : List (Nat × Nat)) (bayer : Nat) : FrameFacts :=
  { facts 0 5 with width := 5, defects := defects, develop := { DevelopTable.default with bayer := bayer } }

/-- Each case of R46 at a position of the frame, the first and the last column among them; each colour of R48 at a corner of
the frame. -/
theorem witness_DevelopedRowsFollowIntake :
    ((2, 2) ∈ (listed [(2, 2)] 0).defects ∧ (2 - 2, 2) ∉ (listed [(2, 2)] 0).defects ∧ 2 + 2 < (listed [] 0).width ∧
      (2 + 2, 2) ∉ (listed [(2, 2)] 0).defects ∧ (0, 0) ∉ (listed [(2, 2)] 0).defects) ∧
    (¬(2 ≤ 0) ∧ (0 + 2, 0) ∈ (listed [(0, 0), (2, 0)] 0).defects ∧ (0, 0 + 2) ∉ (listed [(0, 0), (2, 0)] 0).defects ∧
      (0, 0 + 2) ∈ (listed [(0, 0), (2, 0), (0, 2)] 0).defects) ∧
    (¬(4 + 2 < (listed [] 0).width) ∧ (4 - 2, 4) ∈ (listed [(2, 4), (4, 4)] 0).defects ∧
      (4, 4 - 2) ∉ (listed [(2, 4), (4, 4)] 0).defects ∧ (4 - 2, 4) ∉ (listed [(4, 4)] 0).defects) ∧
    (siteOf (listed [] 0).develop.bayer 0 0, siteOf (listed [] 3).develop.bayer 4 4, siteOf (listed [] 1).develop.bayer 0 0,
      siteOf (listed [] 2).develop.bayer 0 4) = (.red, .blue, .greenInRed, .greenInBlue) := by decide

/-- A LINE of row `index` with pixels. -/
def lineOf (index : Nat) (pixels : List Nat) : List Byte :=
  withCheck (toLe 1 3 ++ toLe 2 index ++ toLe 2 pixels.length ++ (pixels.map (toLe 2)).flatten)

theorem witness_HeaderAndLinesAreTaken :
    readCameraPacket (withCheck [2, 232, 3, 0]) = .embedded 1000 0 ∧
      (State.reset.setReceiver .left { State.reset.receiver.left with assembly := .header (facts 0 1) }).receiver.left.assembly =
        .header (facts 0 1) ∧
      (inLines 0 1).receiver.left.assembly = .lines (facts 0 1) 1001 0 ∧
      readCameraPacket (lineOf 0 [4095, 4096]) = .line (facts 0 1).nextLine [4095, 4096] ∧
      (facts 0 1).nextLine < (facts 0 1).height ∧ [4095, 4096].length = (facts 0 1).width := by decide

/-- The left receiver in HEADER, its buffer filling. -/
def inHeader : State := (inLines 0 1).setReceiver .left { State.reset.receiver.left with assembly := .header (facts 0 1) }

/-- The left receiver in DISCARD. -/
def discarding : State := State.reset.setReceiver .left { State.reset.receiver.left with assembly := .discard }

/-- A packet for each row of the statement, failed ones first, and a state in each phase. -/
theorem witness_MalformedFrameIsDropped :
    (readCameraPacket [2, 0] = .embeddedFailed ∧ readCameraPacket [3, 0, 0, 0, 0, 1, 1, 1, 1] = .lineFailed ∧
      readCameraPacket [4, 0] = .frameEndFailed ∧ readCameraPacket (withCheck [2, 232, 3, 0]) = .embedded 1000 0) ∧
      (inHeader.receiver.left.assembly = .header (facts 0 1) ∧ (inLines 0 1).receiver.left.assembly = .lines (facts 0 1) 1001 0 ∧
        discarding.receiver.left.assembly = .discard ∧ State.reset.receiver.left.assembly = .idle) ∧
      (readCameraPacket (lineOf 1 [1, 2]) = .line 1 [1, 2] ∧ 1 ≠ (facts 0 1).nextLine) ∧
      (readCameraPacket (lineOf 1 [1, 2]) = .line (facts 1 1).nextLine [1, 2] ∧
        (facts 1 1).height ≤ (facts 1 1).nextLine) ∧
      (readCameraPacket (lineOf 0 [1]) = .line (facts 0 1).nextLine [1] ∧ (facts 0 1).nextLine < (facts 0 1).height ∧
        [1].length ≠ (facts 0 1).width) ∧
      (readCameraPacket (withCheck [4, 1, 0]) = .frameEnd 1 ∧ (facts 0 1).nextLine ≠ (facts 0 1).height) ∧
      (readCameraPacket (withCheck [4, 2, 0]) = .frameEnd 2 ∧ 2 ≠ (facts 1 1).height) ∧
      acquiring.state ≠ .off ∧ State.reset.timing.left.tracker.state = .off := by decide

/-- The left receiver in LINES with a READY buffer waiting. -/
def superseding : State :=
  (inLines 1 1).setStore .left { (inLines 1 1).store.left with b1 := .ready picture 1000 }

/-- R57: the completed frame supersedes the READY buffer; a frame with a repeated counter leaves it. -/
theorem test_supersede :
    let ended (s : State) : FrameStore := (after (.frameEnd .left (withCheck [4, 1, 0])) s).store.left
    (ended superseding).b1 = .free ∧ (ended superseding).b0.isReady = true ∧
      (ended (superseding.setReceiver .left { superseding.receiver.left with reference := some 1001 })).b1 =
        .ready picture 1000 := by decide +kernel

theorem witness_GoodFrameEndJudgesFrame :
    ((inLines 1 1).receiver.left.assembly = .lines (facts 1 1) 1001 0 ∧
      readCameraPacket (withCheck [4, 1, 0]) = .frameEnd (facts 1 1).height ∧ (facts 1 1).nextLine = (facts 1 1).height ∧
      (inLines 1 1).store.left.get .b0 = .filling picture ∧ (inLines 1 1).receiver.left.reference ≠ some 1001 ∧
      superseding.store.left.get .b1 = .ready picture 1000 ∧
      2 ≤ ((1001 : BitVec 16) - 999).toNat ∧ ((1001 : BitVec 16) - 33770).toNat = 32767) ∧ (inLines 1 1).BuffersSound :=
  ⟨by decide, both ⟨⟨by decide, by decide, by decide⟩, by decide⟩ ⟨⟨by decide, by decide, by decide⟩, by decide⟩⟩

/-- The left channel's pass WAITING for link R, at a tick. -/
def passing (ticks : Nat) : State :=
  { State.reset.setReceiver .left { State.reset.receiver.left with pass := .waiting .right 9 ticks } with counter := 32768 }

theorem witness_CameraPassIsSentAndAnsweredOnce :
    (channelOf 2 = none ∧ (asked 12 0 0 (List.replicate 40 1)).payload.length ≤ 40 ∧
      41 ≤ (asked 12 0 0 (List.replicate 41 1)).payload.length ∧ (asked 12 0 0 []).payload.length = 0 ∧
      (passing 0).receiver.left.pass ≠ .idle) ∧
      (passing 0).receiver.left.pass = .waiting .right 9 0 ∧ readCameraPacket (withCheck [5, 1, 77]) = .reply [77] ∧
      (passing 1).receiver.left.pass = .waiting .right 9 1 ∧ (passing 1).tickDue = true ∧ (passing 1).held = false ∧
      State.reset.receiver.left.pass = .idle := by decide +kernel

theorem witness_DiscardsChangeNothingElse :
    readCameraPacket [6] = .discarded ∧ State.reset.receiver.left.assembly = .idle ∧
      readCameraPacket [2, 0] = .embeddedFailed ∧ readCameraPacket [3, 0] = .lineFailed ∧
      readCameraPacket [4, 0] = .frameEndFailed ∧ readReturnCell (withCheck [16, 0, 0, 2]) = .discarded := by decide

/-- The left detector with a night flag and a dwell count, in a mode. -/
def detecting (mode : NightMode) (night : Bool) (dwell : Nat) : State :=
  (State.reset.setGlare .left { State.reset.glare.left with night := night, dwell := dwell }).setParams .left
    { State.reset.params.left with nightMode := mode }

theorem witness_MonitorStatusDoesThreeThings :
    readReturnCell (withCheck [16, 20, 0, 1]) = .monitorStatus 20 true ∧
      (detecting .day false 0).params.left.nightMode ≠ .auto ∧
      ((detecting .auto false 0).glare.left.night = false ∧ (detecting .auto false 0).params.left.nightEnter < 21) ∧
      ((detecting .auto true 0).glare.left.night = true ∧
        59 < max (detecting .auto true 0).params.left.nightExit ((detecting .auto true 0).params.left.nightEnter + 1)) ∧
      (detecting .auto false 29).params.left.nightDwell ≤ (detecting .auto false 29).glare.left.dwell + 1 ∧
      ¬(detecting .auto false 28).params.left.nightDwell ≤ (detecting .auto false 28).glare.left.dwell + 1 := by decide

/-- Link L expecting two signatures. -/
def expecting : State := State.reset.setLink .left { State.reset.link.left with expected := [(1, 10), (2, 20), (3, 30)] }

theorem witness_SignatureIsMatched :
    readReturnCell (withCheck [17, 2, 0, 20, 0, 0, 0]) = .signature 2 20 ∧
      expecting.link.left.expected = [(1, 10)] ++ (2, 20) :: [(3, 30)] ∧ (∀ e ∈ [((1 : Seq), (10 : Check))], e.1 ≠ 2) ∧
      (∀ e ∈ expecting.link.left.expected, e.1 ≠ 4) := by
  refine ⟨by decide, rfl, ?_, ?_⟩ <;> simp [expecting, State.setLink, Pair.set]

/-- Link L with requests queued. -/
def queued (n : Nat) : State :=
  State.reset.setLink .left { State.reset.link.left with requests := List.replicate n (asked 1 0 0 [0]) }

theorem witness_RequestsQueueAndAreServedInTurn :
    readReturnCell [18, 7, 8, 2, 0, 0, 36, 0, 187, 0] = .request 7 8 2 0 [] ∧ (queued 7).slotsHeld .left = 7 ∧
      (queued 8).slotsHeld .left = 8 ∧ (queued 1).agent.executing = none ∧
      ((queued 1).link.get (otherLink (queued 1).agent.lastServed)).requests = [asked 1 0 0 [0]] ∧
      (({ queued 1 with agent := { executing := none, lastServed := .left } } : State).link.get (otherLink .left)).requests
        = [] := by decide +kernel

theorem witness_QueriesAnswerTheirRecords :
    channelOf 1 = some .right ∧ (79 : Byte).toNat ≤ 79 ∧ State.reset.glare.left.tiles[79]? = some Tile.reset ∧
      kindOfNumber (13 : Byte).toNat = some .glareSaturated ∧ (31 : Byte).toNat ≤ 31 ∧
      tableOfNumber (12 : Byte).toNat = some .faultActions ∧ paramOfId 29 = some .tickEdge ∧
      paramChannel .tickEdge 9 = some .left ∧ paramOfId 28 = some .tickBit ∧ paramChannel .camWidth 1 = some .right ∧
      (asked 1 1 79 [3]).kind = 1 ∧ (expecting.link.get .left).expected[2]? = some (3, 30) ∧
      (expecting.link.get .left).expected[3]? = none ∧ State.reset.history[0]? = none ∧
      (acquiring.nextRef, acquiring.frameEnd, acquiring.lastError) = (some 0, none, none) := by decide +kernel

/-- R171: with the tick of 32768 due, the next tick is at the counter (assumption 35), else at the next transition. -/
theorem test_nextTick :
    (passing 0).nextTick = 32768 ∧ ({ passing 0 with lastTick := some 32768 } : State).nextTick = 98304 := by decide

/-- R161: TRACKER ON sets the next reference start at the link's next display frame start. -/
theorem test_trackerOn :
    ({ LinkTiming.reset with start := some 100, period := 16667 } : LinkTiming).nextStart = 16767 ∧
      (({ LinkTiming.reset with start := some 100, period := 16667 } : LinkTiming).trackerOn ChannelParams.reset).tracker.nextRef =
        some 16767 := by decide

/-- R204: clamped to the nearer end and rounded down to the step, at and beyond both ends. -/
theorem test_taken :
    [0, 639, 641, 2047, 2049].map (fun v => Param.taken .camWidth [v]) = [[640], [640], [640], [2046], [2048]] ∧
      [479, 495, 1000, 1281].map (fun v => Param.taken .dispWidth [v]) = [[480], [480], [992], [1280]] ∧
      Param.taken .checkWindow [1280, 1919, 0, 1921] = [1279, 1919, 1, 1920] := by decide

theorem witness_SetStagesByClass :
    (Param.ranges .checkWindow)[3]? = some (1, 1920) ∧ ([0, 0, 1, 1921] : List Nat)[3]? = some 1921 ∧
      [700].length = (Param.ranges .camWidth).length ∧ Param.cls .holdLimit = .display ∧
      paramOfId (asked 2 0 2 [255]).item = some .holdLimit ∧ (asked 2 0 2 [255]).payload.length = Param.width .holdLimit ∧
      Param.badCode .holdLimit (Param.read .holdLimit [255]) = false ∧ Param.cls .camWidth = .camera ∧
      paramOfId (asked 2 0 0 [0, 8]).item = some .camWidth ∧ (asked 2 0 0 [0, 8]).payload.length = Param.width .camWidth ∧
      (inLines 0 1).receiver.left.assembly.inProgress = true ∧
      (serving (asked 2 0 0 [0, 8])).receiver.left.assembly.inProgress = false ∧ Param.cls .nightMode = .part ∧
      paramOfId (asked 2 0 24 [2]).item = some .nightMode ∧
      Param.badCode .nightMode (Param.read .nightMode [2]) = false ∧ [2] ≠ [State.reset.params.left.nightMode.code] ∧
      [0] = [State.reset.params.left.nightMode.code] ∧ paramOfId (asked 2 0 28 [15]).item = some .tickBit ∧
      Param.taken .tickBit [15] = [State.reset.partParams.tickBit] ∧ Param.taken .tickBit [255] = [24] ∧
      paramOfId (asked 2 0 29 [1]).item = some .tickEdge ∧ paramChannel .tickEdge 9 = some .left := by decide

/-- Link L's request on table 2, the Defect List of the left channel, its staged bank and lock as given. -/
def loading (kind : Byte) (payload : List Byte) (x : Staged) (l : Lock) : State :=
  staged (serving (asked kind 0 2 payload)) (.defectList .left) x l

theorem witness_loading (kind : Byte) (payload : List Byte) (x : Staged) (l : Lock) :
    (loading kind payload x l).Executes (asked kind 0 2 payload) ∧
      ((loading kind payload x l).table (.defectList .left)).staged = x ∧
      ((loading kind payload x l).table (.defectList .left)).lock = l ∧
      tableOfNumber (asked kind 0 2 payload).item.toNat = some (.defectList .left) := ⟨⟨rfl, rfl⟩, rfl, rfl, rfl⟩

theorem witness_TableOpenInOrder :
    (asked 3 0 2 [2, 16]).payload.length = 2 ∧
      TableId.legalLength (.defectList .left) (le16 [2, 16] 0) = true ∧
      TableId.legalLength (.defectList .left) (le16 [3, 16] 0) = false ∧ Lock.locked ≠ .unlocked ∧
      Staged.loading emptyList ≠ .idle := by decide

theorem witness_TableDataInOrder :
    (∀ load, Staged.idle = .loading load → load.owner ≠ .left) ∧
      le16 [0, 0] 0 = 0 ∧ (asked 4 0 2 [0, 0]).payload.length < 3 ∧
      (asked 4 0 2 (List.replicate 46 0)).payload.length ≤ 46 ∧ 46 < (asked 4 0 2 (List.replicate 47 0)).payload.length ∧
      le16 (asked 4 0 2 [1, 0, 5]).payload 0 ≠ ([] : List Byte).length :=
  ⟨fun _ h => (nomatch h), by decide⟩

theorem witness_TableCommitInOrder :
    Staged.idle.owner ≠ some .left ∧ (Staged.swapWait emptyList 0).owner = some .left ∧
      (∀ load, Staged.swapWait emptyList 0 ≠ .loading load) ∧ (Staged.loading emptyList).owner = some .left ∧
      emptyList.declared ≤ emptyList.bytes.length ∧
      ({ emptyList with bytes := [0] } : Load).bytes.length < emptyList.declared :=
  ⟨by decide, by decide, fun _ h => (nomatch h), by decide, by decide, by decide⟩

theorem witness_TableAbandonEndsLoad :
    (Staged.verifying emptyList 0 9).owner = some .left ∧ (Staged.loading emptyList).owner = some .left ∧
      Staged.idle.owner ≠ some .left ∧ (asked 6 0 2 []).kind = 6 := by decide

theorem witness_TableLocksMoveByRule :
    (loading 7 [1] .idle .lockedDown).pins.drive = false ∧
      ({ loading 7 [1] .idle .lockedDown with pins := { State.reset.pins with drive := true } } : State).pins.drive = true ∧
      (asked 7 0 2 [1]).kind = 7 := by decide

theorem witness_UnknownFieldsAreRefused :
    11 ≤ (11 : Byte).toNat ∧ channelOf 2 = none ∧ 80 ≤ (80 : Byte).toNat ∧ 14 ≤ (14 : Byte).toNat ∧
      32 ≤ (32 : Byte).toNat ∧ 13 ≤ (13 : Byte).toNat ∧ paramOfId 30 = none ∧ Param.partScope .nightMode = false ∧
      paramOfId 24 = some .nightMode ∧ [(3 : Byte)].length ≠ Param.width .camWidth ∧ 3 ≤ byteAt [3] 0 ∧
      2 ≤ byteAt [2] 0 ∧ (asked 16 0 0 []).kind.toNat = 16 ∧ Param.partScope .camWidth = false ∧
      (asked 7 0 13 [2]).item.toNat = 13 ∧ tableOfNumber 12 = some .faultActions ∧ tableOfNumber 0 = some (.develop .left) ∧
      (asked 4 0 2 [0]).payload.length < 2 ∧ 48 < (asked 4 0 2 (List.replicate 49 0)).payload.length ∧
      (asked 9 2 0 [1]).channel.toNat ≤ 2 ∧ (asked 11 0 3 []).item.toNat = 3 ∧ channelOf 1 = some .right ∧
      Staged.idle.owner ≠ some .left ∧ (Staged.loading emptyList).owner = some .left := by decide

/-- The left TABLE_CORRUPT entry LATCHED and unacknowledged. -/
def latched (r : Request) : State :=
  (serving r).setEntry .left .tableCorrupt
    { FaultEntry.reset .tableCorrupt with state := .latched, occurrences := 1, unacknowledged := true }

theorem witness_AckClearsMarksAndClearUnlatches :
    (latched (asked 9 2 0 [])).faultN = true ∧ ((latched (asked 9 2 0 [])).entry .left .tableCorrupt).state = .latched ∧
      ((latched (asked 9 2 0 [])).entry .right .tableCorrupt).state ≠ .latched ∧
      channelsNamed (asked 9 2 0 []).channel = some [.left, .right] ∧ 3 ≤ (asked 9 3 0 []).channel.toNat := by decide

/-- The left view LIVE in a line that shows the left buffer 0. -/
def showing (line : Option Nat) : State :=
  staging ((viewing .live 0 (recordOf .live (some .b0) false)).setStore .left
    { State.reset.store.left with b0 := .shown picture 7 1 }) .activeLines 1 line

/-- A VIEW-RESTART with a pass WAITING for the other link, a line in progress, a tracker that is not OFF, and no CORRUPT bank. -/
theorem witness_ViewRestartBeginsChannelAfresh :
    (channelOf (asked 10 1 0 []).channel = some .right ∧ (serving (asked 10 1 0 [])).link.right.frame.lineInProgress = none) ∧
      ((passing 1).receiver.left.pass = .waiting .right 9 1 ∧ Channel.right ≠ (asked 10 0 0 []).link) ∧
      ((tracking acquiring).timing.left.tracker.state ≠ .off ∧ State.reset.timing.left.tracker.state = .off) ∧
      ((showing (some 0)).link.left.frame.lineInProgress ≠ none ∧ ((showing (some 0)).store.left.get .b0).isShown = true) ∧
      (∀ x ∈ cameraTables .left, (State.reset.table x).active.state ≠ .corrupt) := by decide +kernel

/-- Assumption 17: a restart whose boundary swaps over a CORRUPT bank leaves TABLE_CORRUPT cleared and the view in START. -/
theorem test_restartOverCorrupt :
    let corrupt : TableEntry :=
      { active := ⟨.corrupt, 2, 5, 1, [0, 0]⟩, staged := .swapWait emptyList 131073, lock := .locked }
    let s := (serving (asked 10 0 0 [])).setTable (.defectList .left) corrupt
    let t := after .viewRestart s
    (t.table (.defectList .left)).active.state = .valid ∧ (t.entry .left .tableCorrupt).state = .inactive ∧
      t.faultN = false ∧ t.view.left.state = .start := by decide +kernel

theorem witness_TimingSettingsTakeEffect :
    channelOf (asked 11 0 2 [1]).channel = some .left ∧ (asked 11 0 2 [1]).payload = [1] ∧ Bandwidth.code .narrow = 2 ∧
      ({ LinkTiming.reset with source := .tracked } : LinkTiming).source = .tracked ∧
      ({ LinkTiming.reset with tracker := { acquiring with locked := true } } : LinkTiming).tracker.locked = true ∧
      LinkTiming.reset.tracker.locked = false := by decide +kernel

/-- The left record FIXED, WRITTEN or UNWRITTEN, in SERVICE. -/
def covering (x : Coverage) : State := { State.reset.setCoverage .left x with resetRecord := ⟨.powerOn, .service⟩ }

/-- A Warp Mesh of one mesh whose points are all (0, 0). -/
def flatMesh : List Byte := 1 :: List.replicate 792 0

theorem witness_CoverageRequestsInOrder :
    (covering .unwritten).resetRecord.mode = .service ∧ State.reset.resetRecord.mode = .normal ∧
      (covering (.fixed ⟨0, 0, 1, 1⟩)).coverage.left = .fixed ⟨0, 0, 1, 1⟩ ∧
      Rect.legal ⟨0, 0, 2047, 1535⟩ = true ∧ Rect.legal ⟨5, 0, 5, 1⟩ = false ∧
      (Staged.swapWait emptyList 0).committed = true ∧ (Staged.loading emptyList).committed = false ∧
      coverageFailure flatMesh ⟨0, 0, 1, 1⟩ = some (0, .highX) := by decide +kernel

theorem witness_PartResetFollowsItsAnswer :
    (staging State.reset (.ancillary 0 true) 0 none).link.left.frame.stage = .ancillary 0 true ∧
      (staging State.reset (.ancillary 0 false) 0 none).link.left.frame.stage = .ancillary 0 false := by decide

/-- A verify of the left Defect List running, with a supplied checksum. -/
def verifying (t : TableId) (load : Load) (supplied : Check) : State :=
  (staged State.reset t (.verifying load supplied 9) .locked).setTables
    { (staged State.reset t (.verifying load supplied 9) .locked).tables with
      verifyQueue := [t], verifying := some t }

theorem witness_VerifiesEndWithFirstFailingCheck :
    (verifying (.defectList .left) emptyList 0).tables.verifying = some (.defectList .left) ∧
      ((verifying (.defectList .left) emptyList 0).table (.defectList .left)).staged = .verifying emptyList 0 9 ∧
      pairSum (emptyList.bytes.take emptyList.declared) ≠ 0 ∧ pairSum emptyList.bytes = 131073 ∧
      TableId.offendingItem (.defectList .left) emptyList.bytes = none ∧
      TableId.offendingItem (.defectList .left) [1, 0] = some 0 ∧
      (coverageFailure flatMesh ⟨0, 0, 1, 1⟩).isSome = true := by decide +kernel

/-- R3 to R9: the lowest item that offends, at the bounds of each kind. -/
theorem test_offendingItem :
    TableId.offendingItem (.develop .left) ([255, 3, 3] ++ List.replicate 24 0) = none ∧
      TableId.offendingItem (.develop .left) ([0, 4, 4] ++ List.replicate 24 0) = some 0 ∧
      TableId.offendingItem (.develop .left) ([255, 3, 4] ++ List.replicate 24 0) = some 1 ∧
      TableId.offendingItem (.defectList .left) [2, 0, 5, 0, 1, 0, 5, 0, 1, 0] = some 2 ∧
      TableId.offendingItem (.defectList .left) [2, 0, 5, 0, 1, 0, 4, 0, 2, 0] = none ∧
      TableId.offendingItem (.toneCurves .left) (List.replicate 65 9 ++ List.replicate 65 3) = none ∧
      TableId.offendingItem (.toneCurves .left) (List.replicate 64 9 ++ List.replicate 66 3) = some 64 ∧
      TableId.offendingItem (.glareResponse .left) ([1, 1] ++ List.replicate 30 0) = some 0 ∧
      TableId.offendingItem (.glareResponse .left) ([0, 1] ++ List.replicate 30 0) = none ∧
      TableId.offendingItem .faultActions (List.replicate 65 1) = none ∧
      TableId.offendingItem .faultActions ([2, 0] ++ List.replicate 63 1) = some 0 ∧
      TableId.offendingItem (.overlaySet .left) [17, 0, 0] = some 0 ∧
      TableId.offendingItem (.overlaySet .left) [0, 0, 0] = none := by decide +kernel

/-- A table CORRUPT, with a load waiting to swap over it. -/
def corrupted (t : TableId) : State :=
  State.reset.setTable t
    { State.reset.table t with active := ⟨.corrupt, 0, 0, 1, []⟩, staged := .swapWait emptyList 5 }

theorem witness_SwapReplacesActiveBank :
    ((staged State.reset (.warpMesh .left) (.swapWait emptyList 5) .locked).table (.warpMesh .left)).staged =
      .swapWait emptyList 5 ∧
      ((staged State.reset (.warpMesh .left) (.swapWait emptyList 5) .locked).table (.warpMesh .left)).active.state ≠
        .corrupt ∧
      ((corrupted (.warpMesh .left)).table (.warpMesh .left)).active.state = .corrupt ∧
      ((corrupted (.warpMesh .left)).table (.warpMesh .left)).staged = .swapWait emptyList 5 ∧
      ((corrupted (.develop .left)).table (.warpMesh .left)).active.state ≠ .corrupt ∧
      Channel.right ∈ TableId.faultActions.channels ∧ Channel.right ∉ (TableId.warpMesh .left).channels := by decide

/-- R20: a swap over the only CORRUPT bank is a clean evaluation, and one that leaves another CORRUPT an observation of it. -/
theorem test_swap_over_corrupt :
    (((corrupted (.warpMesh .left)).swapIfWaiting (.warpMesh .left)).entry .left .tableCorrupt).detail = none ∧
      ((((corrupted (.warpMesh .left)).setTable .faultActions
        { State.reset.table .faultActions with active := ⟨.corrupt, 0, 0, 0, []⟩ }).swapIfWaiting (.warpMesh .left)).entry .left
          .tableCorrupt).detail = some 12 := by decide +kernel

/-- A scrub step of the left Warp Mesh after `n` bytes of its two. -/
def scrubbing (checksum : Check) (n : Nat) : State :=
  let e := State.reset.table (.warpMesh .left)
  let s := State.reset.setTable (.warpMesh .left)
    { e with active := { state := .valid, length := 2, checksum := checksum, generation := 1, bytes := [16, 32] } }
  s.setTables { s.tables with
    scrub := some
      { table := .warpMesh .left, suspended := false, reached := n, acc := PairAcc.start.over (([16, 32] : List Byte).take n) } }

theorem witness_ScrubStepComparesPairSum :
    (scrubbing 4325425 1).tables.scrub =
        some { table := .warpMesh .left, suspended := false, reached := 1, acc := PairAcc.start.over [16] } ∧
      pairSum (((scrubbing 4325425 1).table (.warpMesh .left)).active.bytes.take 2) = 4325425 ∧
      pairSum (((scrubbing 0 2).table (.warpMesh .left)).active.bytes.take 2) ≠ 0 := by decide

/-- The left view in a state when its Warp Mesh is found corrupt, with table 12 as given. -/
def losingMesh (view : ViewState) (actions : ActiveBank) : State :=
  ((scrubbing 0 2).setView .left { state := view, holdTimer := 3, record := some (recordOf view none false) }).setTable
    .faultActions { State.reset.table .faultActions with active := actions }

/-- R63, R65, R66: LIVE and HOLD enter FALLBACK; START stays, and leaves only where TABLE_CORRUPT drives FALLBACK. -/
theorem test_meshLost :
    let ended (s : State) : ViewState × Nat :=
      ((after .scrubStepEnd s).view.left.state, (after .scrubStepEnd s).view.left.holdTimer)
    let empty : ActiveBank := TableEntry.reset.active
    let driving : ActiveBank := ⟨.valid, 65, 0, 1, (List.replicate 13 [2, 1, 1, 1, 1]).flatten⟩
    [ended (losingMesh .live empty), ended (losingMesh .hold empty), ended (losingMesh .start empty),
      ended (losingMesh .fallback empty), ended (losingMesh .start driving)] =
      [(.fallback, 0), (.fallback, 0), (.start, 3), (.fallback, 3), (.fallback, 0)] := by decide +kernel

/-- The left view LIVE, and Fault Actions in force that send it to FALLBACK at every new observation of CAM_SENSOR. -/
def drivingFallback : State :=
  (viewing .live 0 (recordOf .live none false)).setTable .faultActions
    { State.reset.table .faultActions with
      active := ⟨.valid, 65, 0, 1, (List.replicate 13 [2, 1, 1, 1, 1]).flatten⟩ }

/-- Fault Actions in force and built in, and an evaluation that begins to drive each action. -/
theorem witness_EvaluationReachesViewAndHistory :
    ((drivingFallback.table .faultActions).active.state = .valid ∧ (State.reset.table .faultActions).active.state ≠ .valid ∧
      byteAt (drivingFallback.table .faultActions).active.bytes 15 = 2 ∧
      byteAt (drivingFallback.table .faultActions).active.bytes 64 ≤ 1) ∧
      (drivingFallback.judged .left .camSensor (some 1)).applied.action = .fallback ∧
      (drivingFallback.judged .left .camSensor (some 1)).state = .active ∧
      (State.reset.judged .left .camLost (some 1)).applied.action = .hold ∧
      (State.reset.judged .left .camLost (some 1)).state = .active ∧
      (State.reset.judged .left .camFrozen (some 1)).state = .pending ∧
      (State.reset.entry .left .camLost).state = .inactive ∧
      (viewing .live 0 (recordOf .live (some .b0) true)).view.left.state = .live := by decide +kernel

/-- The left Warp Mesh VALID, no scrub step, the position at a table. -/
def scrubbable (position : Nat) : State :=
  (scrubbing 0 0).setTables { (scrubbing 0 0).tables with
    scrub := none, scrubPosition := (tableOfNumber position).getD .faultActions }

theorem witness_SupervisionTickReachesItsBlocks :
    (passing 1).held = false ∧ (passing 1).tickDue = true ∧ (passing 1).receiver.left.pass = .waiting .right 9 1 ∧
      (passing 0).receiver.left.pass = .waiting .right 9 0 ∧ (passing 0).tables.scrub = none ∧
      (passing 2).receiver.left.pass = .waiting .right 9 (1 + 1) ∧
      (scrubbing 0 1).tables.scrub.isSome = true ∧ (scrubbable 0).tables.scrub = none ∧
      tableOfNumber (((scrubbable 0).tables.scrubPosition.number + 4) % 13) = some (.warpMesh .left) ∧
      tableOfNumber (((scrubbable 5).tables.scrubPosition.number + 12) % 13) = some (.warpMesh .left) ∧
      ((scrubbable 0).table (.warpMesh .left)).active.state = .valid ∧
      ((scrubbable 0).table (.develop .left)).active.state ≠ .valid := by decide

/-- The left store with a READY and a SHOWN buffer, the left mesh VALID, in a view state. -/
def deciding (view : ViewState) (timer : Nat) (ready shown : Bool) : State :=
  ((viewing view timer (recordOf view none false)).setStore .left
    { b0 := if ready then .ready picture 8 else .free, b1 := if shown then .shown picture 7 255 else .free, b2 := .free
      released := false }).setTable (.warpMesh .left)
    { State.reset.table (.warpMesh .left) with active := ⟨.valid, 793, 0, 1, flatMesh⟩ }

/-- A start at which a size, or a GAIN_FLOOR, takes effect, and one with no CORRUPT table. -/
theorem witness_DisplayFrameStartOpensFrame :
    (State.reset.held = false ∧ State.reset.startDue .left = true ∧
      ((staged State.reset (.overlaySet .left) (.swapWait emptyList 5) .locked).startDue .left = true) ∧
      ((after (.displayFrameStart .left) (pendingSize State.reset)).params.left.dispWidth, State.reset.params.left.dispWidth)
        = (992, 800) ∧
      (after (.displayFrameStart .left) (State.reset.setPending .left [(.gainFloor, [256])])).params.left.gainFloor = 256 ∧
      (∀ x ∈ displayTables .left, (State.reset.table x).active.state ≠ .corrupt) ∧
      (after (.displayFrameStart .left) State.reset).view.left.state = .start ∧
      ((after (.displayFrameStart .left) (deciding .live 0 true true)).view.left.record.map FrameRecord.mesh) =
        some (some .primary) ∧
      (after (.displayFrameStart .left) (deciding .live 0 true true)).glare.left.hot = List.replicate 80 0) ∧
      (pendingSize .reset).ParamsSound :=
  ⟨by decide +kernel, pendingSize_sound rfl rfl⟩

/-- Each clause's hypotheses: a start with a tracker OFF, a hold timer at its limit, a record that VIEW-RESTART amends, and an
evaluation that enters FALLBACK. -/
theorem witness_ConditionsAreEvaluatedAtStartAndAmendment :
    (State.reset.startDue .left = true ∧ State.reset.timing.left.tracker.state = .off) ∧
      ((viewing .hold 29 (recordOf .hold none false)).startDue .left = true ∧
        (viewing .hold 29 (recordOf .hold none false)).reachesHoldLimit .left = true ∧
        (viewing .hold 29 (recordOf .hold none false)).view.left.record = some (recordOf .hold none false)) ∧
      (channelOf (asked 10 1 0 []).channel = some .right ∧
        ((serving (asked 10 1 0 [])).setView .right { state := .hold, holdTimer := 1, record := some (recordOf .hold none true) }
          ).view.right.record = some (recordOf .hold none true)) ∧
      ((drivingFallback.view.left.state ≠ .fallback) ∧
        ((drivingFallback.evaluate .left .camSensor (some 1)).view.get .left).state = .fallback ∧
        drivingFallback.view.left.record = some (recordOf .live none false)) := by decide +kernel

/-- R126, codes 8 and 9: the record amended for FALLBACK. -/
theorem test_conditions :
    ((drivingFallback.evaluate .left .camSensor (some 1)).view.left.record.map fun r =>
      (r.conditions.getLsbD 8, r.conditions.getLsbD 9, r.conditions.getLsbD 10)) = some (true, true, false) := by decide +kernel

theorem witness_FrameIsDecidedInFourSteps :
    ((deciding .hold 29 true true).startDue .left = true ∧ (deciding .hold 29 true true).timing.left.tracker.state = .off ∧
      (deciding .hold 29 true true).store.left.find Buffer.isReady = some .b0 ∧
      (deciding .hold 29 true true).meshValid .left = true ∧ (deciding .hold 29 true true).withheld .left = false) ∧
      (deciding .start 0 false false).mayGoLive .left = false ∧
      ((deciding .hold 29 false true).mayGoLive .left = false ∧
        (deciding .hold 29 false true).params.left.holdLimit ≤ (deciding .hold 29 false true).view.left.holdTimer + 1) ∧
      ((deciding .hold 28 false true).view.left.holdTimer + 1 < (deciding .hold 28 false true).params.left.holdLimit ∧
        (deciding .hold 28 false true).store.left.find Buffer.isShown = some .b1) ∧
      (deciding .live 0 false true).store.left.hasReady = false := by decide

theorem witness_FallbackReleasesShownBuffer :
    (deciding .hold 29 false true).startDue .left = true ∧ (deciding .hold 29 false true).reachesHoldLimit .left = true ∧
      (deciding .hold 29 false true).link.left.frame.lineInProgress = none ∧
      (staging State.reset .activeLines 1 (some 0)).link.left.frame.lineInProgress = some 0 ∧
      (staging (deciding .hold 29 false true) .activeLines 1 (some 0)).reachesHoldLimit .left = true ∧
      (after (.holdLimitReached .left) (staging (deciding .hold 29 false true) .activeLines 1 (some 0))).store.left.released =
        true := by decide +kernel

/-- The left link about to start the last line of its frame. -/
def lining (view : ViewState) : State :=
  staging ((viewing view 0 (recordOf view (some .b0) false)).setStore .left
    { State.reset.store.left with b0 := .shown picture 7 1 }) .activeLines 1279 none

theorem witness_ActiveLineShowsWhatRecordSays :
    (lining .hold).lineCanStart .left = true ∧ (lining .hold).view.left.record = some (recordOf .hold (some .b0) false) ∧
      ((lining .hold).store.left.get .b0).picture = some picture ∧
      (recordOf .start none false).view = .start ∧ (recordOf .fallback none false).view = .fallback ∧
      (lining .hold).glare.left.hot[79]? = some 0 ∧ 79 / 8 = 1279 / (ChannelParams.reset.dispHeight / 10) := by decide +kernel

/-- The left link at its display frame end. -/
def ending (fresh ready : Bool) (times : Nat) : State :=
  staging ((viewing .live 0 (recordOf .live (some .b0) fresh)).setStore .left
    { b0 := .shown picture 7 times, b1 := if ready then .ready picture 8 else .free, b2 := .free, released := false })
    .activeLines 1280 none

theorem witness_FrameEndPushesAndEvaluates :
    (ending true false 1).frameCanEnd .left = true ∧
      (ending true false 1).view.left.record = some (recordOf .live (some .b0) true) ∧
      (ending true false 1).store.left.shownPicture = some (picture, 1) ∧ (ending false true 1).store.left.hasReady = true ∧
      (ending false false 3).store.left.hasReady = false ∧ (ending false false 3).params.left.repeatLimit ≤ 3 ∧
      2 < (ending false false 2).params.left.repeatLimit ∧ (ending true false 1).view.left.state ≠ .fallback ∧
      (recordOf .live (some .b0) true).buffer.isSome = true ∧ (recordOf .start none false).buffer.isSome = false := by decide

/-- R98, R107: at the end of a fresh night frame the hot counts become the last counts, and 80 tiles in GLARE are observed. -/
theorem test_glareSaturated :
    let s := after (.displayFrameEnd .left) (((ending true false 1).setView .left
        { state := .live, holdTimer := 0, record := some { recordOf .live (some .b0) true with night := true } }).setGlare .left
      { State.reset.glare.left with
        tiles := List.replicate 80 { Tile.reset with state := .glare }, hot := List.replicate 80 12800, night := true })
    s.entries.left.glareSaturated.detail = some 80 ∧ s.glare.left.last = List.replicate 80 12800 := by
  decide +kernel

/-- An answer to a PART-RESET. -/
def resetAnswer : Answer := { tag := 7, kind := 15, result := .ok, payload := [] }

/-- R213: the flag words of a header with CAM_LOST and TABLE_CORRUPT active. -/
theorem test_flagWord :
    (((State.reset.evaluate .left .camLost (some 1)).evaluate .left .tableCorrupt (some 4)).entries.left.flagWord
      FaultEntry.isActive) = 1025 := by decide +kernel

theorem witness_AncillaryAreaSendsHeaderThenAnswers :
    (staging (viewing .live 0 (recordOf .live none false)) .ended 1280 none).link.left.frame.stage = .ended ∧
      (staging (viewing .live 0 (recordOf .live none false)) .ended 1280 none).slotsHeld .left ≤ 8 ∧
      (queued 8).slotsHeld .left ≤ 8 ∧
      (staging (State.reset.answer .left resetAnswer) (.ancillary 1 false) 0 none).link.left.frame.stage = .ancillary 1 false ∧
      (staging (State.reset.answer .left resetAnswer) (.ancillary 1 false) 0 none).link.left.answers = [resetAnswer] := by
  decide

/-- A picture of two columns and two rows. -/
def small : Picture :=
  { arrival := 5, width := 2, height := 2
    rows := [[⟨0, 0, 0⟩, ⟨16, 16, 16⟩], [⟨0, 0, 0⟩, ⟨16, 16, 16⟩]] }

theorem witness_PixelStagesFollowTheirFormulas :
    headlightTiles.length = 80 ∧ 479 < 8 * 60 ∧ 639 < 10 * 64 ∧ (∀ t ∈ headlightTiles, 176 ≤ t.gain ∧ t.gain ≤ 256) ∧
      (List.range 65).length = 65 ∧ (∀ v ∈ List.range 65, v ≤ 255) ∧
      (∀ i, i < 64 → (List.range 65).getD i 0 ≤ (List.range 65).getD (i + 1) 0) ∧
      8 * min 8 (min (639 - 64 / 2) (9 * 64) / 64) + min 6 (min (479 - 60 / 2) (7 * 60) / 60) = 70 ∧
      headlightTiles[79]? = some Tile.reset ∧ 479 / 60 + 1 = 8 ∧ 639 / 64 + 1 = 10 ∧ (meshOf flatMesh 0)[98]? = some ⟨0, 0⟩ ∧
      small.rows[0]? = some [⟨0, 0, 0⟩, ⟨16, 16, 16⟩] ∧ 0 + 1 < small.width ∧ ¬(1 + 1 < small.width) := by decide +kernel

/-- R83 to R85: a sample half way across, and one whose right neighbour lies outside. -/
theorem test_sample :
    samplePicture small ⟨7, 7, 7⟩ ⟨8, 0⟩ = ⟨8, 8, 8⟩ ∧ samplePicture small ⟨7, 7, 7⟩ ⟨16, 0⟩ = ⟨7, 7, 7⟩ ∧
      samplePicture small ⟨7, 7, 7⟩ ⟨-1, 0⟩ = ⟨7, 7, 7⟩ := by decide

/-- A layer of two columns that begins one column left of the display, its mask the two leftmost bits of a byte. -/
def badge : Layer :=
  { x := -1, y := 0, width := 2, height := 1, offset := 0, foreground := ⟨255, 0, 9⟩, background := ⟨1, 2, 3⟩, code := 204
    condition := 0 }

/-- The layer covers its second column at x = 0, with either mask bit, and not x = 1; its condition is true or false. -/
theorem witness_LayersCombineInOrderAndAreSigned :
    ((1 : BitVec 16).getLsbD badge.condition = true ∧ (2 : BitVec 16).getLsbD badge.condition = false) ∧
      ((0 : Int) = badge.x + (1 : Nat) ∧ 1 < badge.width ∧ 0 < badge.height ∧ badge.x + badge.width ≤ 1) ∧
      ([64] : List Byte)[badge.offset + 0 * ((badge.width + 7) / 8) + 1 / 8]? = some 64 ∧
      ((64 : Byte).getLsbD (7 - 1 % 8) = true ∧ (128 : Byte).getLsbD (7 - 1 % 8) = false) ∧
      (∃ w : Window, w.y ≤ 5 ∧ 5 < w.y + w.h ∧ w.y + w.h ≤ 6) :=
  ⟨by decide, by decide, by decide, by decide, ⟨0, 5, 1, 1⟩, by decide⟩

/-- R121, R123: code 204 copies the layer's colour, the foreground or the background as the mask bit says. -/
theorem test_layer :
    drawLayers { layers := [badge], pool := [64] } 1 0 0 ⟨50, 60, 70⟩ = ⟨255, 0, 9⟩ ∧
      drawLayers { layers := [badge], pool := [128] } 1 0 0 ⟨50, 60, 70⟩ = ⟨1, 2, 3⟩ ∧
      drawLayers { layers := [badge], pool := [64] } 2 0 0 ⟨50, 60, 70⟩ = ⟨50, 60, 70⟩ ∧
      windowBytes ⟨1, 0, 1, 1⟩ [⟨1, 2, 3⟩, ⟨4, 5, 6⟩, ⟨7, 8, 9⟩] 0 = [4, 5, 6] := by decide

/-- R89: between knots that fall from 64 to 0 the output falls with them. -/
theorem test_tone_falling :
    toneComponent [64, 0] 32 = 32 ∧ toneComponent [64, 0] 63 = 1 ∧ toneComponent [3, 0] 11 = 2 := by decide

theorem witness_ReferenceStartMeasuresOrCounts :
    ((tracking { acquiring with frameEnd := some 0 }).referenceDue .left = true ∧
      (tracking { acquiring with frameEnd := some 0 }).timing.left.tracker.frameEnd = some 0 ∧
      (tracking { acquiring with state := .holdover, frameEnd := some 0 }).referenceDue .left = true) ∧
      (tracking { acquiring with emptyCount := 2 }).referenceDue .left = true ∧
      (tracking { acquiring with emptyCount := 2 }).timing.left.tracker.frameEnd = none ∧
      3 ≤ (tracking { acquiring with emptyCount := 2 }).timing.left.tracker.emptyCount + 1 ∧
      (tracking { acquiring with state := .holdover, emptyCount := 3 }).timing.left.tracker.state = .holdover ∧
      (tracking { acquiring with state := .holdover, emptyCount := 3 }).referenceDue .left = true ∧
      (tracking { acquiring with emptyCount := 1 }).timing.left.tracker.emptyCount + 1 < 3 := by decide

/-- A start of the left frame due now, its source TRACKED by a locked tracker whose next reference start stands at a time. -/
def aligning (next : Time) (aligned landing : Bool) : State :=
  State.reset.setTiming .left
    { source := .tracked, aligned := aligned, landing := landing, start := none, period := 16667
      tracker := { acquiring with state := .track, locked := true, nextRef := some next } }

/-- A start with source INTERNAL, one event by either flag, and the tracked start with the reference start near, far and at V
itself. -/
theorem witness_DisplayFrameStartChoosesPeriod :
    (State.reset.startDue .left = true ∧ State.reset.timing.left.source = .internal) ∧
      ((aligning 0 true false).startDue .left = true ∧ (aligning 0 true false).timing.left.tracker.nextRef = some 0 ∧
        (aligning 0 false true).timing.left.landing = true) ∧
      (¬((0 : Time) = (aligning 0 false false).counter ∧
          ((aligning 0 false false).timing.left.aligned = true ∨ (aligning 0 false false).timing.left.landing = true))) ∧
      ((aligning 8333 false false).timing.left.tracker.period, 2 * 8333, 2 * 8334) = (16667, 16666, 16668) ∧
      (aligning 8333 false false).timing.left.tracker.state ≠ .off := by decide

/-- R166: the target is Vn when Vn is at least half a tracker period away, else Vn plus one period, and the clamp acts. -/
theorem test_target :
    ((aligning 8334 false false).timing.left.tracker.targetDistance 0,
      (aligning 8333 false false).timing.left.tracker.targetDistance 0) = (8334, 25000) ∧
      ((aligning 16700 false false).timing.left.displayStart ChannelParams.reset 0).period = 16700 ∧
      ((aligning 8333 false false).timing.left.displayStart ChannelParams.reset 0).period = 17167 := by decide

/-- A state with a command at the front of its queue; a step takes it. -/
theorem witness_step (s : State) : ∃ t, step { s with pending := [.powerOn] } = .next t := ⟨_, rfl⟩

theorem witness_StepKeepsBuffersSingle : (inLines 0 1).BuffersSound := inLines_buffersSound

theorem witness_StepKeepsLiveViewsSound : (deciding .live 0 true true).ViewsSound :=
  both (fun _ => by decide) (fun h => absurd h (by decide))

/-- No load is under way. -/
theorem idle_loads_bounded {s : State} (h : s.tables = .reset) : s.LoadsBounded := by
  intro t
  rw [State.table, h]
  cases t <;> first | trivial | (rename_i ch; cases ch <;> trivial)

theorem witness_StepKeepsBlankMapsReset :
    (viewing .fallback 0 (recordOf .fallback none false)).BlankMapsReset ∧
      (viewing .fallback 0 (recordOf .fallback none false)).ParamsSound := by
  refine ⟨?_, defaults_legal rfl rfl rfl⟩
  exact both (fun _ => ⟨by decide, fun r h => by cases h; rfl⟩) (fun _ => ⟨by decide, fun r h => by cases h⟩)

/-- Left tiles dimmed as in the worked case of chapter 5. -/
def dimmed : State := State.reset.setGlare .left { State.reset.glare.left with tiles := headlightTiles }

theorem witness_StepKeepsGainsBetweenFloorAndUnity : dimmed.GainsSound ∧ dimmed.LoadsBounded ∧ dimmed.ParamsSound := by
  refine ⟨both ⟨by decide, by unfold ResponseBounded; decide, by unfold ResponseBounded; decide, fun load v h => ?_⟩
      ⟨by decide, by unfold ResponseBounded; decide, by unfold ResponseBounded; decide, fun load v h => ?_⟩,
    idle_loads_bounded rfl, defaults_legal rfl rfl rfl⟩
  · exact (nomatch h)
  · exact (nomatch h)

theorem witness_StepKeepsTrackedSourcesLocked :
    (tracking { acquiring with state := .track, locked := true }).SourcesSound := both (by decide) (by decide)

theorem witness_StepKeepsSlotsAndSignaturesBounded :
    (queued 8).SlotsSound ∧ expecting.ExpectedSound ∧ (queued 8).RequestsOwned :=
  ⟨both (by decide) (by decide), both (by decide) (by decide), both (by decide) (by decide)⟩

theorem witness_StepKeepsVerifyQueueSound : (verifying (.defectList .left) emptyList 131073).EngineSound := by
  refine ⟨by decide, fun t => ?_, fun t h => ?_, fun st h => ?_⟩
  · cases t <;> first | decide | (rename_i ch; cases ch <;> decide)
  · cases h
    decide
  · exact (nomatch h)

theorem witness_StepKeepsMeshesCovered :
    (covering (.written ⟨0, 0, 1, 1⟩)).MeshesCovered ∧ (covering (.written ⟨0, 0, 1, 1⟩)).LoadsBounded :=
  ⟨both (fun _ _ => ⟨fun h => absurd h (by decide), fun _ _ h => (nomatch h)⟩)
      (fun _ _ => ⟨fun h => absurd h (by decide), fun _ _ h => (nomatch h)⟩),
    idle_loads_bounded rfl⟩

theorem witness_FixedCoverageNeverChanges :
    (covering (.fixed ⟨0, 0, 1, 1⟩)).coverage.get .left = .fixed ⟨0, 0, 1, 1⟩ ∧
      exec .powerOn State.reset = .next (State.reset.beginReset { State.reset.hold with powerOn := true, fromPower := true }) :=
  ⟨rfl, rfl⟩

theorem witness_StepKeepsFaultEntriesSound : (latched (asked 8 0 0 [])).FaultsSound := by
  refine ⟨fun ch k => ?_, by decide⟩
  cases ch <;> cases k <;> exact ⟨by decide, by decide, by decide⟩

theorem witness_StepKeepsParametersLegal : (pendingSize .reset).ParamsSound := pendingSize_sound rfl rfl

/-- Both outcomes that a witness of O36 asks about: a clean evaluation, and an observation that activates. -/
theorem witness_EntryMovesByItsTable :
    (∃ c, c = (FaultEntry.reset .camLost).evaluate FaultKind.camLost.builtIn none 5 1 ∧ c.2 = false) ∧
      ∃ o, o = (FaultEntry.reset .camLost).evaluate FaultKind.camLost.builtIn (some 1) 5 1 ∧ o.2 = true :=
  ⟨⟨_, rfl, by decide⟩, ⟨_, rfl, by decide⟩⟩

/-- The manual's hot fraction of 1,650 pixels in a tile of 100 × 128 (chapter 5) is 33. -/
theorem witness_TileMovesByItsTable :
    (33 : Nat) = min 255 (256 * 1650 / (ChannelParams.reset.dispWidth / 8 * (ChannelParams.reset.dispHeight / 10))) ∧
      3 = min ChannelParams.reset.glareOff (ChannelParams.reset.glareOn - 1) ∧
      Tile.reset.update ChannelParams.reset [] true 1650 =
        { state := .onset, run := 1, qLast := 33, target := 256, gain := 256 } := by decide

end Sys2Proof.Tests
end

section
/-! The table store under the commands: reads of the directory after a write, and for each effect of the part that is no
table or coverage request, that it changes the store by swaps alone. Then the induction over the commands, once, for a
promise about the store and the coverage records. -/

namespace Sys2Proof.Machine

/-! ## The directory (R10) -/

@[simp] theorem TableStore.get_set (ts : TableStore) (t : TableId) (e : TableEntry) : (ts.set t e).get t = e := by
  cases t <;> simp [TableStore.set, TableStore.get]

theorem TableStore.get_set_other (ts : TableStore) {t u : TableId} (e : TableEntry) (h : u ≠ t) :
    (ts.set t e).get u = ts.get u := by
  cases t <;> cases u
  case faultActions.faultActions => exact absurd rfl h
  case develop.develop | defectList.defectList | warpMesh.warpMesh | toneCurves.toneCurves
    | glareResponse.glareResponse | overlaySet.overlaySet =>
    exact Pair.get_set_other _ _ fun hc => h (congrArg _ hc)
  all_goals rfl

theorem TableStore.get_set_eq (ts : TableStore) (t u : TableId) (e : TableEntry) :
    (ts.set t e).get u = if u = t then e else ts.get u := by
  split
  · subst_vars; exact ts.get_set _ e
  · exact ts.get_set_other e ‹_›

/-- R16, R25: the engine's own fields hold no directory entry. -/
@[simp] theorem TableStore.get_engine (ts : TableStore) (q : List TableId) (v : Option TableId) (p : TableId)
    (sc : Option ScrubStep) (t : TableId) :
    TableStore.get { ts with verifyQueue := q, verifying := v, scrubPosition := p, scrub := sc } t = ts.get t := by
  cases t <;> rfl

section

variable (ts : TableStore) (t : TableId) (e : TableEntry)

@[simp] theorem TableStore.set_verifyQueue : (ts.set t e).verifyQueue = ts.verifyQueue := by cases t <;> rfl
@[simp] theorem TableStore.set_verifying : (ts.set t e).verifying = ts.verifying := by cases t <;> rfl
@[simp] theorem TableStore.set_scrub : (ts.set t e).scrub = ts.scrub := by cases t <;> rfl
@[simp] theorem TableStore.set_scrubPosition : (ts.set t e).scrubPosition = ts.scrubPosition := by cases t <;> rfl

end

section

variable (s : State) (t u : TableId)

@[simp] theorem State.setTables_table (ts : TableStore) : (s.setTables ts).table t = ts.get t := rfl

@[simp] theorem State.setTable_tables (e : TableEntry) : (s.setTable t e).tables = s.tables.set t e := rfl
@[simp] theorem State.setTable_coverage (e : TableEntry) : (s.setTable t e).coverage = s.coverage := rfl
theorem State.setTable_table (e : TableEntry) : (s.setTable t e).table u = if u = t then e else s.table u :=
  s.tables.get_set_eq t u e

@[simp] theorem State.setStaged_coverage (x : Staged) : (s.setStaged t x).coverage = s.coverage := rfl
@[simp] theorem State.setStaged_verifyQueue (x : Staged) :
    (s.setStaged t x).tables.verifyQueue = s.tables.verifyQueue := s.tables.set_verifyQueue t _
@[simp] theorem State.setStaged_verifying (x : Staged) :
    (s.setStaged t x).tables.verifying = s.tables.verifying := s.tables.set_verifying t _
@[simp] theorem State.setStaged_scrub (x : Staged) : (s.setStaged t x).tables.scrub = s.tables.scrub :=
  s.tables.set_scrub t _
theorem State.setStaged_table (x : Staged) :
    (s.setStaged t x).table u = if u = t then { s.table t with staged := x } else s.table u := s.setTable_table t u _

@[simp] theorem State.setStaged_table_active (x : Staged) :
    ((s.setStaged t x).table u).active = (s.table u).active := by
  rw [State.setStaged_table]
  split
  · subst_vars; rfl
  · rfl

@[simp] theorem State.setStaged_table_lock (x : Staged) : ((s.setStaged t x).table u).lock = (s.table u).lock := by
  rw [State.setStaged_table]
  split
  · subst_vars; rfl
  · rfl

theorem State.setStaged_table_staged (x : Staged) :
    ((s.setStaged t x).table u).staged = if u = t then x else (s.table u).staged := by
  rw [State.setStaged_table]
  split <;> rfl

@[simp] theorem State.setVerifyQueue_table (q : List TableId) : (s.setVerifyQueue q).table t = s.table t :=
  s.tables.get_engine _ _ _ _ t

end

/-! ## The verify queue (R16) -/

section

variable (s : State) (t u : TableId)

/-- An id leaves the queue, a verify of it stops, and a scrub step is suspended if ids are left. -/
theorem State.leaveQueue_eq :
    s.leaveQueue t = s.setTables { s.tables with
      verifyQueue := s.tables.verifyQueue.filter fun u => u != t
      verifying := if s.tables.verifying = some t then none else s.tables.verifying
      scrub := s.tables.scrub.map fun st =>
        { st with suspended := !(s.tables.verifyQueue.filter fun u => u != t).isEmpty } } := by
  by_cases h : s.tables.verifying = some t
  · rw [if_pos h]; exact if_pos h
  · rw [if_neg h]; exact if_neg h

@[simp] theorem State.leaveQueue_table : (s.leaveQueue t).table u = s.table u := by
  rw [State.leaveQueue_eq, State.setTables_table, TableStore.get_engine]; rfl

@[simp] theorem State.leaveQueue_coverage : (s.leaveQueue t).coverage = s.coverage := by rw [State.leaveQueue_eq]; rfl
@[simp] theorem State.leaveQueue_link : (s.leaveQueue t).link = s.link := by rw [State.leaveQueue_eq]; rfl
@[simp] theorem State.leaveQueue_entries : (s.leaveQueue t).entries = s.entries := by rw [State.leaveQueue_eq]; rfl

theorem State.leaveQueue_verifyQueue :
    (s.leaveQueue t).tables.verifyQueue = s.tables.verifyQueue.filter fun u => u != t := by
  rw [State.leaveQueue_eq]; rfl

theorem State.leaveQueue_verifying :
    (s.leaveQueue t).tables.verifying = if s.tables.verifying = some t then none else s.tables.verifying := by
  rw [State.leaveQueue_eq]; rfl

theorem State.leaveQueue_scrub :
    (s.leaveQueue t).tables.scrub = s.tables.scrub.map fun st =>
      { st with suspended := !(s.tables.verifyQueue.filter fun u => u != t).isEmpty } := by
  rw [State.leaveQueue_eq]; rfl

end

/-! ## Swaps (R20) -/

/-- R20, R28: the store after a swap of a table. -/
def TableStore.swapIn (ts : TableStore) (t : TableId) (load : Load) (supplied : Check) : TableStore :=
  { ts.set t { ts.get t with active := (ts.get t).active.swapped load supplied, staged := .idle } with
    scrub := restartScrub ts.scrub t }

section

variable (ts : TableStore) (t u : TableId) (load : Load) (supplied : Check)

theorem TableStore.swapIn_get :
    (ts.swapIn t load supplied).get u =
      if u = t then { ts.get t with active := (ts.get t).active.swapped load supplied, staged := .idle }
      else ts.get u := by
  rw [TableStore.swapIn, TableStore.get_engine, TableStore.get_set_eq]

@[simp] theorem TableStore.swapIn_verifyQueue : (ts.swapIn t load supplied).verifyQueue = ts.verifyQueue :=
  ts.set_verifyQueue t _
@[simp] theorem TableStore.swapIn_verifying : (ts.swapIn t load supplied).verifying = ts.verifying :=
  ts.set_verifying t _
@[simp] theorem TableStore.swapIn_scrubPosition : (ts.swapIn t load supplied).scrubPosition = ts.scrubPosition :=
  ts.set_scrubPosition t _
@[simp] theorem TableStore.swapIn_scrub : (ts.swapIn t load supplied).scrub = restartScrub ts.scrub t := rfl

end

/-- What an evaluation changes nowhere, evaluations of a list of channels change nowhere. -/
theorem State.evaluateTableCorruptFor_keeps {α : Type} {f : State → α}
    (hf : ∀ s ch, f (s.evaluateTableCorrupt ch) = f s) (s : State) (chs : List Channel) :
    f (s.evaluateTableCorruptFor chs) = f s := by
  rw [State.evaluateTableCorruptFor]
  induction chs generalizing s with
  | nil => rfl
  | cons ch chs ih => exact (ih _).trans (hf s ch)

@[simp] theorem State.evaluateTableCorruptFor_tables (s : State) (chs : List Channel) :
    (s.evaluateTableCorruptFor chs).tables = s.tables :=
  State.evaluateTableCorruptFor_keeps (fun s ch => (s.evaluate_evalFrame ch _ _).tables) s chs

@[simp] theorem State.evaluateTableCorruptFor_coverage (s : State) (chs : List Channel) :
    (s.evaluateTableCorruptFor chs).coverage = s.coverage :=
  State.evaluateTableCorruptFor_keeps (fun s ch => (s.evaluate_evalFrame ch _ _).coverage) s chs

/-- R20: a swap, and the evaluations of TABLE_CORRUPT when the bank replaced was CORRUPT. -/
theorem State.swapIn_eq (s : State) (t : TableId) (load : Load) (supplied : Check) :
    s.swapIn t load supplied =
      if (s.table t).active.state = .corrupt then
        (s.setTables (s.tables.swapIn t load supplied)).evaluateTableCorruptFor t.channels
      else s.setTables (s.tables.swapIn t load supplied) := by
  simp only [State.swapIn, State.setTable_tables, TableStore.set_scrub]
  rfl

@[simp] theorem State.swapIn_tables (s : State) (t : TableId) (load : Load) (supplied : Check) :
    (s.swapIn t load supplied).tables = s.tables.swapIn t load supplied := by
  rw [State.swapIn_eq]
  split
  · exact State.evaluateTableCorruptFor_tables _ _
  · rfl

@[simp] theorem State.swapIn_coverage (s : State) (t : TableId) (load : Load) (supplied : Check) :
    (s.swapIn t load supplied).coverage = s.coverage := by
  rw [State.swapIn_eq]
  split
  · exact State.evaluateTableCorruptFor_coverage _ _
  · rfl

/-- From one store to another by swaps of tables in SWAP-WAIT. -/
inductive TableStore.Swaps : TableStore → TableStore → Prop
  | refl (ts : TableStore) : Swaps ts ts
  | swap {ts us : TableStore} {t : TableId} {load : Load} {supplied : Check} :
    Swaps ts us → (us.get t).staged = .swapWait load supplied → Swaps ts (us.swapIn t load supplied)

theorem TableStore.Swaps.trans {ts us vs : TableStore} (h : Swaps ts us) (k : Swaps us vs) : Swaps ts vs := by
  induction k with
  | refl => exact h
  | swap _ hw ih => exact ih.swap hw

/-- From `s` to `t` the coverage records stand, and of the table store only swaps have been made. -/
structure State.SwapsOnly (s t : State) : Prop where
  tables : s.tables.Swaps t.tables
  coverage : t.coverage = s.coverage

theorem State.SwapsOnly.of_eq {s t : State} (ht : t.tables = s.tables) (hc : t.coverage = s.coverage) :
    State.SwapsOnly s t := ⟨ht ▸ .refl _, hc⟩

theorem State.SwapsOnly.refl (s : State) : State.SwapsOnly s s := .of_eq rfl rfl

theorem State.SwapsOnly.trans {s t u : State} (h : State.SwapsOnly s t) (k : State.SwapsOnly t u) :
    State.SwapsOnly s u := ⟨h.tables.trans k.tables, k.coverage.trans h.coverage⟩

theorem State.EvalFrame.swapsOnly {ch : Channel} {s t : State} (h : State.EvalFrame ch s t) : s.SwapsOnly t :=
  .of_eq h.tables h.coverage

/-- A promise about the store and the coverage records that a swap keeps is kept where only swaps are made. -/
theorem State.SwapsOnly.kept {Inv : State → Prop}
    (same : ∀ s t : State, Inv s → t.tables = s.tables → t.coverage = s.coverage → Inv t)
    (swap : ∀ (s : State) (t : TableId) (load : Load) (supplied : Check), Inv s →
      (s.table t).staged = .swapWait load supplied → Inv (s.setTables (s.tables.swapIn t load supplied)))
    {s t : State} (h : State.SwapsOnly s t) (hs : Inv s) : Inv t := by
  have all : ∀ us, s.tables.Swaps us → Inv (s.setTables us) := fun us hus => by
    induction hus with
    | refl => exact hs
    | swap _ hw ih => exact swap _ _ _ _ ih hw
  exact same _ _ (all _ h.tables) rfl h.coverage

/-! ## Effects that only swap -/

section

variable {s t : State} (h : State.SwapsOnly s t)
include h

theorem State.SwapsOnly.setReceiver {ch : Channel} {x : Receiver} : s.SwapsOnly (t.setReceiver ch x) := ⟨h.1, h.2⟩
theorem State.SwapsOnly.setStore {ch : Channel} {x : FrameStore} : s.SwapsOnly (t.setStore ch x) := ⟨h.1, h.2⟩
theorem State.SwapsOnly.setView {ch : Channel} {x : ViewControl} : s.SwapsOnly (t.setView ch x) := ⟨h.1, h.2⟩
theorem State.SwapsOnly.setGlare {ch : Channel} {x : Glare} : s.SwapsOnly (t.setGlare ch x) := ⟨h.1, h.2⟩
theorem State.SwapsOnly.setLink {ch : Channel} {x : LinkUnit} : s.SwapsOnly (t.setLink ch x) := ⟨h.1, h.2⟩
theorem State.SwapsOnly.setTiming {ch : Channel} {x : LinkTiming} : s.SwapsOnly (t.setTiming ch x) := ⟨h.1, h.2⟩
theorem State.SwapsOnly.setEntries {ch : Channel} {x : FaultEntries} : s.SwapsOnly (t.setEntries ch x) := ⟨h.1, h.2⟩
theorem State.SwapsOnly.setParams {ch : Channel} {x : ChannelParams} : s.SwapsOnly (t.setParams ch x) := ⟨h.1, h.2⟩
theorem State.SwapsOnly.setPending {ch : Channel} {x : List PendingValue} : s.SwapsOnly (t.setPending ch x) :=
  ⟨h.1, h.2⟩
theorem State.SwapsOnly.setOutputs {ch : Channel} {x : Outputs} : s.SwapsOnly (t.setOutputs ch x) := ⟨h.1, h.2⟩
theorem State.SwapsOnly.setAgent {x : Agent} : s.SwapsOnly (t.setAgent x) := ⟨h.1, h.2⟩

theorem State.SwapsOnly.evalFrame {u : State} {ch : Channel} (k : State.EvalFrame ch t u) : s.SwapsOnly u :=
  h.trans k.swapsOnly

theorem State.SwapsOnly.evaluate {ch : Channel} {k : FaultKind} {o : Option Nat} : s.SwapsOnly (t.evaluate ch k o) :=
  h.evalFrame (t.evaluate_evalFrame ch k o)

theorem State.SwapsOnly.swapIfWaiting {x : TableId} : s.SwapsOnly (t.swapIfWaiting x) := by
  rw [State.swapIfWaiting]
  split
  case h_1 load supplied hw =>
    exact h.trans ⟨by rw [State.swapIn_tables]; exact .swap (.refl _) hw, t.swapIn_coverage x load supplied⟩
  case h_2 => exact h

theorem State.SwapsOnly.applyPending {ch : Channel} {cls : ParamClass} : s.SwapsOnly (t.applyPending ch cls) :=
  h.setParams.setPending

theorem State.SwapsOnly.cameraBoundary {ch : Channel} : s.SwapsOnly (t.cameraBoundary ch) :=
  h.applyPending.swapIfWaiting.swapIfWaiting

theorem State.SwapsOnly.cameraBoundaryIfIdle {ch : Channel} : s.SwapsOnly (t.cameraBoundaryIfIdle ch) := by
  rw [State.cameraBoundaryIfIdle]
  split
  · exact h
  · exact h.cameraBoundary

theorem State.SwapsOnly.displayBoundary {ch : Channel} : s.SwapsOnly (t.displayBoundary ch) := by
  have swapped := h.swapIfWaiting (x := .warpMesh ch) |>.swapIfWaiting (x := .toneCurves ch)
    |>.swapIfWaiting (x := .glareResponse ch) |>.swapIfWaiting (x := .overlaySet ch)
    |>.applyPending (ch := ch) (cls := .display)
  simp only [State.displayBoundary]
  split <;> split
  · exact swapped
  · exact swapped.setGlare
  · exact swapped.setGlare
  · exact swapped.setGlare.setGlare

end

section

variable (s : State) (ch : Channel)

/-! ## The camera receiver -/

theorem State.malformed_swapsOnly (d : Nat) (a : Assembly) : s.SwapsOnly (s.malformed ch d a) :=
  (State.SwapsOnly.refl s).evaluate.setStore.setReceiver.cameraBoundary

theorem State.takeFrameStart_swapsOnly : s.SwapsOnly (s.takeFrameStart ch) := by
  rw [State.takeFrameStart]
  split
  · exact (s.malformed_swapsOnly ch 6 .idle).setStore.setReceiver
  · exact (State.SwapsOnly.refl s).setStore.setReceiver

theorem State.takeEmbedded_swapsOnly (f : Option (BitVec 16 × Byte)) : s.SwapsOnly (s.takeEmbedded ch f) := by
  unfold State.takeEmbedded
  split
  case h_1 => exact (State.SwapsOnly.refl s).setReceiver
  case h_5 | h_6 => exact .refl s
  all_goals exact s.malformed_swapsOnly ch _ _

theorem State.takeLine_swapsOnly (f : Option (Nat × List Nat)) : s.SwapsOnly (s.takeLine ch f) := by
  unfold State.takeLine
  split
  case h_4 =>
    split
    · exact s.malformed_swapsOnly ch _ _
    · exact (State.SwapsOnly.refl s).setStore.setReceiver
  case h_5 | h_6 => exact .refl s
  all_goals exact s.malformed_swapsOnly ch _ _

theorem State.frameEndTime_swapsOnly : s.SwapsOnly (s.frameEndTime ch) := by
  simp only [State.frameEndTime]
  split
  · exact .refl s
  · exact (State.SwapsOnly.refl s).setTiming

theorem State.judgeFrame_swapsOnly (c : BitVec 16) (status : Byte) : s.SwapsOnly (s.judgeFrame ch c status) := by
  unfold State.judgeFrame
  extract_lets verdict frozen skip receiver counted sensor
  have hfrozen : s.SwapsOnly frozen := (State.SwapsOnly.refl s).evaluate
  have hskip : s.SwapsOnly skip := by
    unfold skip
    split
    · exact hfrozen.evaluate
    · exact hfrozen
  have hsensor : s.SwapsOnly sensor := hskip.setReceiver.evaluate
  split
  · exact hsensor.setStore
  · exact hsensor.setStore

theorem State.goodFrame_swapsOnly (f : FrameFacts) (c : BitVec 16) (status : Byte) :
    s.SwapsOnly (s.goodFrame ch f c status) :=
  ((State.SwapsOnly.refl s).evaluate.setStore.trans
    (State.judgeFrame_swapsOnly _ ch c status)).setReceiver.cameraBoundary

theorem State.takeFrameEnd_swapsOnly (f : Option Nat) : s.SwapsOnly (s.takeFrameEnd ch f) := by
  have timed := s.frameEndTime_swapsOnly ch
  unfold State.takeFrameEnd
  split
  case h_4 =>
    split
    · exact timed.trans (State.goodFrame_swapsOnly _ ch _ _ _)
    · exact timed.trans (State.malformed_swapsOnly _ ch _ _)
  case h_5 => exact timed.setReceiver
  case h_6 => exact .refl s
  all_goals exact timed.trans (State.malformed_swapsOnly _ ch _ _)

theorem State.endPass_swapsOnly (x : Result) (p : List Byte) : s.SwapsOnly (s.endPass ch x p) := by
  rw [State.endPass]
  split
  · exact .refl s
  · exact (State.SwapsOnly.refl s).setReceiver.setLink

theorem State.tickPass_swapsOnly : s.SwapsOnly (s.tickPass ch) := by
  rw [State.tickPass]
  split
  · exact .refl s
  · split
    · exact (State.SwapsOnly.refl s).setReceiver
    · exact s.endPass_swapsOnly ch _ _

theorem State.tickCamera_swapsOnly : s.SwapsOnly (s.tickCamera ch) := by
  simp only [State.tickCamera]
  split
  · exact (State.SwapsOnly.refl s).setReceiver.evaluate
  · exact (State.SwapsOnly.refl s).setReceiver.evaluate

/-! ## The links and the agent -/

theorem State.takeStatus_swapsOnly (lux : BitVec 16) (f : Bool) : s.SwapsOnly (s.takeStatus ch lux f) := by
  rw [State.takeStatus, State.nightReading]
  split
  · exact (State.SwapsOnly.refl s).setLink.setGlare.evaluate
  · exact (State.SwapsOnly.refl s).setLink.evaluate

theorem State.takeSignature_swapsOnly (q : Seq) (v : Check) : s.SwapsOnly (s.takeSignature ch q v) := by
  rw [State.takeSignature]
  split
  · exact (State.SwapsOnly.refl s).evaluate
  · exact (State.SwapsOnly.refl s).setLink.evaluate

theorem State.acceptRequest_swapsOnly (r : Request) : s.SwapsOnly (s.acceptRequest r) := by
  rw [State.acceptRequest]
  split
  · exact (State.SwapsOnly.refl s).setLink
  · exact (State.SwapsOnly.refl s).setLink

theorem State.serve_swapsOnly : s.SwapsOnly (s.serve ch) := by
  rw [State.serve]
  split
  · exact .refl s
  · exact (State.SwapsOnly.refl s).setLink.setAgent

theorem State.tickDisplay_swapsOnly : s.SwapsOnly (s.tickDisplay ch) := by
  simp only [State.tickDisplay]
  split
  · exact (State.SwapsOnly.refl s).setLink.evaluate
  · exact (State.SwapsOnly.refl s).setLink.evaluate

theorem State.finish_swapsOnly (r : Request) (x : Result) (p : List Byte) : s.SwapsOnly (s.finish r x p) :=
  (State.SwapsOnly.refl s).setLink.setAgent

/-! ## Requests that are no table and no coverage request -/

theorem State.setTickSchedule_swapsOnly (x : PartParams) : s.SwapsOnly (s.setTickSchedule x) := by
  rw [State.setTickSchedule]
  split
  · exact .refl s
  · exact .of_eq rfl rfl

theorem State.putPartWide_swapsOnly (p : Param) (v : List Nat) : s.SwapsOnly (s.putPartWide ch p v) := by
  unfold State.putPartWide
  split
  · exact s.setTickSchedule_swapsOnly _
  · exact s.setTickSchedule_swapsOnly _
  · exact (State.SwapsOnly.refl s).setGlare.setParams
  · exact (State.SwapsOnly.refl s).setParams

theorem State.stageValue_swapsOnly (p : Param) (v : List Nat) : s.SwapsOnly (s.stageValue ch p v) := by
  rw [State.stageValue]
  split
  · exact s.putPartWide_swapsOnly ch p v
  · exact (State.SwapsOnly.refl s).setPending.cameraBoundaryIfIdle
  · exact (State.SwapsOnly.refl s).setPending

theorem State.restartReceiver_swapsOnly : s.SwapsOnly (s.restartReceiver ch) :=
  (State.SwapsOnly.refl s).setReceiver.cameraBoundary

theorem State.restart_swapsOnly : s.SwapsOnly (s.restart ch) := by
  refine State.SwapsOnly.evalFrame (.setTiming (.trans ?_ (State.endPass_swapsOnly _ ch _ _)))
    (State.amendRecord_evalFrame _ ch .start)
  exact (s.restartReceiver_swapsOnly ch).setStore.setStore.setView.setGlare.setEntries.setLink

theorem State.sendPass_swapsOnly (r : Request) : s.SwapsOnly (s.sendPass r ch) :=
  (State.SwapsOnly.refl s).setReceiver.setOutputs.setAgent

/-! ## The display frame -/

theorem State.decide_swapsOnly : s.SwapsOnly (s.decide ch).1 := by
  have refl := State.SwapsOnly.refl s
  simp only [State.decide]
  split
  · split
    · exact refl.setStore
    · exact refl.setStore
  · split
    · exact refl.setView.setStore
    · split
      · exact refl.evalFrame (s.enterFallback_evalFrame ch)
      · exact refl.setView.setStore
  · split
    · exact refl.setView.setStore
    · exact refl
  · split
    · exact refl.setView.setStore
    · exact refl

theorem State.beginLines_swapsOnly : s.SwapsOnly (s.beginLines ch) := by
  simp only [State.beginLines]
  split
  · exact .refl s
  · split
    · exact (State.SwapsOnly.refl s).setLink.setGlare
    · exact (State.SwapsOnly.refl s).setLink

theorem State.decideFrame_swapsOnly : s.SwapsOnly (s.decideFrame ch) :=
  (s.decide_swapsOnly ch).setView.trans (State.beginLines_swapsOnly _ ch)

theorem State.evaluateGenlock_swapsOnly : s.SwapsOnly (s.evaluateGenlock ch) := by
  simp only [State.evaluateGenlock]
  split
  · exact .refl s
  · exact (State.SwapsOnly.refl s).evaluate

theorem State.decideAndEvaluate_swapsOnly : s.SwapsOnly (s.decideAndEvaluate ch) := by
  have drawn : s.SwapsOnly { s with draws := s.draws + 1 } := .of_eq rfl rfl
  simp only [State.decideAndEvaluate]
  split
  · exact s.decideFrame_swapsOnly ch
  · split
    · exact (drawn.trans (State.evaluateGenlock_swapsOnly _ ch)).trans (State.decideFrame_swapsOnly _ ch)
    · exact (drawn.trans (State.decideFrame_swapsOnly _ ch)).trans (State.evaluateGenlock_swapsOnly _ ch)

theorem State.startFrame_swapsOnly : s.SwapsOnly (s.startFrame ch) :=
  ((State.SwapsOnly.refl s).setLink.setStore.setLink.displayBoundary.setTiming).trans
    (State.decideAndEvaluate_swapsOnly _ ch)

theorem State.startLine_swapsOnly : s.SwapsOnly (s.startLine ch) := by
  simp only [State.startLine]
  split
  · exact .refl s
  · exact (State.SwapsOnly.refl s).setLink.setGlare.setOutputs

theorem State.endLine_swapsOnly : s.SwapsOnly (s.endLine ch) := (State.SwapsOnly.refl s).setLink.setStore

theorem State.evaluateFrameEnd_swapsOnly (r : FrameRecord) : s.SwapsOnly (s.evaluateFrameEnd ch r) := by
  have refl := State.SwapsOnly.refl s
  simp only [State.evaluateFrameEnd]
  split <;> split <;> split
  · exact refl.evaluate.evaluate.evaluate
  · exact refl.evaluate.evaluate
  · exact refl.evaluate.evaluate
  · exact refl.evaluate
  · exact refl.evaluate.evaluate
  · exact refl.evaluate
  · exact refl.evaluate
  · exact refl

theorem State.endFrame_swapsOnly : s.SwapsOnly (s.endFrame ch) := by
  rw [State.endFrame]
  split
  · exact .refl s
  · exact ((State.SwapsOnly.refl s).setGlare.setLink).trans (State.evaluateFrameEnd_swapsOnly _ ch _)

theorem State.sendHeader_swapsOnly : s.SwapsOnly (s.sendHeader ch) := by
  rw [State.sendHeader]
  split
  · exact .refl s
  · exact (State.SwapsOnly.refl s).setLink.setOutputs

theorem State.sendAnswer_swapsOnly (n : Nat) (b : Bool) : s.SwapsOnly (s.sendAnswer ch n b) := by
  simp only [State.sendAnswer]
  split
  · exact .refl s
  · exact (State.SwapsOnly.refl s).setLink.setOutputs

end

/-- R19: what a verify end that passes may swap. -/
theorem State.swapAtVerifyEnd_swapsOnly (s : State) (t : TableId) : s.SwapsOnly (s.swapAtVerifyEnd t) := by
  have refl := State.SwapsOnly.refl s
  unfold State.swapAtVerifyEnd
  split
  case h_1 => exact refl.swapIfWaiting
  case h_2 | h_3 => exact refl.cameraBoundaryIfIdle
  all_goals exact refl

end Sys2Proof.Machine
end

section
namespace Sys2Proof.Machine

/-! ## The induction for promises about the store -/

/-- Each effect on the table store or on a coverage record keeps a promise about these two alone. -/
structure State.StoreKept (Inv : State → Prop) : Prop where
  same : ∀ s t : State, Inv s → t.tables = s.tables → t.coverage = s.coverage → Inv t
  swap : ∀ (s : State) (t : TableId) (load : Load) (supplied : Check), Inv s →
    (s.table t).staged = .swapWait load supplied → Inv (s.setTables (s.tables.swapIn t load supplied))
  beginLoad : ∀ (s : State) (t : TableId) (declared : Nat) (owner : Channel), Inv s → (s.table t).staged = .idle →
    Inv (s.setStaged t (.loading { declared := declared, owner := owner, bytes := [] }))
  appendData : ∀ (s : State) (t : TableId) (load : Load) (data : List Byte), Inv s →
    (s.table t).staged = .loading load → load.bytes.length + data.length ≤ load.declared →
    Inv (s.setStaged t (.loading { load with bytes := load.bytes ++ data }))
  commit : ∀ (s : State) (t : TableId) (load : Load) (supplied : Check) (tag : Byte), Inv s →
    (s.table t).staged = .loading load →
    Inv ((s.setStaged t (.verifying load supplied tag)).setVerifyQueue (s.tables.verifyQueue ++ [t]))
  endLoad : ∀ (s : State) (t : TableId), Inv s → (s.table t).staged.isVerifying = false → Inv (s.setStaged t .idle)
  dropVerify : ∀ (s : State) (t : TableId), Inv s → (s.table t).staged.isVerifying = true →
    Inv ((s.setStaged t .idle).leaveQueue t)
  passVerify : ∀ (s : State) (t : TableId) (load : Load) (supplied : Check) (tag : Byte), Inv s →
    (s.table t).staged = .verifying load supplied tag → s.verifyOutcome t load supplied = .ok →
    Inv (((s.setStaged t (.swapWait load supplied)).swapAtVerifyEnd t).leaveQueue t)
  lock : ∀ (s : State) (t : TableId) (l : Lock), Inv s → Inv (s.setTable t { s.table t with lock := l })
  writeCoverage : ∀ (s : State) (ch : Channel) (q : Rect), Inv s → (s.coverage.get ch).isFixed = false →
    (s.table (.warpMesh ch)).staged.committed = false → s.meshConflict ch q = none →
    Inv (s.setCoverage ch (.written q))
  fixCoverage : ∀ (s : State) (ch : Channel) (q : Rect), Inv s → s.coverage.get ch = .written q →
    Inv (s.setCoverage ch (.fixed q))
  verifyStart : ∀ (s : State) (t : TableId) (rest : List TableId), Inv s → s.tables.verifyQueue = t :: rest →
    Inv (s.setTables { s.tables with verifying := some t })
  scrubStart : ∀ (s : State) (t p : TableId), Inv s →
    Inv (s.setTables { s.tables with
      scrubPosition := p
      scrub := some { table := t, suspended := !s.tables.verifyQueue.isEmpty, reached := 0, acc := .start } })
  scrubRead : ∀ (s : State) (n : Nat), Inv s → Inv (s.setTables { s.tables with
    scrub := s.tables.scrub.map fun st => st.advance (s.table st.table) n })
  scrubEnd : ∀ s : State, Inv s → Inv (s.setTables { s.tables with scrub := none })
  markCorrupt : ∀ (s : State) (t : TableId), Inv s → Inv (s.markCorrupt t)
  reset : ∀ s : State, Inv s → Inv (s.setTables .reset)

section

variable {Inv : State → Prop} (k : State.StoreKept Inv) {s : State} (h : Inv s)
include k h

theorem State.StoreKept.swapsOnly {t : State} (hst : s.SwapsOnly t) : Inv t := hst.kept k.same k.swap h

theorem State.StoreKept.tickScrub : Inv s.tickScrub := by
  rw [State.tickScrub]
  split
  · exact h
  · split
    · exact h
    · exact k.scrubStart s _ _ h

theorem State.StoreKept.superviseTick : Inv s.superviseTick := by
  have begun : Inv { s with lastTick := some s.counter } := k.same _ _ h rfl rfl
  have cameras := k.swapsOnly begun
    ((State.tickCamera_swapsOnly _ .left).trans (State.tickCamera_swapsOnly _ .right))
  have displays := k.swapsOnly cameras
    ((State.tickDisplay_swapsOnly _ .left).trans (State.tickDisplay_swapsOnly _ .right))
  exact k.swapsOnly (k.tickScrub displays)
    ((State.tickPass_swapsOnly _ .left).trans (State.tickPass_swapsOnly _ .right))

theorem State.StoreKept.evaluateTableCorruptFor (chs : List Channel) : Inv (s.evaluateTableCorruptFor chs) :=
  k.same _ _ h (s.evaluateTableCorruptFor_tables chs) (s.evaluateTableCorruptFor_coverage chs)

theorem State.StoreKept.observeCorrupt (t : TableId) (chs : List Channel) :
    Inv (chs.foldl (fun s ch => s.observeCorrupt t ch) s) :=
  List.foldlRecOn chs _ h fun u hu _ _ => k.swapsOnly hu (State.SwapsOnly.refl u).evaluate

theorem State.StoreKept.tellMeshLost (t : TableId) : Inv (s.tellMeshLost t) := by
  cases t
  case warpMesh ch => exact k.swapsOnly h (s.onMeshLost_evalFrame ch).swapsOnly
  all_goals exact h

theorem State.StoreKept.endScrub (st : ScrubStep) : Inv (s.endScrub st) := by
  have ended := k.scrubEnd s h
  unfold State.endScrub
  extract_lets e u
  split
  · exact k.evaluateTableCorruptFor ended _
  · exact k.tellMeshLost (k.observeCorrupt (k.markCorrupt _ _ ended) _ _) _

theorem State.StoreKept.endVerify {t : TableId} {load : Load} {supplied : Check} {tag : Byte}
    (hv : (s.table t).staged = .verifying load supplied tag) : Inv (s.endVerify t load supplied tag) := by
  have answered (x : Result) (p : List Byte) : Inv (s.answerCommit load tag x p) := k.same _ _ h rfl rfl
  simp only [State.endVerify]
  split
  case isTrue hok => exact k.passVerify _ t load supplied tag (answered _ _) hv hok
  case isFalse => exact k.dropVerify _ t (answered _ _) (congrArg Staged.isVerifying hv)

end

/-- Every command and step keeps a promise that the effects on the store and on the coverage records keep. -/
theorem State.StoreKept.kept {Inv : State → Prop} (k : State.StoreKept Inv) : State.Kept Inv where
  frameStart s ch h := k.swapsOnly h (s.takeFrameStart_swapsOnly ch)
  embedded s ch f h := k.swapsOnly h (s.takeEmbedded_swapsOnly ch f)
  line s ch f h := k.swapsOnly h (s.takeLine_swapsOnly ch f)
  frameEnd s ch f h := k.swapsOnly h (s.takeFrameEnd_swapsOnly ch f)
  endPass s ch x p h := k.swapsOnly h (s.endPass_swapsOnly ch x p)
  status s ch lux f h := k.swapsOnly h (s.takeStatus_swapsOnly ch lux f)
  signature s ch q v h := k.swapsOnly h (s.takeSignature_swapsOnly ch q v)
  accept s r h := k.swapsOnly h (s.acceptRequest_swapsOnly r)
  discard _ _ h := k.same _ _ h rfl rfl
  serve s ch h _ := k.swapsOnly h (s.serve_swapsOnly ch)
  finish s r x p h _ := k.swapsOnly h (s.finish_swapsOnly r x p)
  stage s _ ch p h _ _ := k.swapsOnly h (s.stageValue_swapsOnly ch p _)
  setStaged s _ t h _ hi := k.beginLoad s t _ _ h hi
  loadData s _ t load h _ hl hb := k.appendData s t load _ h hl hb
  commit s r t load h _ hl _ := k.same _ _ (k.commit s t load _ r.tag h hl) rfl rfl
  abandonVerify s t load _ tag h hv :=
    k.dropVerify _ t (k.same s (s.answerCommit load tag .aborted []) h rfl rfl) (congrArg Staged.isVerifying hv)
  abandon s t h hv := k.endLoad s t h hv
  lock s t l h := k.lock s t l h
  acknowledge _ h := k.same _ _ h rfl rfl
  clear _ _ h := k.same _ _ h rfl rfl
  restart s ch h := k.swapsOnly h (s.restart_swapsOnly ch)
  trackerOff _ _ h _ := k.same _ _ h rfl rfl
  trackerOn _ _ h := k.same _ _ h rfl rfl
  bandwidth _ _ _ h := k.same _ _ h rfl rfl
  selectTracked _ _ h _ := k.same _ _ h rfl rfl
  selectInternal _ _ h := k.same _ _ h rfl rfl
  sendPass s r ch h _ _ := k.swapsOnly h (s.sendPass_swapsOnly ch r)
  writeCoverage s ch q h hf hc hm := k.writeCoverage s ch q h hf hc hm
  fixCoverage s ch q h hw := k.fixCoverage s ch q h hw
  requestReset _ _ h := k.same _ _ h rfl rfl
  tick _ h := k.superviseTick h
  verifyStart s t rest h _ hq := k.verifyStart s t rest h hq
  verifyEnd _ _ _ _ _ h _ hv := k.endVerify h hv
  scrubEnd _ st h _ := k.endScrub h st
  startFrame s ch h := k.swapsOnly h (s.startFrame_swapsOnly ch)
  holdLimit s ch h := k.swapsOnly h (s.enterFallback_evalFrame ch).swapsOnly
  startLine s ch h := k.swapsOnly h (s.startLine_swapsOnly ch)
  endLine s ch h := k.swapsOnly h (s.endLine_swapsOnly ch)
  endFrame s ch h := k.swapsOnly h (s.endFrame_swapsOnly ch)
  header s ch h := k.swapsOnly h (s.sendHeader_swapsOnly ch)
  sendAnswer s ch n b h := k.swapsOnly h (s.sendAnswer_swapsOnly ch n b)
  areaEnd _ _ h := k.same _ _ h rfl rfl
  referenceStart _ _ h := k.same _ _ h rfl rfl
  holdover _ _ h := k.same _ _ h rfl rfl
  manageReset s h := k.same _ _ (k.reset s h) rfl rfl
  queue _ _ _ h := k.same _ _ h rfl rfl
  passTime s h := k.same _ _ (k.scrubRead s (Config.scrubBytes s.draws) h) rfl rfl
  beginReset s _ h := k.same _ _ (k.reset s h) rfl rfl
  completeReset s _ _ h := k.same _ _ (k.reset s h) rfl rfl
  hold _ _ h := k.same _ _ h rfl rfl

end Sys2Proof.Machine
end

section
namespace Sys2Proof.Machine

@[simp] theorem TableStore.reset_get (t : TableId) : TableStore.reset.get t = .reset := by
  cases t
  case faultActions => rfl
  all_goals exact Pair.get_both _ _

/-! ## The coverage records (R30) -/

/-- R30: a FIXED record is kept by every effect. -/
theorem fixedCoverage_storeKept (ch : Channel) (q : Rect) :
    State.StoreKept fun s => s.coverage.get ch = .fixed q where
  same s t h _ hc := by rw [hc]; exact h
  swap s t load supplied h _ := h
  beginLoad s t declared owner h _ := h
  appendData s t load data h _ _ := h
  commit s t load supplied tag h _ := h
  endLoad s t h _ := h
  dropVerify s t h _ := by rw [State.leaveQueue_coverage]; exact h
  passVerify s t load supplied tag h _ _ := by
    rw [State.leaveQueue_coverage, (State.swapAtVerifyEnd_swapsOnly _ t).coverage]; exact h
  lock s t l h := h
  writeCoverage s c r h hf _ _ := by
    have other : ch ≠ c := by rintro rfl; rw [h] at hf; cases hf
    exact (Pair.get_set_other _ _ other).trans h
  fixCoverage s c r h hw := by
    have other : ch ≠ c := by rintro rfl; rw [h] at hw; cases hw
    exact (Pair.get_set_other _ _ other).trans h
  verifyStart s t rest h _ := h
  scrubStart s t p h := h
  scrubRead s n h := h
  scrubEnd s h := h
  markCorrupt s t h := h
  reset s h := h

/-! ## The verify queue (R16, R27) -/

/-- R16, R27: the verify queue holds each table of a set once, a running verify is at its head, and a scrub step is
suspended exactly while it is non-empty. -/
def State.QueueSound (s : State) (queued : TableId → Prop) : Prop :=
  s.tables.verifyQueue.Nodup ∧ (∀ t, t ∈ s.tables.verifyQueue ↔ queued t) ∧
  (∀ t, s.tables.verifying = some t → s.tables.verifyQueue.head? = some t) ∧
  ∀ st, s.tables.scrub = some st → st.suspended = !s.tables.verifyQueue.isEmpty

/-- The promise is that the VERIFYING tables are queued. -/
theorem State.engineSound_iff (s : State) :
    s.EngineSound ↔ s.QueueSound fun t => (s.table t).staged.isVerifying = true := Iff.rfl

/-- Where the queue, the running verify and whether the scrub step is suspended stand, a sound queue is sound. -/
theorem State.QueueSound.congr {s t : State} {p q : TableId → Prop} (h : s.QueueSound p)
    (hq : t.tables.verifyQueue = s.tables.verifyQueue) (hv : t.tables.verifying = s.tables.verifying)
    (hs : t.tables.scrub.map ScrubStep.suspended = s.tables.scrub.map ScrubStep.suspended)
    (hp : ∀ u, p u ↔ q u) : t.QueueSound q := by
  obtain ⟨nodup, mem, head, suspended⟩ := h
  refine ⟨hq ▸ nodup, fun u => hq ▸ (mem u).trans (hp u), hq ▸ hv ▸ head, fun st hst => ?_⟩
  rw [hst, Option.map_some] at hs
  obtain ⟨st', hst', heq⟩ := Option.map_eq_some_iff.mp hs.symm
  rw [hq, ← suspended st' hst', heq]

/-- A step of the scrub that reads, restarts or stands keeps whether it is suspended. -/
theorem restartScrub_suspended (scrub : Option ScrubStep) (t : TableId) :
    (restartScrub scrub t).map ScrubStep.suspended = scrub.map ScrubStep.suspended := by
  cases scrub with
  | none => rfl
  | some st =>
    rw [restartScrub, Option.map_some, Option.map_some, Option.map_some]
    split <;> rfl

theorem ScrubStep.advance_suspended (st : ScrubStep) (e : TableEntry) (n : Nat) :
    (st.advance e n).suspended = st.suspended := by
  rw [ScrubStep.advance]
  split <;> rfl

/-- A swap moves no table into VERIFYING or out of it. -/
theorem TableStore.swapIn_isVerifying {ts : TableStore} {t : TableId} {load : Load} {supplied : Check}
    (hw : (ts.get t).staged = .swapWait load supplied) (u : TableId) :
    ((ts.swapIn t load supplied).get u).staged.isVerifying = (ts.get u).staged.isVerifying := by
  rw [TableStore.swapIn_get]
  split
  · subst_vars; rw [hw]; rfl
  · rfl

/-- A staged bank that is VERIFYING neither before nor after its change leaves the promise as it is. -/
theorem State.EngineSound.setStaged {s : State} {t : TableId} {x : Staged} (h : s.EngineSound)
    (ht : (s.table t).staged.isVerifying = false) (hx : x.isVerifying = false) : (s.setStaged t x).EngineSound := by
  refine State.QueueSound.congr h (s.setStaged_verifyQueue t x) (s.setStaged_verifying t x)
    (by rw [State.setStaged_scrub]) fun u => ?_
  rw [State.setStaged_table_staged]
  split
  · subst_vars; rw [ht, hx]
  · rfl

/-- A table queued that is VERIFYING no more: the queue still holds it, with the VERIFYING ones. -/
def State.EngineLeaving (s : State) (t : TableId) : Prop :=
  (s.QueueSound fun u => u = t ∨ (s.table u).staged.isVerifying = true) ∧ (s.table t).staged.isVerifying = false

theorem State.EngineSound.leaving {s : State} {t : TableId} {x : Staged} (h : s.EngineSound)
    (ht : (s.table t).staged.isVerifying = true) (hx : x.isVerifying = false) :
    (s.setStaged t x).EngineLeaving t := by
  refine ⟨State.QueueSound.congr h (s.setStaged_verifyQueue t x) (s.setStaged_verifying t x)
    (by rw [State.setStaged_scrub]) fun u => ?_, by rw [State.setStaged_table_staged, if_pos rfl]; exact hx⟩
  rw [State.setStaged_table_staged]
  by_cases hu : u = t
  · subst hu; simp only [ht, true_or]
  · simp only [hu, if_false, false_or]

theorem State.EngineLeaving.swapsOnly {s u : State} {t : TableId} (h : s.EngineLeaving t) (k : s.SwapsOnly u) :
    u.EngineLeaving t := by
  refine k.kept (Inv := fun s => s.EngineLeaving t) (fun s u h ht _ => ?_) (fun s x load supplied h hw => ?_) h
  · have table (x : TableId) : u.table x = s.table x := by rw [State.table, State.table, ht]
    obtain ⟨queue, left⟩ := h
    exact ⟨queue.congr (by rw [ht]) (by rw [ht]) (by rw [ht]) fun x => by rw [table x], by rw [table t]; exact left⟩
  · obtain ⟨queue, left⟩ := h
    refine ⟨queue.congr (TableStore.swapIn_verifyQueue ..) (TableStore.swapIn_verifying ..)
      (restartScrub_suspended _ _) fun u => ?_, ?_⟩
    · rw [State.setTables_table, TableStore.swapIn_isVerifying hw]; rfl
    · rw [State.setTables_table, TableStore.swapIn_isVerifying hw]; exact left

/-- R16: with the table gone from the queue the promise holds again. -/
theorem State.EngineLeaving.leaveQueue {s : State} {t : TableId} (h : s.EngineLeaving t) :
    (s.leaveQueue t).EngineSound := by
  obtain ⟨⟨nodup, mem, head, suspended⟩, left⟩ := h
  refine ⟨?_, fun u => ?_, fun u hu => ?_, fun st hst => ?_⟩
  · rw [State.leaveQueue_verifyQueue]
    exact nodup.filter _
  · rw [State.leaveQueue_verifyQueue, State.leaveQueue_table, List.mem_filter, mem u]
    by_cases hu : u = t
    · subst hu; simp [left]
    · simp [hu]
  · rw [State.leaveQueue_verifying] at hu
    split at hu
    · cases hu
    · have other : u ≠ t := by rintro rfl; exact ‹¬_› hu
      rw [State.leaveQueue_verifyQueue]
      obtain ⟨rest, hrest⟩ := List.head?_eq_some_iff.mp (head u hu)
      simp [hrest, other]
  · rw [State.leaveQueue_scrub, Option.map_eq_some_iff] at hst
    obtain ⟨st', -, rfl⟩ := hst
    rw [State.leaveQueue_verifyQueue]

/-- R14, R16: a LOADING table that becomes VERIFYING joins the tail of the queue. -/
theorem State.EngineSound.enqueue {s : State} {t : TableId} {load : Load} {supplied : Check} {tag : Byte}
    (h : s.EngineSound) (ht : (s.table t).staged = .loading load) :
    ((s.setStaged t (.verifying load supplied tag)).setVerifyQueue (s.tables.verifyQueue ++ [t])).EngineSound := by
  obtain ⟨nodup, mem, head, suspended⟩ := h
  have absent : t ∉ s.tables.verifyQueue := by rw [mem, ht]; exact Bool.false_ne_true
  refine ⟨?_, fun u => ?_, fun u hu => ?_, fun st hst => ?_⟩
  · exact List.nodup_append.mpr ⟨nodup, List.nodup_singleton t, by rintro x hx y hy rfl; simp_all⟩
  · rw [State.setVerifyQueue_table, State.setStaged_table_staged]
    change u ∈ s.tables.verifyQueue ++ [t] ↔ _
    rw [List.mem_append, mem u, List.mem_singleton]
    by_cases hu : u = t
    · simp [hu, Staged.isVerifying]
    · simp [hu]
  · have hu' : s.tables.verifying = some u := (s.setStaged_verifying t _).symm.trans hu
    exact List.head?_append_of_ne_nil _ (by intro hnil; simpa [hnil] using head u hu') |>.trans (head u hu')
  · obtain ⟨st', -, rfl⟩ := Option.map_eq_some_iff.mp hst
    rfl

theorem engineSound_storeKept : State.StoreKept State.EngineSound where
  same s t h ht _ := State.QueueSound.congr h (by rw [ht]) (by rw [ht]) (by rw [ht])
    fun u => by rw [State.table, State.table, ht]
  swap s t load supplied h hw := State.QueueSound.congr h (TableStore.swapIn_verifyQueue ..)
    (TableStore.swapIn_verifying ..) (restartScrub_suspended _ _) fun u => by
      rw [State.setTables_table, TableStore.swapIn_isVerifying hw]; rfl
  beginLoad s t declared owner h hi := h.setStaged (by rw [hi]; rfl) rfl
  appendData s t load data h hl _ := h.setStaged (by rw [hl]; rfl) rfl
  commit s t load supplied tag h hl := h.enqueue hl
  endLoad s t h hv := h.setStaged hv rfl
  dropVerify s t h hv := (h.leaving hv rfl).leaveQueue
  passVerify s t load supplied tag h hv _ :=
    ((h.leaving (congrArg Staged.isVerifying hv) rfl).swapsOnly (State.swapAtVerifyEnd_swapsOnly _ t)).leaveQueue
  lock s t l h := State.QueueSound.congr h (TableStore.set_verifyQueue ..) (TableStore.set_verifying ..)
    (congrArg _ (TableStore.set_scrub ..)) fun u => by
      rw [State.setTable_table]
      split
      · subst_vars; rfl
      · rfl
  writeCoverage s ch q h _ _ _ := h
  fixCoverage s ch q h _ := h
  verifyStart s t rest h hq := by
    obtain ⟨nodup, mem, head, suspended⟩ := h
    refine ⟨nodup, fun u => ?_, fun u hu => ?_, suspended⟩
    · rw [State.setTables_table, TableStore.get_engine]; exact mem u
    · obtain rfl : t = u := Option.some.inj hu
      exact congrArg List.head? hq
  scrubStart s t p h := by
    obtain ⟨nodup, mem, head, -⟩ := h
    refine ⟨nodup, fun u => ?_, head, fun st hst => ?_⟩
    · rw [State.setTables_table, TableStore.get_engine]; exact mem u
    · obtain rfl := Option.some.inj hst
      rfl
  scrubRead s n h := by
    refine State.QueueSound.congr h rfl rfl ?_ fun u => by rw [State.setTables_table, TableStore.get_engine]; rfl
    rw [State.setTables_tables, Option.map_map]
    congr 1
    exact funext fun st => st.advance_suspended _ n
  scrubEnd s h := by
    obtain ⟨nodup, mem, head, -⟩ := h
    refine ⟨nodup, fun u => ?_, head, fun st hst => nomatch hst⟩
    rw [State.setTables_table, TableStore.get_engine]
    exact mem u
  markCorrupt s t h := State.QueueSound.congr h (TableStore.set_verifyQueue ..) (TableStore.set_verifying ..)
    (congrArg _ (TableStore.set_scrub ..)) fun u => by
      rw [State.markCorrupt, State.setTable_table]
      split
      · subst_vars; rfl
      · rfl
  reset s _ := by
    refine ⟨List.nodup_nil, fun u => ?_, nofun, nofun⟩
    rw [State.setTables_table, TableStore.reset_get]
    exact ⟨(nomatch ·), (nomatch ·)⟩

/-- Settles O56. -/
theorem stepKeepsVerifyQueueSound : Obligations.StepKeepsVerifyQueueSound :=
  fun _ _ h hs => engineSound_storeKept.kept.step h hs

/-! ## Meshes within the coverage record (R33) -/

/-- R33: the entry of a Warp Mesh table passes the envelope check against a rectangle: its VALID contents do, and so do
the contents that wait to be swapped. -/
def TableEntry.Covered (e : TableEntry) (rect : Rect) : Prop :=
  (e.active.state = .valid → coverageFailure e.active.bytes rect = none) ∧
  ∀ load supplied, e.staged = .swapWait load supplied → coverageFailure load.bytes rect = none

theorem State.meshesCovered_iff (s : State) :
    s.MeshesCovered ↔ ∀ ch rect, (s.coverage.get ch).rect = some rect → (s.table (.warpMesh ch)).Covered rect := by
  simp only [State.MeshesCovered, TableEntry.Covered, State.meshValid, State.isValid, beq_iff_eq]

/-- R10, R33: loads are bounded and meshes covered. -/
def State.MeshesSound (s : State) : Prop := s.LoadsBounded ∧ s.MeshesCovered

/-- R17: what an outcome OK says. -/
theorem State.verifyOutcome_eq_ok {s : State} {t : TableId} {load : Load} {supplied : Check} :
    s.verifyOutcome t load supplied = .ok ↔
      pairSum (load.bytes.take load.declared) = supplied ∧
      t.offendingItem (load.bytes.take load.declared) = none ∧
      s.coverageCheck t (load.bytes.take load.declared) = none := by
  simp only [State.verifyOutcome]
  split
  case isTrue hsum => exact ⟨(nomatch ·), fun h => absurd h.1 hsum⟩
  case isFalse hsum =>
    split
    case h_1 item hitem => exact ⟨(nomatch ·), fun h => nomatch hitem.symm.trans h.2.1⟩
    case h_2 hitem =>
      split
      case h_1 hcheck => exact ⟨(nomatch ·), fun h => nomatch hcheck.symm.trans h.2.2⟩
      case h_2 hcheck => exact ⟨fun _ => ⟨not_not.mp hsum, hitem, hcheck⟩, fun _ => rfl⟩

/-- R17: the coverage check of a Warp Mesh with a WRITTEN or FIXED record is the envelope check. -/
theorem State.coverageCheck_warpMesh {s : State} {ch : Channel} {rect : Rect} (bs : List Byte)
    (h : (s.coverage.get ch).rect = some rect) : s.coverageCheck (.warpMesh ch) bs = coverageFailure bs rect := by
  simp only [State.coverageCheck, h]

section

variable {s u : State} (h : s.MeshesSound)
include h

theorem State.MeshesSound.congr (ht : ∀ x, u.table x = s.table x) (hc : u.coverage = s.coverage) : u.MeshesSound := by
  obtain ⟨bounded, covered⟩ := h
  rw [State.meshesCovered_iff] at covered
  refine ⟨fun x => by rw [ht]; exact bounded x, (State.meshesCovered_iff u).mpr fun ch rect hr => ?_⟩
  rw [ht]
  exact covered ch rect (hc ▸ hr)

theorem State.MeshesSound.covered {ch : Channel} {rect : Rect} (hr : (s.coverage.get ch).rect = some rect) :
    (s.table (.warpMesh ch)).Covered rect := s.meshesCovered_iff.mp h.2 ch rect hr

/-- An entry whose load is bounded and whose contents are covered may take its place in the directory. -/
theorem State.MeshesSound.update {t : TableId} {e : TableEntry} (hc : u.coverage = s.coverage)
    (ht : ∀ x, u.table x = if x = t then e else s.table x) (hb : e.staged.Bounded)
    (he : ∀ ch rect, t = .warpMesh ch → (s.coverage.get ch).rect = some rect → e.Covered rect) : u.MeshesSound := by
  refine ⟨fun x => ?_, (State.meshesCovered_iff u).mpr fun ch rect hr => ?_⟩
  · rw [ht]
    split
    · exact hb
    · exact h.1 x
  · rw [ht]
    split
    case isTrue hx => exact he ch rect hx.symm (hc ▸ hr)
    case isFalse => exact h.covered (hc ▸ hr)

/-- A staged bank that waits for no swap leaves the meshes covered. -/
theorem State.MeshesSound.setStaged {t : TableId} {x : Staged} (hb : x.Bounded)
    (hx : ∀ load supplied, x ≠ .swapWait load supplied) : (s.setStaged t x).MeshesSound := by
  refine h.update rfl (s.setStaged_table t · x) hb fun ch rect ht hr => ?_
  subst ht
  exact ⟨(h.covered hr).1, fun load supplied hw => absurd hw (hx load supplied)⟩

theorem State.MeshesSound.swap {t : TableId} {load : Load} {supplied : Check}
    (hw : (s.table t).staged = .swapWait load supplied) :
    (s.setTables (s.tables.swapIn t load supplied)).MeshesSound := by
  refine h.update rfl (fun x => s.tables.swapIn_get t x load supplied) trivial fun ch rect ht hr => ?_
  subst ht
  exact ⟨fun _ => (h.covered hr).2 load supplied hw, nofun⟩

/-- R17: contents that pass every check wait for their swap, covered. -/
theorem State.MeshesSound.passVerify {t : TableId} {load : Load} {supplied : Check} {tag : Byte}
    (hv : (s.table t).staged = .verifying load supplied tag) (hok : s.verifyOutcome t load supplied = .ok) :
    (s.setStaged t (.swapWait load supplied)).MeshesSound := by
  have bounded : load.bytes.length ≤ load.declared := by
    have hb := h.1 t
    rw [hv] at hb
    exact hb
  obtain ⟨-, -, checked⟩ := State.verifyOutcome_eq_ok.mp hok
  rw [List.take_of_length_le bounded] at checked
  refine h.update rfl (s.setStaged_table t · _) bounded fun ch rect ht hr => ?_
  subst ht
  refine ⟨(h.covered hr).1, fun load' supplied' hw => ?_⟩
  obtain ⟨rfl, rfl⟩ := Staged.swapWait.inj hw
  exact (State.coverageCheck_warpMesh _ hr).symm.trans checked

theorem State.MeshesSound.setCoverage {ch : Channel} {x : Coverage}
    (hx : ∀ rect, x.rect = some rect → (s.table (.warpMesh ch)).Covered rect) : (s.setCoverage ch x).MeshesSound := by
  refine ⟨h.1, (State.meshesCovered_iff _).mpr fun c rect hr => ?_⟩
  rw [State.setCoverage_coverage, Pair.get_set_eq] at hr
  split at hr
  · subst_vars; exact hx rect hr
  · exact h.covered hr

end

/-- R31: a rectangle that conflicts with no VALID mesh, with none committed, covers the table. -/
theorem State.covered_of_meshConflict {s : State} {ch : Channel} {q : Rect}
    (hc : (s.table (.warpMesh ch)).staged.committed = false) (hm : s.meshConflict ch q = none) :
    (s.table (.warpMesh ch)).Covered q := by
  refine ⟨fun hvalid => ?_, fun load supplied hw => ?_⟩
  · rw [State.meshConflict, State.meshValid, State.isValid, hvalid] at hm
    exact hm
  · rw [hw] at hc
    cases hc

theorem meshesSound_storeKept : State.StoreKept State.MeshesSound where
  same s t h ht hc := h.congr (fun x => by rw [State.table, State.table, ht]) hc
  swap s t load supplied h hw := h.swap hw
  beginLoad s t declared owner h _ := h.setStaged (Nat.zero_le _) (nofun)
  appendData s t load data h _ hb := h.setStaged (List.length_append.trans_le hb) (nofun)
  commit s t load supplied tag h hl := by
    have bounded := h.1 t
    rw [hl] at bounded
    exact (h.setStaged (x := .verifying load supplied tag) bounded (nofun)).congr (State.setVerifyQueue_table _ · _) rfl
  endLoad s t h _ := h.setStaged trivial (nofun)
  dropVerify s t h _ := (h.setStaged (x := .idle) trivial (nofun)).congr (State.leaveQueue_table _ t ·)
    (State.leaveQueue_coverage _ t)
  passVerify s t load supplied tag h hv hok := by
    have swapped := (State.swapAtVerifyEnd_swapsOnly _ t).kept (Inv := State.MeshesSound)
      (fun s t h ht hc => h.congr (fun x => by rw [State.table, State.table, ht]) hc)
      (fun s t load supplied h hw => h.swap hw) (h.passVerify hv hok)
    exact swapped.congr (State.leaveQueue_table _ t ·) (State.leaveQueue_coverage _ t)
  lock s t l h := h.update rfl (s.setTable_table t · _) (h.1 t) fun ch rect ht hr => by
    subst ht; exact h.covered hr
  writeCoverage s ch q h _ hc hm := h.setCoverage fun rect hr => by
    obtain rfl := Option.some.inj hr
    exact State.covered_of_meshConflict hc hm
  fixCoverage s ch q h hw := h.setCoverage fun rect hr => h.covered (by rw [hw]; exact hr)
  verifyStart s t rest h _ := h.congr (TableStore.get_engine _ _ _ _ _) rfl
  scrubStart s t p h := h.congr (TableStore.get_engine _ _ _ _ _) rfl
  scrubRead s n h := h.congr (TableStore.get_engine _ _ _ _ _) rfl
  scrubEnd s h := h.congr (TableStore.get_engine _ _ _ _ _) rfl
  markCorrupt s t h := h.update rfl (s.setTable_table t · _) (h.1 t) fun ch rect ht hr => by
    subst ht; exact ⟨(nomatch ·), (h.covered hr).2⟩
  reset s _ := by
    refine ⟨fun t => ?_, (State.meshesCovered_iff _).mpr fun ch rect _ => ?_⟩
    · rw [State.setTables_table, TableStore.reset_get]; trivial
    · rw [State.setTables_table, TableStore.reset_get]; exact ⟨nofun, nofun⟩

/-- Settles O57. -/
theorem stepKeepsMeshesCovered : Obligations.StepKeepsMeshesCovered :=
  fun _ _ hb hc hs => meshesSound_storeKept.kept.step (Inv := State.MeshesSound) ⟨hb, hc⟩ hs

end Sys2Proof.Machine
end

section
namespace Sys2Proof.Machine

/-! ## Commands that leave the coverage records (R30) -/

theorem whenRunning_coverage {s t : State} {f : State → State} (h : whenRunning s f = .next t)
    (hf : (f s).coverage = s.coverage) : t.coverage = s.coverage := by
  rcases whenRunning_next h with ⟨-, rfl⟩ | ⟨-, rfl⟩
  · rfl
  · exact hf

theorem whenExecuting_coverage {s t : State} {row : Request → Bool} {f : State → Request → State}
    (h : whenExecuting s row f = .next t) (hf : ∀ r, (f s r).coverage = s.coverage) : t.coverage = s.coverage := by
  rcases whenExecuting_next h with rfl | ⟨r, -, -, rfl⟩
  · rfl
  · exact hf r

section

variable {s : State} {r : Request}

theorem State.withLength_coverage {n : Nat} {run : State} (h : run.coverage = s.coverage) :
    (s.withLength r n run).coverage = s.coverage := by
  rw [State.withLength]
  split
  · exact h
  · rfl

theorem State.onChannel_coverage {run : Channel → State} (h : ∀ ch, (run ch).coverage = s.coverage) :
    (s.onChannel r run).coverage = s.coverage := by
  rw [State.onChannel]
  split
  · exact h _
  · rfl

theorem State.onTable_coverage {run : TableId → State} (h : ∀ t, (run t).coverage = s.coverage) :
    (s.onTable r run).coverage = s.coverage := by
  rw [State.onTable]
  split
  · exact h _
  · rfl

/-- A choice between two states with the same coverage records. -/
theorem State.ite_coverage {p : Prop} [Decidable p] {t u : State} (ht : t.coverage = s.coverage)
    (hu : u.coverage = s.coverage) : (if p then t else u).coverage = s.coverage := by
  split
  · exact ht
  · exact hu

end

section

variable (s : State) (r : Request)

theorem State.runSet_coverage : (s.runSet r).coverage = s.coverage := by
  rw [State.runSet]
  split
  · rfl
  · split
    · rfl
    · exact State.withLength_coverage (State.ite_coverage rfl (s.stageValue_swapsOnly _ _ _).coverage)

theorem State.openLoad_coverage (t : TableId) : (s.openLoad r t).coverage = s.coverage :=
  State.ite_coverage rfl (State.ite_coverage rfl (State.ite_coverage rfl rfl))

theorem State.takeData_coverage (t : TableId) : (s.takeData r t).coverage = s.coverage := by
  rw [State.takeData]
  split
  · exact State.ite_coverage (State.ite_coverage rfl (State.ite_coverage rfl (State.ite_coverage rfl rfl))) rfl
  · rfl

theorem State.takeCommit_coverage (t : TableId) : (s.takeCommit r t).coverage = s.coverage := by
  rw [State.takeCommit]
  split
  · rfl
  · split
    · exact State.ite_coverage rfl (State.ite_coverage rfl rfl)
    · rfl

theorem State.takeAbandon_coverage (t : TableId) : (s.takeAbandon r t).coverage = s.coverage := by
  rw [State.takeAbandon]
  split
  · rfl
  · split
    · exact (State.leaveQueue_coverage _ t).trans rfl
    · rfl

theorem State.clearFaults_coverage (chs : List Channel) : (s.clearFaults r chs).coverage = s.coverage :=
  List.foldlRecOn (motive := fun u : State => u.coverage = s.coverage) chs State.clearChannel rfl
    fun _ hu _ _ => hu

theorem State.timingTracker_coverage (ch : Channel) : (s.timingTracker r ch).coverage = s.coverage := by
  simp only [State.timingTracker]
  split
  · exact State.ite_coverage rfl rfl
  · rfl
  · rfl

theorem State.timingBandwidth_coverage (ch : Channel) : (s.timingBandwidth r ch).coverage = s.coverage := by
  simp only [State.timingBandwidth]
  split <;> rfl

theorem State.timingSource_coverage (ch : Channel) : (s.timingSource r ch).coverage = s.coverage := by
  simp only [State.timingSource]
  split
  · rfl
  · exact State.ite_coverage rfl rfl
  · rfl

theorem State.takePass_coverage (ch : Channel) : (s.takePass r ch).coverage = s.coverage :=
  State.ite_coverage rfl (State.ite_coverage rfl rfl)

theorem State.superviseTick_coverage : s.superviseTick.coverage = s.coverage := by
  have scrub (u : State) : u.tickScrub.coverage = u.coverage := by
    rw [State.tickScrub]
    split
    · rfl
    · split <;> rfl
  simp only [State.superviseTick, (State.tickPass_swapsOnly _ _).coverage, scrub,
    (State.tickDisplay_swapsOnly _ _).coverage, (State.tickCamera_swapsOnly _ _).coverage]

theorem State.endVerify_coverage (t : TableId) (load : Load) (supplied : Check) (tag : Byte) :
    (s.endVerify t load supplied tag).coverage = s.coverage := by
  simp only [State.endVerify]
  split
  · rw [State.leaveQueue_coverage, (State.swapAtVerifyEnd_swapsOnly _ t).coverage]; rfl
  · rw [State.leaveQueue_coverage]; rfl

theorem State.tellMeshLost_swapsOnly (t : TableId) : s.SwapsOnly (s.tellMeshLost t) := by
  cases t
  case warpMesh ch => exact (s.onMeshLost_evalFrame ch).swapsOnly
  all_goals exact .refl s

theorem State.endScrub_coverage (st : ScrubStep) : (s.endScrub st).coverage = s.coverage := by
  unfold State.endScrub
  refine State.ite_coverage (State.evaluateTableCorruptFor_coverage _ _) ?_
  rw [(State.tellMeshLost_swapsOnly _ _).coverage]
  exact List.foldlRecOn (motive := fun u : State => u.coverage = s.coverage) _ _ rfl
    fun u hu _ _ => ((State.SwapsOnly.refl u).evaluate).coverage.trans hu

theorem State.endCondition_coverage (hold : ResetHold) (c : ResetCause) :
    (s.endCondition hold c).coverage = s.coverage :=
  State.ite_coverage (s := s) rfl rfl

end

/-- R30: no command but the two coverage requests changes a coverage record; no reset does. -/
theorem exec_coverage {c : Instr} {s t : State} (he : exec c s = .next t) (hw : c ≠ .coverageWrite)
    (hf : c ≠ .coverageFix) : t.coverage = s.coverage := by
  cases c <;> simp only [exec] at he
  case frameStart ch p =>
    refine whenRunning_coverage he ?_
    cases readCameraPacket p
    case frameStart => exact (s.takeFrameStart_swapsOnly ch).coverage
    all_goals rfl
  case embedded ch p =>
    refine whenRunning_coverage he ?_
    cases readCameraPacket p
    case embedded => exact (s.takeEmbedded_swapsOnly ch _).coverage
    case embeddedFailed => exact (s.takeEmbedded_swapsOnly ch _).coverage
    all_goals rfl
  case line ch p =>
    refine whenRunning_coverage he ?_
    cases readCameraPacket p
    case line => exact (s.takeLine_swapsOnly ch _).coverage
    case lineFailed => exact (s.takeLine_swapsOnly ch _).coverage
    all_goals rfl
  case frameEnd ch p =>
    refine whenRunning_coverage he ?_
    cases readCameraPacket p
    case frameEnd => exact (s.takeFrameEnd_swapsOnly ch _).coverage
    case frameEndFailed => exact (s.takeFrameEnd_swapsOnly ch _).coverage
    all_goals rfl
  case reply ch p =>
    refine whenRunning_coverage he ?_
    cases readCameraPacket p
    case reply => exact (s.endPass_swapsOnly ch _ _).coverage
    all_goals rfl
  case cameraPacketDiscard ch p => exact whenRunning_coverage he rfl
  case monitorStatus ch p =>
    refine whenRunning_coverage he ?_
    cases readReturnCell p
    case monitorStatus => exact (s.takeStatus_swapsOnly ch _ _).coverage
    all_goals rfl
  case signature ch p =>
    refine whenRunning_coverage he ?_
    cases readReturnCell p
    case signature => exact (s.takeSignature_swapsOnly ch _ _).coverage
    all_goals rfl
  case requestCell ch p =>
    refine whenRunning_coverage he ?_
    cases readReturnCell p
    case request => exact (s.acceptRequest_swapsOnly _).coverage
    all_goals rfl
  case returnCellDiscard ch p =>
    refine whenRunning_coverage he ?_
    cases readReturnCell p <;> rfl
  case agentTakesRequest =>
    exact whenRunning_coverage he (by split; exacts [(s.serve_swapsOnly _).coverage, rfl])
  case queryIdentity => exact whenExecuting_coverage he (fun _ => rfl)
  case queryChannel => exact whenExecuting_coverage he (fun _ => State.onChannel_coverage fun _ => rfl)
  case queryBuffer => exact whenExecuting_coverage he (fun _ => State.onChannel_coverage fun _ => rfl)
  case queryTile =>
    exact whenExecuting_coverage he (fun _ => State.onChannel_coverage fun _ => State.ite_coverage rfl rfl)
  case queryFaultEntry =>
    exact whenExecuting_coverage he (fun _ => State.onChannel_coverage fun _ => by split <;> rfl)
  case queryHistory => exact whenExecuting_coverage he (fun _ => State.ite_coverage rfl rfl)
  case queryTable => exact whenExecuting_coverage he (fun _ => State.onTable_coverage fun _ => rfl)
  case queryParameter =>
    refine whenExecuting_coverage he (fun r => ?_)
    split
    · rfl
    · split <;> rfl
  case queryCoverage => exact whenExecuting_coverage he (fun _ => State.onChannel_coverage fun _ => rfl)
  case queryTiming => exact whenExecuting_coverage he (fun _ => State.onChannel_coverage fun _ => rfl)
  case queryPass => exact whenExecuting_coverage he (fun _ => State.onChannel_coverage fun _ => rfl)
  case queryRefused => exact whenExecuting_coverage he (fun _ => State.withLength_coverage rfl)
  case set => exact whenExecuting_coverage he s.runSet_coverage
  case tableOpen =>
    exact whenExecuting_coverage he
      (fun r => State.onTable_coverage fun t => State.withLength_coverage (s.openLoad_coverage r t))
  case tableData =>
    exact whenExecuting_coverage he
      (fun r => State.onTable_coverage fun t => State.ite_coverage (s.takeData_coverage r t) rfl)
  case tableCommit =>
    exact whenExecuting_coverage he
      (fun r => State.onTable_coverage fun t => State.withLength_coverage (s.takeCommit_coverage r t))
  case tableAbandon =>
    exact whenExecuting_coverage he
      (fun r => State.onTable_coverage fun t => State.withLength_coverage (s.takeAbandon_coverage r t))
  case tableLockLock =>
    exact whenExecuting_coverage he (fun _ => State.onTable_coverage fun _ => State.withLength_coverage rfl)
  case tableLockUnlock =>
    exact whenExecuting_coverage he
      (fun _ => State.onTable_coverage fun _ => State.withLength_coverage (State.ite_coverage rfl rfl))
  case tableLockLockDown =>
    exact whenExecuting_coverage he (fun _ => State.onTable_coverage fun _ => State.withLength_coverage rfl)
  case tableLockUnknownAction =>
    exact whenExecuting_coverage he (fun _ => State.onTable_coverage fun _ => State.withLength_coverage rfl)
  case faultAck => exact whenExecuting_coverage he (fun _ => State.withLength_coverage rfl)
  case faultClear =>
    refine whenExecuting_coverage he (fun r => ?_)
    split
    · exact State.withLength_coverage (s.clearFaults_coverage r _)
    · rfl
  case viewRestart =>
    exact whenExecuting_coverage he
      (fun _ => State.onChannel_coverage fun ch => State.withLength_coverage (s.restart_swapsOnly ch).coverage)
  case timingTracker =>
    exact whenExecuting_coverage he
      (fun r => State.onChannel_coverage fun ch => State.withLength_coverage (s.timingTracker_coverage r ch))
  case timingBandwidth =>
    exact whenExecuting_coverage he
      (fun r => State.onChannel_coverage fun ch => State.withLength_coverage (s.timingBandwidth_coverage r ch))
  case timingSource =>
    exact whenExecuting_coverage he
      (fun r => State.onChannel_coverage fun ch => State.withLength_coverage (s.timingSource_coverage r ch))
  case timingUnknownItem => exact whenExecuting_coverage he (fun _ => rfl)
  case cameraPass => exact whenExecuting_coverage he (fun r => State.onChannel_coverage (s.takePass_coverage r))
  case coverageWrite => exact absurd rfl hw
  case coverageFix => exact absurd rfl hf
  case partReset => exact whenExecuting_coverage he (fun _ => State.withLength_coverage rfl)
  case unknownRequest => exact whenExecuting_coverage he (fun _ => rfl)
  case supervisionTick => exact whenRunning_coverage he (State.ite_coverage s.superviseTick_coverage rfl)
  case passTimeout ch =>
    refine whenRunning_coverage he ?_
    split
    · exact State.ite_coverage (s.endPass_swapsOnly ch _ _).coverage rfl
    · rfl
  case verifyStart => exact whenRunning_coverage he (by split <;> rfl)
  case verifyEnd =>
    refine whenRunning_coverage he ?_
    split
    · rfl
    · split
      · exact s.endVerify_coverage _ _ _ _
      · rfl
  case scrubStepEnd =>
    refine whenRunning_coverage he ?_
    split
    · rfl
    · exact State.ite_coverage rfl (s.endScrub_coverage _)
  case displayFrameStart ch =>
    exact whenRunning_coverage he (State.ite_coverage (s.startFrame_swapsOnly ch).coverage rfl)
  case holdLimitReached ch =>
    exact whenRunning_coverage he (State.ite_coverage (s.enterFallback_evalFrame ch).coverage rfl)
  case activeLineStart ch =>
    exact whenRunning_coverage he (State.ite_coverage (s.startLine_swapsOnly ch).coverage rfl)
  case activeLineEnd ch => exact whenRunning_coverage he (State.ite_coverage rfl rfl)
  case displayFrameEnd ch =>
    exact whenRunning_coverage he (State.ite_coverage (s.endFrame_swapsOnly ch).coverage rfl)
  case headerCell ch =>
    exact whenRunning_coverage he (State.ite_coverage (s.sendHeader_swapsOnly ch).coverage rfl)
  case answerCellSent ch =>
    exact whenRunning_coverage he (by split; exacts [(s.sendAnswer_swapsOnly ch _ _).coverage, rfl])
  case ancillaryAreaEnd ch => exact whenRunning_coverage he (by split <;> rfl)
  case referenceStart ch => exact whenRunning_coverage he (State.ite_coverage rfl rfl)
  case holdover ch => exact whenRunning_coverage he (State.ite_coverage rfl rfl)
  case powerOn | resetNAssert | refclkLoss => obtain rfl := Host.Outcome.next.inj he; rfl
  case powerOnConditionEnd | resetNDeassert | refclkReturn =>
    obtain rfl := Host.Outcome.next.inj he
    exact State.ite_coverage (s.endCondition_coverage _ _) rfl

/-- Settles O58: a FIXED record by the induction over the effects, the records under the other commands by their
cases. -/
theorem fixedCoverageNeverChanges : Obligations.FixedCoverageNeverChanges :=
  ⟨fun _ _ ch q h hs => (fixedCoverage_storeKept ch q).kept.step h hs, fun _ _ _ he hw hf => exec_coverage he hw hf⟩

end Sys2Proof.Machine
end

section
/-! The pair sum of R1. -/

namespace Sys2Proof.Machine

/-- R1: the sum of the running sums of the bytes: a byte counts once for itself and once for each byte after it. -/
def weightedSum (bytes : List Byte) : Nat :=
  ((List.range bytes.length).map fun i => (bytes.length - i) * byteAt bytes i).sum

theorem weightedSum_cons (x : Byte) (xs : List Byte) :
    weightedSum (x :: xs) = (xs.length + 1) * x.toNat + weightedSum xs := by
  simp only [weightedSum, List.length_cons, List.range_succ_eq_map, List.map_cons, List.sum_cons, List.map_map]
  congr 2
  refine List.map_congr_left fun i _ => ?_
  simp [byteAt]

/-- R1: from any accumulators on, the first gains the bytes and the second, once per byte, the first as it then
stands. -/
theorem PairAcc.over_modEq (acc : PairAcc) (bytes : List Byte) :
    (acc.over bytes).a ≡ acc.a + (bytes.map BitVec.toNat).sum [MOD 65521] ∧
    (acc.over bytes).b ≡ acc.b + bytes.length * acc.a + weightedSum bytes [MOD 65521] := by
  induction bytes generalizing acc with
  | nil => exact ⟨.rfl, by simp [PairAcc.over, weightedSum, Nat.ModEq]⟩
  | cons x xs ih =>
    obtain ⟨iha, ihb⟩ := ih (acc.step x)
    have ha : (acc.step x).a ≡ acc.a + x.toNat [MOD 65521] := Nat.mod_modEq _ _
    have hb : (acc.step x).b ≡ acc.b + (acc.a + x.toNat) [MOD 65521] :=
      (Nat.mod_modEq _ _).trans (ha.add_left acc.b)
    constructor
    · calc (acc.over (x :: xs)).a
          ≡ (acc.step x).a + (xs.map BitVec.toNat).sum [MOD 65521] := iha
        _ ≡ acc.a + x.toNat + (xs.map BitVec.toNat).sum [MOD 65521] := ha.add_right _
        _ = acc.a + ((x :: xs).map BitVec.toNat).sum := by rw [List.map_cons, List.sum_cons, Nat.add_assoc]
    · calc (acc.over (x :: xs)).b
          ≡ (acc.step x).b + xs.length * (acc.step x).a + weightedSum xs [MOD 65521] := ihb
        _ ≡ acc.b + (acc.a + x.toNat) + xs.length * (acc.a + x.toNat) + weightedSum xs [MOD 65521] :=
          (hb.add (ha.mul_left xs.length)).add_right _
        _ = acc.b + (x :: xs).length * acc.a + weightedSum (x :: xs) := by
          rw [weightedSum_cons, List.length_cons]; ring

theorem PairAcc.over_lt (acc : PairAcc) (bytes : List Byte) (h : acc.a < 65521 ∧ acc.b < 65521) :
    (acc.over bytes).a < 65521 ∧ (acc.over bytes).b < 65521 := by
  induction bytes generalizing acc with
  | nil => exact h
  | cons x xs ih => exact ih (acc.step x) ⟨Nat.mod_lt _ (by decide), Nat.mod_lt _ (by decide)⟩

/-- Settles O7. -/
theorem pairSumClosedForm : Obligations.PairSumClosedForm := by
  intro bytes
  obtain ⟨ha, hb⟩ := PairAcc.start.over_modEq bytes
  obtain ⟨la, lb⟩ := PairAcc.start.over_lt bytes (by decide)
  have a : (PairAcc.start.over bytes).a = (1 + (bytes.map BitVec.toNat).sum) % 65521 :=
    (Nat.mod_eq_of_lt la).symm.trans ha
  have b : (PairAcc.start.over bytes).b = (bytes.length + weightedSum bytes) % 65521 := by
    rw [← Nat.mod_eq_of_lt lb, hb]
    simp [PairAcc.start]
  rw [pairSum, PairAcc.value, a, b, weightedSum]

end Sys2Proof.Machine
end

section
/-! The table and coverage requests: what the command of a request's row does with the agent executing it, and the tests
of each request in their order. -/

namespace Sys2Proof.Machine

/-! ## The row of a request -/

/-- R212: a request's kind is settled by its kind byte. -/
theorem Request.isKind_of {r : Request} {code : Byte} {k : RequestKind} (h : r.kind = code)
    (hk : ({ r with kind := code } : Request).isKind k = true := by rfl) : r.isKind k = true := by
  subst h; exact hk

/-- R214: a TABLE-LOCK's action is settled by its payload. -/
theorem Request.isLock_of {r : Request} {a : Option LockAction} {payload : List Byte} (h : r.kind = 7)
    (hp : r.payload = payload)
    (ha : ({ r with kind := 7, payload := payload } : Request).isLock a = true := by rfl) : r.isLock a = true := by
  subst hp
  rw [Request.isLock, Request.isKind_of h, Bool.true_and]
  exact (Bool.and_eq_true_iff.mp ha).2

section

variable {s : State} {r : Request}

theorem State.withLength_eq {n : Nat} {run : State} (h : r.payload.length = n) : s.withLength r n run = run := if_pos h

theorem State.withLength_refused {n : Nat} {run : State} (h : r.payload.length ≠ n) :
    s.withLength r n run = s.answered r .length [] := if_neg h

theorem State.onChannel_eq {ch : Channel} {run : Channel → State} (h : channelOf r.channel = some ch) :
    s.onChannel r run = run ch := by simp only [State.onChannel, h]

theorem State.onChannel_refused {run : Channel → State} (h : channelOf r.channel = none) :
    s.onChannel r run = s.answered r .range [] := by simp only [State.onChannel, h, State.refuse_eq_answered]

theorem State.onTable_eq {t : TableId} {run : TableId → State} (h : tableOfNumber r.item.toNat = some t) :
    s.onTable r run = run t := by simp only [State.onTable, h]

theorem State.onTable_refused {run : TableId → State} (h : tableOfNumber r.item.toNat = none) :
    s.onTable r run = s.answered r .range [] := by simp only [State.onTable, h, State.refuse_eq_answered]

end

/-! ## The arms of the requests -/

section

variable (s : State)

theorem exec_tableOpen : exec .tableOpen s = execTableOpen s := rfl
theorem exec_tableData : exec .tableData s = execTableData s := rfl
theorem exec_tableCommit : exec .tableCommit s = execTableCommit s := rfl
theorem exec_tableAbandon : exec .tableAbandon s = execTableAbandon s := rfl
theorem exec_tableLockLock : exec .tableLockLock s = execTableLockLock s := rfl
theorem exec_tableLockUnlock : exec .tableLockUnlock s = execTableLockUnlock s := rfl
theorem exec_tableLockLockDown : exec .tableLockLockDown s = execTableLockLockDown s := rfl
theorem exec_coverageWrite : exec .coverageWrite s = execCoverageWrite s := rfl
theorem exec_coverageFix : exec .coverageFix s = execCoverageFix s := rfl

end

/-- R199: with the agent executing a request of the command's row, the command does what the request says. -/
theorem whenExecuting_of {s u : State} {r : Request} {row : Request → Bool} {f : State → Request → State}
    (hs : s.Executes r) (hr : row r = true) (hu : f s r = u) : whenExecuting s row f = .next u := by
  rw [whenExecuting_eq hs hr, hu]

/-! ## TABLE-OPEN (R12) -/

/-- R2: the legal lengths, kind by kind. -/
theorem TableId.legalLength_iff (t : TableId) (n : Nat) : t.legalLength n = true ↔ t.Admits n := by
  cases t
  case defectList =>
    simp only [TableId.legalLength, TableId.Admits, Bool.and_eq_true, decide_eq_true_eq, beq_iff_eq]
    constructor
    · rintro ⟨⟨hlo, hhi⟩, hmod⟩
      exact ⟨(n - 2) / 4, by omega, by omega⟩
    · rintro ⟨k, hk, rfl⟩
      omega
  all_goals simp [TableId.legalLength, TableId.Admits]

/-- Settles O21. -/
theorem tableOpenInOrder : Obligations.TableOpenInOrder := by
  refine ⟨TableId.legalLength_iff, fun s r t hs hk ht hlen => ?_⟩
  have taken : exec .tableOpen s = .next (s.openLoad r t) :=
    (exec_tableOpen s).trans (whenExecuting_of hs (Request.isKind_of hk)
      ((State.onTable_eq ht).trans (State.withLength_eq hlen)))
  rw [taken]
  refine ⟨fun hl => ?_, fun hl hb => ?_, fun hl hi hn => ?_, fun hl hi hn => ?_⟩
  · rw [State.openLoad, if_pos hl]; rfl
  · rw [State.openLoad, if_neg (not_not.mpr hl), if_pos hb]; rfl
  · rw [State.openLoad, if_neg (not_not.mpr hl), if_neg (not_not.mpr hi), if_neg (by rw [hn]; exact Bool.false_ne_true)]
    rfl
  · rw [State.openLoad, if_neg (not_not.mpr hl), if_neg (not_not.mpr hi), if_pos hn]; rfl

/-! ## TABLE-DATA (R13) -/

section

variable {s : State} {r : Request} {t : TableId} {load : Load}

/-- Assumption 23: a TABLE-DATA answer carries the bytes received of the requesting link's own load. -/
theorem State.received_eq (hl : (s.table t).staged = .loading load) (ho : load.owner = r.link) :
    s.received r t = toLe 2 load.bytes.length := by
  simp only [State.received, hl, ho, if_true]

theorem State.received_eq_nil (h : ∀ load, (s.table t).staged = .loading load → load.owner ≠ r.link) :
    s.received r t = [] := by
  simp only [State.received]
  split
  case h_1 load hl => exact if_neg (h load hl)
  case h_2 => rfl

theorem State.takeData_refused (h : ∀ load, (s.table t).staged = .loading load → load.owner ≠ r.link) :
    s.takeData r t = s.answered r .sequence [] := by
  rw [State.takeData]
  split
  case h_1 load hl => exact if_neg (h load hl)
  case h_2 => rfl

theorem State.takeData_eq (hl : (s.table t).staged = .loading load) (ho : load.owner = r.link) :
    s.takeData r t = s.loadData r t load := by
  simp only [State.takeData, hl, ho, if_true]

end

/-- Settles O22. -/
theorem tableDataInOrder : Obligations.TableDataInOrder := by
  intro s r t hs hk ht hlo hhi
  have taken : exec .tableData s = .next (s.takeData r t) :=
    (exec_tableData s).trans (whenExecuting_of hs (Request.isKind_of hk)
      ((State.onTable_eq ht).trans (if_pos ⟨hlo, hhi⟩)))
  have data : (r.payload.drop 2).length = r.payload.length - 2 := List.length_drop
  rw [taken]
  refine ⟨fun hno => by rw [State.takeData_refused hno], fun load hl ho => ?_⟩
  rw [State.takeData_eq hl ho, State.loadData, State.received_eq hl ho]
  simp only [data]
  refine ⟨fun hlock => ?_, fun hlock horder => ?_, fun hlock horder hbad => ?_, fun hlock horder h3 h46 hfit => ?_⟩
  · rw [if_pos hlock]; rfl
  · rw [if_neg (not_not.mpr hlock), if_pos horder]; rfl
  · rw [if_neg (not_not.mpr hlock), if_neg (not_not.mpr horder), horder, if_pos (by omega)]; rfl
  · rw [if_neg (not_not.mpr hlock), if_neg (not_not.mpr horder), horder, if_neg (by omega),
      State.received_eq (load := { load with bytes := load.bytes ++ r.payload.drop 2 })
        (by rw [State.setStaged_table_staged, if_pos rfl]) ho, List.length_append, data]
    rfl

/-! ## TABLE-COMMIT (R14) -/

theorem Staged.owner_loading {x : Staged} {load : Load} (h : x = .loading load) : x.owner = some load.owner := by
  rw [h]; rfl

/-- R27: a commit leaves ids in the queue, so a scrub step is suspended. -/
theorem State.commit_scrub (s : State) (r : Request) (t : TableId) (load : Load) :
    (s.commit r t load).tables.scrub = s.tables.scrub.map fun st => { st with suspended := true } := by
  have nonempty : (!(s.tables.verifyQueue ++ [t]).isEmpty) = true := by simp
  change (s.setStaged t _).tables.scrub.map _ = _
  rw [nonempty, State.setStaged_scrub]

/-- Settles O23. -/
theorem tableCommitInOrder : Obligations.TableCommitInOrder := by
  intro s r t hs hk ht hlen
  have taken : exec .tableCommit s = .next (s.takeCommit r t) :=
    (exec_tableCommit s).trans (whenExecuting_of hs (Request.isKind_of hk)
      ((State.onTable_eq ht).trans (State.withLength_eq hlen)))
  rw [taken]
  refine ⟨fun ho => ?_, fun ho hno => ?_, fun load hl ho => ?_⟩
  · rw [State.takeCommit, if_pos ho]; rfl
  · rw [State.takeCommit, if_neg (not_not.mpr ho)]
    split
    case h_1 load hl => exact absurd hl (hno load)
    case h_2 => rfl
  · have owned : (s.table t).staged.owner = some r.link := by rw [Staged.owner_loading hl, ho]
    have run : s.takeCommit r t = s.commitLoad r t load := by
      rw [State.takeCommit, if_neg (not_not.mpr owned), hl]
    rw [run, State.commitLoad]
    refine ⟨fun hlock => ?_, fun hlock hshort => ?_, fun hlock hfull => ?_⟩
    · rw [if_pos hlock]; rfl
    · rw [if_neg (not_not.mpr hlock), if_pos hshort]; rfl
    · rw [if_neg (not_not.mpr hlock), if_neg (Nat.not_lt.mpr hfull)]
      exact ⟨_, rfl, rfl, s.commit_scrub r t load⟩

/-! ## TABLE-ABANDON (R15) -/

/-- What ends with a load: its staged bank is IDLE, and the rest of the directory stands. -/
theorem State.endLoad_table (s : State) (t : TableId) :
    ((s.setStaged t .idle).table t).staged = .idle ∧
    ((s.setStaged t .idle).table t).active = (s.table t).active ∧
    ((s.setStaged t .idle).table t).lock = (s.table t).lock ∧
    ∀ x, x ≠ t → (s.setStaged t .idle).table x = s.table x :=
  ⟨by rw [State.setStaged_table_staged, if_pos rfl], s.setStaged_table_active t t _, s.setStaged_table_lock t t _,
    fun x hx => by rw [State.setStaged_table, if_neg hx]⟩

/-- R142: an answer joins the tail of its link's queue. -/
theorem State.answer_answers (s : State) (link : Channel) (a : Answer) :
    ((s.answer link a).link.get link).answers = (s.link.get link).answers ++ [a] := by
  rw [State.answer, State.setLink_link, Pair.get_set]

theorem State.finish_answers (s : State) (r : Request) (x : Result) (p : List Byte) :
    ((s.finish r x p).link.get r.link).answers =
      (s.link.get r.link).answers ++ [{ tag := r.tag, kind := r.kind, result := x, payload := p }] :=
  s.answer_answers r.link _

/-- Settles O24. -/
theorem tableAbandonEndsLoad : Obligations.TableAbandonEndsLoad := by
  intro s r t hs hk ht hp
  have taken : exec .tableAbandon s = .next (s.takeAbandon r t) :=
    (exec_tableAbandon s).trans (whenExecuting_of hs (Request.isKind_of hk)
      ((State.onTable_eq ht).trans (State.withLength_eq (congrArg List.length hp))))
  rw [taken, State.takeAbandon]
  refine ⟨fun ho => by rw [if_pos ho]; rfl, fun ho => ?_⟩
  rw [if_neg (not_not.mpr ho)]
  split
  case h_1 load supplied tag hv =>
    have owner : load.owner = r.link := by rw [hv] at ho; exact Option.some.inj ho
    obtain ⟨idle, active, lock, other⟩ := (s.answerCommit load tag .aborted []).endLoad_table t
    have table (x : TableId) : (((((s.answerCommit load tag .aborted []).setStaged t .idle).leaveQueue t).finish r .ok
        []).table x) = ((s.answerCommit load tag .aborted []).setStaged t .idle).table x := State.leaveQueue_table _ t x
    refine ⟨_, rfl, by rw [table]; exact idle, by rw [table]; exact active, by rw [table]; exact lock,
      fun x hx => by rw [table]; exact other x hx, rfl, State.leaveQueue_coverage _ t, State.leaveQueue_entries _ t,
      fun load' supplied' tag' hv' => ⟨?_, ?_, ?_⟩, fun hno => absurd hv (hno load supplied tag)⟩
    · exact (State.leaveQueue_verifyQueue _ t).trans (by rw [State.setStaged_verifyQueue]; rfl)
    · change (State.leaveQueue _ t).tables.verifying ≠ _
      rw [State.leaveQueue_verifying]
      split
      · exact nofun
      · assumption
    · obtain ⟨rfl, rfl, rfl⟩ := Staged.verifying.inj (hv.symm.trans hv')
      rw [State.finish_answers, State.leaveQueue_link, hk]
      change ((s.answer load.owner _).link.get r.link).answers ++ _ = _
      rw [owner, State.answer_answers, List.append_assoc]
      rfl
  case h_2 hno =>
    obtain ⟨idle, active, lock, other⟩ := s.endLoad_table t
    refine ⟨_, rfl, idle, active, lock, other, rfl, rfl, rfl,
      fun load supplied tag hv => absurd hv (hno load supplied tag), fun _ => ⟨s.setStaged_verifyQueue t .idle, ?_⟩⟩
    rw [State.finish_answers, hk]
    rfl

/-! ## TABLE-LOCK (R22, R23) -/

/-- Settles O25. -/
theorem tableLocksMoveByRule : Obligations.TableLocksMoveByRule := by
  intro s r t hs hk ht
  have length {b : Byte} (hp : r.payload = [b]) : r.payload.length = 1 := congrArg List.length hp
  have unlock (hp : r.payload = [1]) : exec .tableLockUnlock s = .next (s.unlock r t) :=
    (exec_tableLockUnlock s).trans (whenExecuting_of hs (Request.isLock_of hk hp)
      ((State.onTable_eq ht).trans (State.withLength_eq (length hp))))
  refine ⟨fun hp l hl => ?_, fun hp => ?_, fun hp hdrive => ?_, fun hp hlock hdrive => ?_⟩
  · have lock : exec .tableLockLock s = .next (s.lock r t) :=
      (exec_tableLockLock s).trans (whenExecuting_of hs (Request.isLock_of hk hp)
        ((State.onTable_eq ht).trans (State.withLength_eq (length hp))))
    have moved : s.lock r t = s.takeLock r t l := by
      rw [State.lock, hl]
      cases (s.table t).lock <;> rfl
    rw [lock, moved]
    rfl
  · have lockDown : exec .tableLockLockDown s = .next (s.lockDown r t) :=
      (exec_tableLockLockDown s).trans (whenExecuting_of hs (Request.isLock_of hk hp)
        ((State.onTable_eq ht).trans (State.withLength_eq (length hp))))
    rw [lockDown]
    rfl
  · rw [unlock hp, State.unlock, if_neg (by rintro ⟨h1, h2⟩; rw [hdrive h1] at h2; cases h2)]
    rfl
  · rw [unlock hp, State.unlock, if_pos ⟨hlock, hdrive⟩]
    rfl

/-! ## The coverage requests (R31, R32) -/

/-- R30: the bounds of a coverage record. -/
theorem Rect.legal_iff (q : Rect) : q.legal = true ↔ q.x0 < q.x1 ∧ q.x1 ≤ 2047 ∧ q.y0 < q.y1 ∧ q.y1 ≤ 1535 := by
  simp only [Rect.legal, Bool.and_eq_true, decide_eq_true_eq, and_assoc]

theorem Coverage.isFixed_eq_false {c : Coverage} (h : ∀ q, c ≠ .fixed q) : c.isFixed = false := by
  cases c with
  | fixed q => exact absurd rfl (h q)
  | _ => rfl

/-- R31: a COVERAGE-WRITE past its mode, FIXED, bounds and commit tests: a mesh that fails conflicts, else it is
taken. -/
theorem State.writeCoverage_examined {s : State} {r : Request} {ch : Channel} (hm : s.resetRecord.mode = .service)
    (hf : (s.coverage.get ch).isFixed = false) (hq : (readRect r.payload).legal = true)
    (hc : (s.table (.warpMesh ch)).staged.committed = false) :
    (∀ mesh edge, s.meshConflict ch (readRect r.payload) = some (mesh, edge) →
      s.writeCoverage r ch = s.answered r .meshConflict (toLe 1 mesh ++ toLe 1 (edgeCode edge))) ∧
    (s.meshConflict ch (readRect r.payload) = none →
      s.writeCoverage r ch = (s.setCoverage ch (.written (readRect r.payload))).answered r .ok []) := by
  constructor
  · intro mesh edge hfail
    rw [State.writeCoverage, hm, hf, hq, hc, hfail]; rfl
  · intro hfit
    rw [State.writeCoverage, hm, hf, hq, hc, hfit]; rfl

/-- Settles O31. -/
theorem coverageRequestsInOrder : Obligations.CoverageRequestsInOrder := by
  intro s r hs
  refine ⟨fun hch => ⟨fun hk => ?_, fun hk => ?_⟩, fun ch q hk hch hlen hq => ?_, fun ch hk hch hp => ?_⟩
  · exact (exec_coverageWrite s).trans (whenExecuting_of hs (Request.isKind_of hk) (State.onChannel_refused hch))
  · exact (exec_coverageFix s).trans (whenExecuting_of hs (Request.isKind_of hk) (State.onChannel_refused hch))
  · have taken : exec .coverageWrite s = .next (s.writeCoverage r ch) :=
      (exec_coverageWrite s).trans (whenExecuting_of hs (Request.isKind_of hk)
        ((State.onChannel_eq hch).trans (State.withLength_eq hlen)))
    rw [taken]
    obtain rfl : q = readRect r.payload := hq
    refine ⟨fun hm => ?_, fun hm => ⟨fun x hx => ?_, fun hx => ⟨fun hbad => ?_, fun h1 h2 h3 h4 => ?_⟩⟩⟩
    · rw [State.writeCoverage, hm]; rfl
    · rw [State.writeCoverage, hm, hx]; rfl
    · have illegal : (readRect r.payload).legal = false := Bool.eq_false_iff.mpr fun h => hbad ((Rect.legal_iff _).mp h)
      rw [State.writeCoverage, hm, Coverage.isFixed_eq_false hx, illegal]; rfl
    · have legal : (readRect r.payload).legal = true := (Rect.legal_iff _).mpr ⟨h1, h2, h3, h4⟩
      have free := Coverage.isFixed_eq_false hx
      refine ⟨fun hc => ?_, fun hc => ⟨fun mesh edge hv hfail => ?_, fun hfit => ?_⟩⟩
      · rw [State.writeCoverage, hm, free, legal, hc]; rfl
      · rw [(State.writeCoverage_examined hm free legal hc).1 mesh edge ((if_pos hv).trans hfail)]
      · have fits : s.meshConflict ch (readRect r.payload) = none := by
          rw [State.meshConflict]
          split
          case isTrue hv => exact hfit.resolve_left (by rw [hv]; exact nofun)
          case isFalse => rfl
        rw [(State.writeCoverage_examined hm free legal hc).2 fits]
        rfl
  · have taken : exec .coverageFix s = .next (s.fixCoverage r ch) :=
      (exec_coverageFix s).trans (whenExecuting_of hs (Request.isKind_of hk)
        ((State.onChannel_eq hch).trans (State.withLength_eq (congrArg List.length hp))))
    rw [taken, State.fixCoverage]
    refine ⟨fun hm => ?_, fun hm => ⟨fun hx => ?_, fun q hx => ?_, fun q hx => ?_⟩⟩
    · rw [hm]; rfl
    all_goals rw [hm, hx]; rfl

end Sys2Proof.Machine
end

section
/-! What is refused whatever the state: the fields and lengths that name nothing. -/

namespace Sys2Proof.Machine

section

variable (s : State)

theorem exec_queryRefused : exec .queryRefused s = execQueryRefused s := rfl
theorem exec_queryChannel : exec .queryChannel s = execQueryChannel s := rfl
theorem exec_queryBuffer : exec .queryBuffer s = execQueryBuffer s := rfl
theorem exec_queryTile : exec .queryTile s = execQueryTile s := rfl
theorem exec_queryFaultEntry : exec .queryFaultEntry s = execQueryFaultEntry s := rfl
theorem exec_queryHistory : exec .queryHistory s = execQueryHistory s := rfl
theorem exec_queryTable : exec .queryTable s = execQueryTable s := rfl
theorem exec_queryParameter : exec .queryParameter s = execQueryParameter s := rfl
theorem exec_queryCoverage : exec .queryCoverage s = execQueryCoverage s := rfl
theorem exec_queryTiming : exec .queryTiming s = execQueryTiming s := rfl
theorem exec_queryPass : exec .queryPass s = execQueryPass s := rfl
theorem exec_set : exec .set s = execSet s := rfl
theorem exec_tableLockUnknownAction : exec .tableLockUnknownAction s = execTableLockUnknownAction s := rfl
theorem exec_viewRestart : exec .viewRestart s = execViewRestart s := rfl
theorem exec_timingTracker : exec .timingTracker s = execTimingTracker s := rfl
theorem exec_timingBandwidth : exec .timingBandwidth s = execTimingBandwidth s := rfl
theorem exec_timingSource : exec .timingSource s = execTimingSource s := rfl
theorem exec_timingUnknownItem : exec .timingUnknownItem s = execTimingUnknownItem s := rfl
theorem exec_faultAck : exec .faultAck s = execFaultAck s := rfl
theorem exec_faultClear : exec .faultClear s = execFaultClear s := rfl
theorem exec_partReset : exec .partReset s = execPartReset s := rfl
theorem exec_unknownRequest : exec .unknownRequest s = execUnknownRequest s := rfl

end

/-! ## Fields that name nothing -/

/-- R2: no table has an id above 12. -/
theorem tableOfNumber_eq_none {n : Nat} (h : 13 ≤ n) : tableOfNumber n = none := by
  unfold tableOfNumber
  split
  case h_14 => rfl
  all_goals omega

/-- R173: no fault kind has a number outside 1 to 13. -/
theorem kindOfNumber_eq_none {n : Nat} (h : n = 0 ∨ 14 ≤ n) : kindOfNumber n = none := by
  refine List.find?_eq_none.mpr fun k _ hk => ?_
  have number : k.number = n := by simpa using hk
  cases k <;> simp only [FaultKind.number] at number <;> omega

/-- R206: no parameter has an id above 29. -/
theorem paramOfId_eq_none {id : Byte} (h : 30 ≤ id.toNat) : paramOfId id = none := List.getElem?_eq_none h

theorem paramChannel_of_channel {p : Param} {code : Byte} (h : p.partScope = false) :
    paramChannel p code = channelOf code := by
  rw [paramChannel, h]; rfl

/-- R185: a channel field up to 2 names channels. -/
theorem channelsNamed_isSome {code : Byte} (h : code.toNat ≤ 2) : ∃ chs, channelsNamed code = some chs := by
  obtain h | h | h : code.toNat = 0 ∨ code.toNat = 1 ∨ code.toNat = 2 := by omega
  all_goals
    rw [channelsNamed, h]
    exact ⟨_, rfl⟩

section

variable {r : Request}

/-- R214: a QUERY's record is settled by its payload. -/
theorem Request.isQuery_of {k : RecordKind} {payload : List Byte} (h : r.kind = 1) (hp : r.payload = payload)
    (hq : ({ r with kind := 1, payload := payload } : Request).isQuery k = true := by rfl) : r.isQuery k = true := by
  subst hp
  rw [Request.isQuery, Request.isKind_of h, Bool.true_and]
  exact (Bool.and_eq_true_iff.mp hq).2

/-- R214: a TIMING's setting is settled by its item. -/
theorem Request.isTiming_of {i : Option TimingItem} {item : Byte} (h : r.kind = 11) (hi : r.item = item)
    (ht : ({ r with kind := 11, item := item } : Request).isTiming i = true := by rfl) : r.isTiming i = true := by
  subst hi
  rw [Request.isTiming, Request.isKind_of h, Bool.true_and]
  exact (Bool.and_eq_true_iff.mp ht).2

/-- R202: a payload that is no single byte, or one above 10, names no record. -/
theorem Request.recordKind_eq_none (h : ∀ k : Byte, r.payload = [k] → 11 ≤ k.toNat) : r.recordKind = none := by
  unfold Request.recordKind
  split
  case h_12 => rfl
  all_goals
    rename_i heq
    obtain ⟨k, hk, hn⟩ := List.map_eq_singleton_iff.mp heq
    have := h k hk
    omega

/-- R22: a payload that is no single byte, or one above 2, names no lock action. -/
theorem Request.lockAction_eq_none (h : ∀ a : Byte, r.payload = [a] → 3 ≤ a.toNat) : r.lockAction = none := by
  unfold Request.lockAction
  split
  case h_4 => rfl
  all_goals
    rename_i heq
    obtain ⟨a, ha, hn⟩ := List.map_eq_singleton_iff.mp heq
    have := h a ha
    omega

/-- R168: no TIMING setting has an item above 2. -/
theorem Request.timingItem_eq_none (h : 3 ≤ r.item.toNat) : r.timingItem = none := by
  unfold Request.timingItem
  split
  case h_4 => rfl
  all_goals omega

/-- R212: a kind byte outside 1 to 15 is unknown. -/
theorem Request.kindOf_eq_unknown (h : r.kind.toNat = 0 ∨ 16 ≤ r.kind.toNat) : r.kindOf = .unknown := by
  unfold Request.kindOf
  split
  case h_16 => rfl
  all_goals omega

/-- The row of the QUERY that names no record. -/
theorem Request.isQueryRefused (hk : r.kind = 1) (h : ∀ k : Byte, r.payload = [k] → 11 ≤ k.toNat) :
    (r.isKind .query && r.recordKind.isNone) = true := by
  rw [Request.isKind_of hk, Request.recordKind_eq_none h]; rfl

/-- The row of the TABLE-LOCK that names no action. -/
theorem Request.isLock_none (hk : r.kind = 7) (h : ∀ a : Byte, r.payload = [a] → 3 ≤ a.toNat) :
    r.isLock none = true := by
  rw [Request.isLock, Request.isKind_of hk, Request.lockAction_eq_none h]; rfl

/-- A payload of another length is no single byte. -/
theorem Request.payload_ne_singleton {n : Nat} (h : r.payload.length ≠ 1) (k : Byte) (hk : r.payload = [k]) :
    n ≤ k.toNat := absurd (congrArg List.length hk) h

end

/-! ## SET (R203) -/

section

variable {s : State} {r : Request}

theorem State.runSet_unknown (h : paramOfId r.item = none) : s.runSet r = s.answered r .range [] := by
  simp only [State.runSet, h, State.refuse_eq_answered]

theorem State.runSet_noChannel {p : Param} (hp : paramOfId r.item = some p) (hc : paramChannel p r.channel = none) :
    s.runSet r = s.answered r .range [] := by
  simp only [State.runSet, hp, hc, State.refuse_eq_answered]

theorem State.runSet_eq {p : Param} {ch : Channel} (hp : paramOfId r.item = some p)
    (hc : paramChannel p r.channel = some ch) : s.runSet r = s.withLength r p.width (s.setValue r ch p) := by
  simp only [State.runSet, hp, hc]

/-- R203, test 4: a code that names no value is refused. -/
theorem State.runSet_badCode {p : Param} {ch : Channel} (hp : paramOfId r.item = some p)
    (hc : paramChannel p r.channel = some ch) (hl : r.payload.length = p.width)
    (hb : p.badCode (p.read r.payload) = true) : s.runSet r = s.answered r .range [] := by
  rw [State.runSet_eq hp hc, State.withLength_eq hl]
  exact if_pos hb

end

/-- R203: the two enumerations, whose one byte is their code. -/
theorem badCode_nightMode (payload : List Byte) :
    Param.nightMode.badCode (Param.nightMode.read payload) = (decide (2 < byteAt payload 0) || false) := rfl

theorem badCode_tickEdge (payload : List Byte) :
    Param.tickEdge.badCode (Param.tickEdge.read payload) = (decide (1 < byteAt payload 0) || false) := rfl

/-! ## The refusals -/

/-- Settles O26: each by the row of its request and the test that refuses it. -/
theorem unknownFieldsAreRefused : Obligations.UnknownFieldsAreRefused := by
  intro s r hs
  refine ⟨fun hk => ⟨?queryLength, ?queryRecord, ?queryChannel, ?tile, ?faultEntry, ?history, ?table, ?parameter⟩,
    fun hk => ⟨?setId, ?setChannel, ?setLength, ?setNightMode, ?setTickEdge⟩, ?tableIds, ?tableLengths, ?channels,
    ?lengths, ?plainLengths, ?timingItem, ?kind⟩
  case queryLength =>
    intro hl
    exact (exec_queryRefused s).trans (whenExecuting_of hs
      (Request.isQueryRefused hk (Request.payload_ne_singleton hl)) (State.withLength_refused hl))
  case queryRecord =>
    intro k hp hlo
    have unknown : ∀ j : Byte, r.payload = [j] → 11 ≤ j.toNat := fun j hj => by
      obtain rfl : k = j := List.singleton_inj.mp (hp.symm.trans hj)
      exact hlo
    exact (exec_queryRefused s).trans (whenExecuting_of hs (Request.isQueryRefused hk unknown)
      (State.withLength_eq (congrArg List.length hp)))
  case queryChannel =>
    intro hc
    have none {run : Channel → State} : s.onChannel r run = s.answered r .range [] := State.onChannel_refused hc
    exact ⟨
      fun hp => (exec_queryChannel s).trans (whenExecuting_of hs (Request.isQuery_of hk hp) none),
      fun hp => (exec_queryBuffer s).trans (whenExecuting_of hs (Request.isQuery_of hk hp) none),
      fun hp => (exec_queryTile s).trans (whenExecuting_of hs (Request.isQuery_of hk hp) none),
      fun hp => (exec_queryFaultEntry s).trans (whenExecuting_of hs (Request.isQuery_of hk hp) none),
      fun p hp hid hscope => (exec_queryParameter s).trans (whenExecuting_of hs (Request.isQuery_of hk hp)
        (by simp only [hid, paramChannel_of_channel hscope, hc, State.refuse_eq_answered])),
      fun hp => (exec_queryCoverage s).trans (whenExecuting_of hs (Request.isQuery_of hk hp) none),
      fun hp => (exec_queryTiming s).trans (whenExecuting_of hs (Request.isQuery_of hk hp) none),
      fun hp => (exec_queryPass s).trans (whenExecuting_of hs (Request.isQuery_of hk hp) none)⟩
  case tile =>
    intro hp hi
    refine (exec_queryTile s).trans (whenExecuting_of hs (Request.isQuery_of hk hp) ?_)
    rw [State.onChannel]
    split
    · exact if_neg (by omega)
    · rfl
  case faultEntry =>
    intro hp hi
    refine (exec_queryFaultEntry s).trans (whenExecuting_of hs (Request.isQuery_of hk hp) ?_)
    rw [State.onChannel, kindOfNumber_eq_none hi]
    split <;> rfl
  case history =>
    intro hp hi
    exact (exec_queryHistory s).trans (whenExecuting_of hs (Request.isQuery_of hk hp) (if_neg (by omega)))
  case table =>
    intro hp hi
    exact (exec_queryTable s).trans (whenExecuting_of hs (Request.isQuery_of hk hp)
      (State.onTable_refused (tableOfNumber_eq_none hi)))
  case parameter =>
    intro hp hi
    exact (exec_queryParameter s).trans (whenExecuting_of hs (Request.isQuery_of hk hp)
      (by simp only [paramOfId_eq_none hi, State.refuse_eq_answered]))
  case setId =>
    intro hid
    exact (exec_set s).trans (whenExecuting_of hs (Request.isKind_of hk) (State.runSet_unknown hid))
  case setChannel =>
    intro p hid hscope hc
    exact (exec_set s).trans (whenExecuting_of hs (Request.isKind_of hk)
      (State.runSet_noChannel hid ((paramChannel_of_channel hscope).trans hc)))
  case setLength =>
    intro p ch hid hc hl
    exact (exec_set s).trans (whenExecuting_of hs (Request.isKind_of hk)
      ((State.runSet_eq hid hc).trans (State.withLength_refused hl)))
  case setNightMode =>
    intro ch hi hc hl hcode
    refine (exec_set s).trans (whenExecuting_of hs (Request.isKind_of hk)
      (State.runSet_badCode (p := .nightMode) (by rw [hi]; rfl) hc hl ?_))
    rw [badCode_nightMode, decide_eq_true (by omega)]; rfl
  case setTickEdge =>
    intro hi hl hcode
    refine (exec_set s).trans (whenExecuting_of hs (Request.isKind_of hk)
      (State.runSet_badCode (p := .tickEdge) (ch := .left) (by rw [hi]; rfl) rfl hl ?_))
    rw [badCode_tickEdge, decide_eq_true (by omega)]; rfl
  case tableIds =>
    intro hi
    have none {run : TableId → State} : s.onTable r run = s.answered r .range [] :=
      State.onTable_refused (tableOfNumber_eq_none hi)
    exact ⟨
      fun hk => (exec_tableOpen s).trans (whenExecuting_of hs (Request.isKind_of hk) none),
      fun hk => (exec_tableData s).trans (whenExecuting_of hs (Request.isKind_of hk) none),
      fun hk => (exec_tableCommit s).trans (whenExecuting_of hs (Request.isKind_of hk) none),
      fun hk => (exec_tableAbandon s).trans (whenExecuting_of hs (Request.isKind_of hk) none),
      fun hk hp => (exec_tableLockLock s).trans (whenExecuting_of hs (Request.isLock_of hk hp) none),
      fun hk hp => (exec_tableLockUnlock s).trans (whenExecuting_of hs (Request.isLock_of hk hp) none),
      fun hk hp => (exec_tableLockLockDown s).trans (whenExecuting_of hs (Request.isLock_of hk hp) none),
      fun hk hp => (exec_tableLockUnknownAction s).trans (whenExecuting_of hs (Request.isLock_none hk hp) none)⟩
  case tableLengths =>
    intro t ht
    refine ⟨
      fun hk hl => (exec_tableOpen s).trans (whenExecuting_of hs (Request.isKind_of hk)
        ((State.onTable_eq ht).trans (State.withLength_refused hl))),
      fun hk hl => ?_,
      fun hk hl => (exec_tableCommit s).trans (whenExecuting_of hs (Request.isKind_of hk)
        ((State.onTable_eq ht).trans (State.withLength_refused hl))),
      fun hk hl => (exec_tableAbandon s).trans (whenExecuting_of hs (Request.isKind_of hk)
        ((State.onTable_eq ht).trans (State.withLength_refused (mt List.length_eq_zero_iff.mp hl)))),
      fun hk hl => (exec_tableLockUnknownAction s).trans (whenExecuting_of hs
        (Request.isLock_none hk (Request.payload_ne_singleton hl))
        ((State.onTable_eq ht).trans (State.withLength_refused hl))),
      fun hk a hp hlo => (exec_tableLockUnknownAction s).trans (whenExecuting_of hs
        (Request.isLock_none hk fun b hb => (List.singleton_inj.mp (hp.symm.trans hb)) ▸ hlo)
        ((State.onTable_eq ht).trans (State.withLength_eq (congrArg List.length hp))))⟩
    have refused : exec .tableData s = .next (s.finish r .length (s.received r t)) :=
      (exec_tableData s).trans (whenExecuting_of hs (Request.isKind_of hk)
        ((State.onTable_eq ht).trans (if_neg (by omega))))
    rw [refused]
    exact ⟨fun load hload ho => by rw [State.received_eq hload ho]; rfl,
      fun hno => by rw [State.received_eq_nil hno]; rfl⟩
  case channels =>
    intro hc
    exact ⟨
      fun hk => (exec_viewRestart s).trans
        (whenExecuting_of hs (Request.isKind_of hk) (State.onChannel_refused hc)),
      fun hk hi => (exec_timingTracker s).trans
        (whenExecuting_of hs (Request.isTiming_of hk hi) (State.onChannel_refused hc)),
      fun hk hi => (exec_timingBandwidth s).trans
        (whenExecuting_of hs (Request.isTiming_of hk hi) (State.onChannel_refused hc)),
      fun hk hi => (exec_timingSource s).trans
        (whenExecuting_of hs (Request.isTiming_of hk hi) (State.onChannel_refused hc))⟩
  case lengths =>
    intro ch hc
    have refused {n : Nat} {run : Channel → State} (hl : r.payload.length ≠ n) :
        s.onChannel r (fun ch => s.withLength r n (run ch)) = s.answered r .length [] :=
      (State.onChannel_eq hc).trans (State.withLength_refused hl)
    exact ⟨
      fun hk hp => (exec_viewRestart s).trans
        (whenExecuting_of hs (Request.isKind_of hk) (refused (mt List.length_eq_zero_iff.mp hp))),
      fun hk hl => ⟨
        fun hi => (exec_timingTracker s).trans (whenExecuting_of hs (Request.isTiming_of hk hi) (refused hl)),
        fun hi => (exec_timingBandwidth s).trans (whenExecuting_of hs (Request.isTiming_of hk hi) (refused hl)),
        fun hi => (exec_timingSource s).trans (whenExecuting_of hs (Request.isTiming_of hk hi) (refused hl))⟩,
      fun hk hl => (exec_coverageWrite s).trans (whenExecuting_of hs (Request.isKind_of hk) (refused hl)),
      fun hk hp => (exec_coverageFix s).trans
        (whenExecuting_of hs (Request.isKind_of hk) (refused (mt List.length_eq_zero_iff.mp hp)))⟩
  case plainLengths =>
    intro hp
    have long : r.payload.length ≠ 0 := mt List.length_eq_zero_iff.mp hp
    refine ⟨
      fun hk => (exec_faultAck s).trans (whenExecuting_of hs (Request.isKind_of hk) (State.withLength_refused long)),
      fun hk hc => ?_,
      fun hk => (exec_partReset s).trans (whenExecuting_of hs (Request.isKind_of hk) (State.withLength_refused long))⟩
    obtain ⟨chs, hchs⟩ := channelsNamed_isSome hc
    exact (exec_faultClear s).trans (whenExecuting_of hs (Request.isKind_of hk)
      (by simp only [hchs, State.withLength_refused long]))
  case timingItem =>
    intro hk hi
    have row : r.isTiming none = true := by
      rw [Request.isTiming, Request.isKind_of hk, Request.timingItem_eq_none hi]; rfl
    exact (exec_timingUnknownItem s).trans (whenExecuting_of hs row (s.refuse_eq_answered r .range))
  case kind =>
    intro hk
    have row : r.isKind .unknown = true := by
      rw [Request.isKind, Request.kindOf_eq_unknown (hk.imp (fun h => by rw [h]; rfl) id)]; rfl
    exact (exec_unknownRequest s).trans (whenExecuting_of hs row (s.refuse_eq_answered r .unknown))

end Sys2Proof.Machine
end

section
/-! What an evaluation does to the entries, and with it the swap of a table. -/

namespace Sys2Proof.Machine

/-! ## Fault entries under an evaluation (R172, R176) -/

@[simp] theorem FaultEntries.get_set (es : FaultEntries) (k : FaultKind) (e : FaultEntry) : (es.set k e).get k = e := by
  cases k <;> rfl

theorem FaultEntries.get_set_other (es : FaultEntries) {k j : FaultKind} (e : FaultEntry) (h : j ≠ k) :
    (es.set k e).get j = es.get j := by
  cases k <;> cases j
  all_goals
    first
    | rfl
    | exact absurd rfl h

section

variable (s : State) (ch : Channel)

@[simp] theorem State.amendRecord_entries (v : ViewState) : (s.amendRecord ch v).entries = s.entries := by
  rw [State.amendRecord]
  split <;> rfl

@[simp] theorem State.enterFallback_entries : (s.enterFallback ch).entries = s.entries :=
  State.amendRecord_entries _ ch .fallback

@[simp] theorem State.onMeshLost_entries : (s.onMeshLost ch).entries = s.entries := by
  rw [State.onMeshLost]
  split
  · exact s.enterFallback_entries ch
  · rfl

@[simp] theorem State.tellView_entries (a : Option Action) : (s.tellView ch a).entries = s.entries := by
  unfold State.tellView
  split
  · rw [State.onDriveHold]
    split <;> rfl
  · rw [State.onDriveFallback]
    split
    · rfl
    · exact s.enterFallback_entries ch
  · rfl
  · rfl

/-- R176: an evaluation writes its judgement into its entry. -/
theorem State.evaluate_entries (k : FaultKind) (o : Option Nat) :
    (s.evaluate ch k o).entries = s.entries.set ch ((s.entries.get ch).set k (s.judged ch k o)) := by
  simp only [State.evaluate, State.tellView_entries]
  split <;> rfl

theorem State.evaluate_entry (k : FaultKind) (o : Option Nat) : (s.evaluate ch k o).entry ch k = s.judged ch k o := by
  rw [State.entry, State.evaluate_entries, Pair.get_set, FaultEntries.get_set]

theorem State.evaluate_entry_other {k j : FaultKind} {c : Channel} (o : Option Nat) (h : j ≠ k ∨ c ≠ ch) :
    (s.evaluate ch k o).entry c j = s.entry c j := by
  rw [State.entry, State.evaluate_entries, Pair.get_set_eq]
  split
  · subst_vars
    exact FaultEntries.get_set_other _ _ (h.resolve_right (not_not.mpr rfl))
  · rfl

end

theorem State.valuesInForce_congr {s t : State} (h : t.tables = s.tables) (k : FaultKind) :
    t.valuesInForce k = s.valuesInForce k := by
  rw [State.valuesInForce, State.valuesInForce, State.isValid, State.isValid, State.table, State.table, h]

/-- A judgement depends on the entry, the tables, the counter and the links alone. -/
theorem State.judged_congr {s t : State} {ch : Channel} {k : FaultKind} (o : Option Nat)
    (he : t.entry ch k = s.entry ch k) (ht : t.tables = s.tables) (hc : t.counter = s.counter) (hl : t.link = s.link) :
    t.judged ch k o = s.judged ch k o := by
  rw [State.judged, State.judged, he, hc, hl, State.valuesInForce_congr ht]

/-! ## The same kind evaluated for several channels -/

/-- An evaluation of a kind for each channel of a list, each with its outcome. -/
def State.evaluateEach (s : State) (k : FaultKind) (o : Channel → Option Nat) (chs : List Channel) : State :=
  chs.foldl (fun u ch => u.evaluate ch k (o ch)) s

section

variable (s : State) (k : FaultKind) (o : Channel → Option Nat) (chs : List Channel)

/-- What no evaluation changes, evaluations for a list of channels do not change. -/
theorem State.evaluateEach_keeps {α : Type} {f : State → α}
    (hf : ∀ u ch x, ch ∈ chs → f (u.evaluate ch k x) = f u) : f (s.evaluateEach k o chs) = f s :=
  List.foldlRecOn (motive := fun u => f u = f s) chs _ rfl fun u hu ch hch => (hf u ch _ hch).trans hu

@[simp] theorem State.evaluateEach_tables : (s.evaluateEach k o chs).tables = s.tables :=
  s.evaluateEach_keeps k o chs fun u ch x _ => (u.evaluate_evalFrame ch k x).tables
@[simp] theorem State.evaluateEach_coverage : (s.evaluateEach k o chs).coverage = s.coverage :=
  s.evaluateEach_keeps k o chs fun u ch x _ => (u.evaluate_evalFrame ch k x).coverage
@[simp] theorem State.evaluateEach_link : (s.evaluateEach k o chs).link = s.link :=
  s.evaluateEach_keeps k o chs fun u ch x _ => (u.evaluate_evalFrame ch k x).link
@[simp] theorem State.evaluateEach_agent : (s.evaluateEach k o chs).agent = s.agent :=
  s.evaluateEach_keeps k o chs fun u ch x _ => (u.evaluate_evalFrame ch k x).agent

/-- The display side of a channel that is not evaluated stands. -/
theorem State.evaluateEach_other {c : Channel} (hc : c ∉ chs) :
    (s.evaluateEach k o chs).view.get c = s.view.get c ∧ (s.evaluateEach k o chs).store.get c = s.store.get c ∧
    (s.evaluateEach k o chs).glare.get c = s.glare.get c := by
  have other (u : State) (ch : Channel) (x : Option Nat) (hch : ch ∈ chs) :=
    (u.evaluate_evalFrame ch k x).other c fun h => hc (h ▸ hch)
  refine ⟨s.evaluateEach_keeps k o chs (f := fun u => u.view.get c) fun u ch x hch => ?_,
    s.evaluateEach_keeps k o chs (f := fun u => u.store.get c) fun u ch x hch => ?_,
    s.evaluateEach_keeps k o chs (f := fun u => u.glare.get c) fun u ch x hch => ?_⟩
  · exact (other u ch x hch).2.1
  · exact (other u ch x hch).2.2.1
  · exact (other u ch x hch).2.2.2

theorem State.evaluateEach_entry_other {c : Channel} {j : FaultKind} (h : j ≠ k ∨ c ∉ chs) :
    (s.evaluateEach k o chs).entry c j = s.entry c j :=
  s.evaluateEach_keeps k o chs (f := fun u => u.entry c j) fun u ch x hch =>
    u.evaluate_entry_other ch x (h.imp_right fun hc heq => hc (heq ▸ hch))

/-- Each channel's entry takes the judgement of the state before the first evaluation. -/
theorem State.evaluateEach_entry (hn : chs.Nodup) {c : Channel} (hc : c ∈ chs) :
    (s.evaluateEach k o chs).entry c k = s.judged c k (o c) := by
  induction chs generalizing s with
  | nil => cases hc
  | cons ch chs ih =>
    obtain ⟨hfresh, hn⟩ := List.nodup_cons.mp hn
    have frame := s.evaluate_evalFrame ch k (o ch)
    change ((s.evaluate ch k (o ch)).evaluateEach k o chs).entry c k = _
    by_cases hcc : c = ch
    · subst hcc
      rw [State.evaluateEach_entry_other _ k o chs (.inr hfresh), State.evaluate_entry]
    · rw [ih _ hn ((List.mem_cons.mp hc).resolve_left hcc)]
      exact State.judged_congr _ (s.evaluate_entry_other ch _ (.inr hcc)) frame.tables frame.counter frame.link

end

/-- R2: a table belongs to a channel once. -/
theorem TableId.channels_nodup (t : TableId) : t.channels.Nodup := by
  cases t
  case faultActions => decide
  all_goals exact List.nodup_singleton _

/-! ## TABLE_CORRUPT (R20, R26) -/

theorem State.lowestCorrupt_congr {s t : State} (h : ∀ x, (t.table x).active.state = (s.table x).active.state)
    (ch : Channel) : t.lowestCorrupt ch = s.lowestCorrupt ch := by
  simp only [State.lowestCorrupt, h]

/-- R20: the outcomes do not change from one channel's evaluation to the next. -/
theorem State.evaluateTableCorruptFor_eq (s : State) (chs : List Channel) :
    s.evaluateTableCorruptFor chs = s.evaluateEach .tableCorrupt s.lowestCorrupt chs := by
  have same (u : State) (hu : u.tables = s.tables) :
      chs.foldl State.evaluateTableCorrupt u = u.evaluateEach .tableCorrupt s.lowestCorrupt chs := by
    induction chs generalizing u with
    | nil => rfl
    | cons ch chs ih =>
      have outcome : u.lowestCorrupt ch = s.lowestCorrupt ch :=
        State.lowestCorrupt_congr (fun x => by rw [State.table, State.table, hu]) ch
      change chs.foldl State.evaluateTableCorrupt (u.evaluate ch .tableCorrupt (u.lowestCorrupt ch)) = _
      rw [outcome]
      exact ih _ ((u.evaluate_evalFrame ch _ _).tables.trans hu)
  exact same s rfl

theorem mem_channelTables (ch : Channel) (x : TableId) : x ∈ channelTables ch ↔ ch ∈ x.channels := by
  cases x with
  | faultActions => cases ch <;> simp [channelTables, TableId.channels]
  | _ c => simp [channelTables, TableId.channels, eq_comm]

/-- R2: a channel's tables stand in id order. -/
theorem channelTables_sorted (ch : Channel) : (channelTables ch).Pairwise fun x y => x.number < y.number := by
  cases ch <;> decide

theorem State.lowestCorrupt_eq_none {s : State} {ch : Channel}
    (h : ∀ x : TableId, ch ∈ x.channels → (s.table x).active.state ≠ .corrupt) : s.lowestCorrupt ch = none := by
  rw [State.lowestCorrupt, Option.map_eq_none_iff, List.find?_eq_none]
  exact fun x hx hc => h x ((mem_channelTables ch x).mp hx) (beq_iff_eq.mp hc)

theorem State.lowestCorrupt_eq_some {s : State} {ch : Channel} {x : TableId} (hx : ch ∈ x.channels)
    (hc : (s.table x).active.state = .corrupt)
    (hmin : ∀ y : TableId, ch ∈ y.channels → (s.table y).active.state = .corrupt → x.number ≤ y.number) :
    s.lowestCorrupt ch = some x.number := by
  have mem := (mem_channelTables ch x).mpr hx
  rw [State.lowestCorrupt]
  cases hf : (channelTables ch).find? fun t => (s.table t).active.state == .corrupt with
  | none => exact absurd (beq_iff_eq.mpr hc) (List.find?_eq_none.mp hf x mem)
  | some y =>
    obtain ⟨hy, before, after, hsplit, hclean⟩ := List.find?_eq_some_iff_append.mp hf
    have ymem : ch ∈ y.channels := (mem_channelTables ch y).mp (hsplit ▸ List.mem_append_right _ List.mem_cons_self)
    have low : x.number ≤ y.number := hmin y ymem (beq_iff_eq.mp hy)
    have high : y.number ≤ x.number := by
      have sorted := channelTables_sorted ch
      rw [hsplit, List.pairwise_append, List.pairwise_cons] at sorted
      rw [hsplit, List.mem_append, List.mem_cons] at mem
      rcases mem with hb | rfl | ha
      · have := hclean x hb
        rw [hc] at this
        exact absurd this (by decide)
      · exact le_rfl
      · exact (sorted.2.1.1 x ha).le
    rw [Option.map_some, le_antisymm low high]

/-! ## Swaps (R20, R28) -/

theorem State.swapIfWaiting_eq {s : State} {t : TableId} {load : Load} {supplied : Check}
    (hw : (s.table t).staged = .swapWait load supplied) : s.swapIfWaiting t = s.swapIn t load supplied := by
  rw [State.swapIfWaiting, hw]

/-- Settles O34. -/
theorem swapReplacesActiveBank : Obligations.SwapReplacesActiveBank := by
  intro s t load supplied hw
  rw [State.swapIfWaiting_eq hw]
  have table (x : TableId) : (s.swapIn t load supplied).table x = (s.tables.swapIn t load supplied).get x := by
    rw [State.table, State.swapIn_tables]
  have swapped := table t
  rw [TableStore.swapIn_get, if_pos rfl] at swapped
  have others (x : TableId) (hx : x ≠ t) : (s.swapIn t load supplied).table x = s.table x := by
    rw [table, TableStore.swapIn_get, if_neg hx]; rfl
  rw [swapped, State.swapIn_tables, TableStore.swapIn_scrub, TableStore.swapIn_scrubPosition]
  refine ⟨rfl, rfl, rfl, rfl, rfl, rfl, rfl, others, fun st hst ht => ?_, fun st hst ht => ?_, rfl, fun hc => ?_,
    fun ch k hk => ?_, fun hc ch hch judged hj => ?_⟩
  · rw [hst, restartScrub, Option.map_some, if_pos ht]
  · rw [hst, restartScrub, Option.map_some, if_neg ht]
  · rw [State.swapIn_eq, if_neg hc]; rfl
  · rw [State.swapIn_eq]
    split
    · rw [State.evaluateTableCorruptFor_eq]
      exact State.evaluateEach_entry_other _ _ _ _ hk
    · rfl
  · have state (x : TableId) : ((s.setTables (s.tables.swapIn t load supplied)).table x).active.state =
        if x = t then .valid else (s.table x).active.state := by
      rw [State.setTables_table, TableStore.swapIn_get]
      split <;> rfl
    have entry : (s.swapIn t load supplied).entry ch .tableCorrupt =
        judged ((s.setTables (s.tables.swapIn t load supplied)).lowestCorrupt ch) := by
      have force := State.valuesInForce_congr (s := s.setTables (s.tables.swapIn t load supplied))
        (s.swapIn_tables t load supplied) .tableCorrupt
      rw [hj, force, State.swapIn_eq, if_pos hc, State.evaluateTableCorruptFor_eq,
        State.evaluateEach_entry _ _ _ _ t.channels_nodup hch]
      rfl
    rw [entry]
    refine ⟨fun hno => congrArg judged (State.lowestCorrupt_eq_none fun x hx => ?_), fun x hx hxt hxc hmin =>
      congrArg judged (State.lowestCorrupt_eq_some hx (by rw [state, if_neg hxt, hxc]) fun y hy hyc => ?_)⟩
    · rw [state]
      split
      · exact nofun
      · exact hno x hx ‹_›
    · rw [state] at hyc
      split at hyc
      · cases hyc
      · exact hmin y hy ‹_› hyc

end Sys2Proof.Machine
end

section
/-! What an entry to FALLBACK leaves, and with it the end of a scrub step. -/

namespace Sys2Proof.Machine

/-! ## Releases (R59) -/

theorem FrameStore.find_isSome_iff (fs : FrameStore) (p : Buffer → Bool) :
    (fs.find p).isSome = true ↔ ∃ b, p (fs.get b) = true := by
  constructor
  · intro h
    unfold FrameStore.find at h
    split at h
    · exact ⟨.b0, ‹_›⟩
    · split at h
      · exact ⟨.b1, ‹_›⟩
      · split at h
        · exact ⟨.b2, ‹_›⟩
        · cases h
  · rintro ⟨b, hb⟩
    rw [FrameStore.find]
    cases b with
    | b0 => rw [if_pos (show p fs.b0 = true from hb)]; rfl
    | b1 =>
      split
      · rfl
      · rw [if_pos (show p fs.b1 = true from hb)]; rfl
    | b2 =>
      split
      · rfl
      · split
        · rfl
        · rw [if_pos (show p fs.b2 = true from hb)]; rfl

theorem FrameStore.freeWhere_get (fs : FrameStore) (p : Buffer → Bool) (r : Bool) (b : BufferId) :
    ({ fs.freeWhere p with released := r } : FrameStore).get b = if p (fs.get b) then .free else fs.get b := by
  cases b <;> rfl

/-- R59: a release frees the SHOWN buffer at once, or marks it for the end of the line in progress. -/
theorem FrameStore.release_releasedTo (fs : FrameStore) (line : Option Nat) :
    fs.ReleasedTo (fs.release line.isSome) line := by
  rw [FrameStore.release]
  split
  case isTrue hshown =>
    obtain ⟨shown, hs⟩ := (fs.find_isSome_iff Buffer.isShown).mp hshown
    have impossible {after : FrameStore} (hno : ∀ b, (fs.get b).isShown = false) : after = fs :=
      absurd hs (by rw [hno]; exact Bool.false_ne_true)
    cases line with
    | none =>
      refine ⟨fun b hb => ?_, fun b hb => ⟨fun _ => ⟨?_, rfl⟩, fun h => absurd rfl h⟩, impossible⟩
      · exact (fs.freeWhere_get _ _ b).trans (if_neg (by rw [hb]; exact Bool.false_ne_true))
      · exact (fs.freeWhere_get _ _ b).trans (if_pos hb)
    | some n =>
      have stands (b : BufferId) : ({ fs with released := true } : FrameStore).get b = fs.get b := by cases b <;> rfl
      exact ⟨fun b _ => stands b, fun b _ => ⟨nofun, fun _ => ⟨stands b, rfl⟩⟩, impossible⟩
  case isFalse hnone =>
    have none (b : BufferId) (hb : (fs.get b).isShown = true) : False :=
      hnone ((fs.find_isSome_iff Buffer.isShown).mpr ⟨b, hb⟩)
    exact ⟨fun _ _ => rfl, fun b hb => (none b hb).elim, fun _ => rfl⟩

/-! ## Entries to FALLBACK (R65) -/

/-- R65: the amended record, where there is one. -/
theorem State.amendRecord_view (s : State) (ch : Channel) (v : ViewState) :
    (s.amendRecord ch v).view.get ch = { s.view.get ch with
      record := (s.view.get ch).record.map fun r => { r with
        view := v, buffer := none, fresh := false, mesh := none, conditions := s.conditions ch v none r.night } } := by
  rw [State.amendRecord]
  split
  case h_1 hr => rw [hr]; cases hv : s.view.get ch; rw [hv] at hr; subst hr; rfl
  case h_2 r hr => rw [hr, State.setView_view, Pair.get_set]; rfl

@[simp] theorem State.amendRecord_store (s : State) (ch : Channel) (v : ViewState) :
    (s.amendRecord ch v).store = s.store := by
  rw [State.amendRecord]
  split <;> rfl

@[simp] theorem State.amendRecord_glare (s : State) (ch : Channel) (v : ViewState) :
    (s.amendRecord ch v).glare = s.glare := by
  rw [State.amendRecord]
  split <;> rfl

/-- R65: from `s` to `t` the view of a channel has entered FALLBACK: the hold timer is 0, the tile map reset, SHOWN
released and the record amended. -/
def State.FellBack (ch : Channel) (s t : State) : Prop :=
  (t.view.get ch).state = .fallback ∧ (t.view.get ch).holdTimer = 0 ∧
  (∀ x ∈ (t.glare.get ch).tiles, x = Tile.reset) ∧ (∀ n ∈ (t.glare.get ch).last, n = 0) ∧
  (s.store.get ch).ReleasedTo (t.store.get ch) (s.link.get ch).frame.lineInProgress ∧
  ((s.view.get ch).record = none → (t.view.get ch).record = none) ∧
  (∀ r, (s.view.get ch).record = some r → ∃ c, (t.view.get ch).record =
    some { r with view := .fallback, buffer := none, fresh := false, mesh := none, conditions := c })

theorem State.enterFallback_fellBack {s w : State} {ch : Channel} (hstore : w.store.get ch = s.store.get ch)
    (hlink : w.link = s.link) (hrecord : (w.view.get ch).record = (s.view.get ch).record) :
    State.FellBack ch s (w.enterFallback ch) := by
  have before : ((((w.releaseShown ch).setViewState ch .fallback 0).mapReset ch).view.get ch) =
      { state := .fallback, holdTimer := 0, record := (w.view.get ch).record } := Pair.get_set _ ch _
  have store : (w.enterFallback ch).store.get ch =
      (w.store.get ch).release (w.link.get ch).frame.lineInProgress.isSome :=
    (congrArg (Pair.get · ch) (State.amendRecord_store _ ch .fallback)).trans (Pair.get_set _ ch _)
  have glare : (w.enterFallback ch).glare.get ch = (w.glare.get ch).mapReset :=
    (congrArg (Pair.get · ch) (State.amendRecord_glare _ ch .fallback)).trans (Pair.get_set _ ch _)
  rw [State.FellBack, store, glare, hstore, hlink, State.enterFallback, State.amendRecord_view, before, hrecord]
  refine ⟨rfl, rfl, fun x hx => List.eq_of_mem_replicate hx, fun n hn => List.eq_of_mem_replicate hn,
    FrameStore.release_releasedTo _ _, fun hr => by rw [hr]; rfl, fun r hr => ⟨_, by rw [hr]; rfl⟩⟩

/-! ## A Warp Mesh that becomes CORRUPT (R63, R66) -/

theorem FaultEntry.drives_iff (e : FaultEntry) : e.drives = true ↔ e.Driving := by
  simp only [FaultEntry.drives, FaultEntry.Driving, Bool.or_eq_true, beq_iff_eq, or_assoc]

/-- R182: what an entry begins to drive. -/
theorem beginsToDrive_eq_some (before after : FaultEntry) (a : Action) :
    beginsToDrive before after = some a ↔ before.Begins after a := by
  simp only [beginsToDrive, FaultEntry.Begins, ← FaultEntry.drives_iff]
  split
  case isFalse hafter => exact ⟨nofun, fun h => absurd h.1 hafter⟩
  case isTrue hafter =>
    split
    case isFalse hbefore =>
      exact ⟨fun h => ⟨hafter, Option.some.inj h, fun hb => absurd hb hbefore⟩, fun h => congrArg some h.2.1⟩
    case isTrue hbefore =>
      split
      case isTrue heq => exact ⟨nofun, fun h => absurd (heq.trans h.2.1) (h.2.2 hbefore)⟩
      case isFalse hne =>
        constructor
        · intro h
          obtain rfl := Option.some.inj h
          exact ⟨hafter, rfl, fun _ => hne⟩
        · exact fun h => congrArg some h.2.1

/-- R182: an evaluation ends with the view controller told, on the display side it found. -/
theorem State.evaluate_eq_tellView (s : State) (ch : Channel) (k : FaultKind) (o : Option Nat) :
    ∃ w : State, s.evaluate ch k o = w.tellView ch (beginsToDrive (s.entry ch k) (s.judged ch k o)) ∧
      w.view = s.view ∧ w.store = s.store ∧ w.glare = s.glare ∧ w.link = s.link := by
  refine ⟨_, rfl, ?_⟩
  split <;> exact ⟨rfl, rfl, rfl, rfl⟩

section

variable {w : State} {ch : Channel} {a : Option Action}

/-- R63: short of FALLBACK the view controller moves a LIVE view to HOLD at most. -/
theorem State.tellView_eq_of_ne_fallback (ha : a ≠ some .fallback) :
    w.tellView ch a = w ∨ ((w.view.get ch).state = .live ∧ w.tellView ch a = w.setViewState ch .hold 0) := by
  unfold State.tellView
  split
  · rw [State.onDriveHold]
    split
    · exact .inr ⟨‹_›, rfl⟩
    · exact .inl rfl
  · exact absurd rfl ha
  · exact .inl rfl
  · exact .inl rfl

/-- R66: a view that is in START or FALLBACK stays as it is, unless an entry begins to drive FALLBACK. -/
theorem State.tellView_eq_self (ha : a ≠ some .fallback) (hv : (w.view.get ch).state ≠ .live) :
    w.tellView ch a = w := (State.tellView_eq_of_ne_fallback ha).resolve_right fun h => hv h.1

theorem State.tellView_fallback (hv : (w.view.get ch).state ≠ .fallback) :
    w.tellView ch (some .fallback) = w.enterFallback ch := if_neg hv

theorem State.onMeshLost_eq_self (hl : (w.view.get ch).state ≠ .live) (hh : (w.view.get ch).state ≠ .hold) :
    w.onMeshLost ch = w := if_neg (not_or.mpr ⟨hl, hh⟩)

end

section

variable (s : State) (ch : Channel) (k : FaultKind) (o : Option Nat)

/-- R63, R65, R66: an evaluation and then the loss of the mesh take a LIVE or HOLD view to FALLBACK, and a START view
whose entry begins to drive it; once. -/
theorem State.evaluate_onMeshLost_fellBack
    (hv : (s.view.get ch).state = .live ∨ (s.view.get ch).state = .hold ∨
      ((s.view.get ch).state = .start ∧ (s.entry ch k).Begins (s.judged ch k o) .fallback)) :
    State.FellBack ch s ((s.evaluate ch k o).onMeshLost ch) := by
  obtain ⟨w, heq, hview, hstore, -, hlink⟩ := s.evaluate_eq_tellView ch k o
  rw [heq]
  by_cases ha : beginsToDrive (s.entry ch k) (s.judged ch k o) = some .fallback
  · have notYet : (w.view.get ch).state ≠ .fallback := by
      rw [hview]
      rcases hv with h | h | ⟨h, -⟩ <;> rw [h] <;> exact nofun
    have fell : State.FellBack ch s (w.enterFallback ch) :=
      State.enterFallback_fellBack (by rw [hstore]) hlink (by rw [hview])
    rw [ha, State.tellView_fallback notYet,
      State.onMeshLost_eq_self (by rw [fell.1]; exact nofun) (by rw [fell.1]; exact nofun)]
    exact fell
  · have shows : (s.view.get ch).state = .live ∨ (s.view.get ch).state = .hold :=
      hv.imp_right fun h => h.resolve_right fun hs => ha ((beginsToDrive_eq_some _ _ _).mpr hs.2)
    rcases State.tellView_eq_of_ne_fallback (w := w) (ch := ch) ha with hw | ⟨-, hw⟩
    · rw [hw, State.onMeshLost, if_pos (by rw [hview]; exact shows)]
      exact State.enterFallback_fellBack (by rw [hstore]) hlink (by rw [hview])
    · have held : (w.setViewState ch .hold 0).view.get ch = { w.view.get ch with state := .hold, holdTimer := 0 } :=
        Pair.get_set _ ch _
      rw [hw, State.onMeshLost, if_pos (.inr (by rw [held]))]
      refine State.enterFallback_fellBack ?_ hlink (by rw [held, hview])
      exact congrArg (Pair.get · ch) hstore

/-- R66: a view in FALLBACK, and one in START whose entry does not begin to drive FALLBACK, stay as they are. -/
theorem State.evaluate_onMeshLost_stays
    (hv : (s.view.get ch).state = .fallback ∨
      ((s.view.get ch).state = .start ∧ ¬(s.entry ch k).Begins (s.judged ch k o) .fallback)) :
    ((s.evaluate ch k o).onMeshLost ch).view = s.view ∧ ((s.evaluate ch k o).onMeshLost ch).store = s.store ∧
    ((s.evaluate ch k o).onMeshLost ch).glare = s.glare := by
  obtain ⟨w, heq, hview, hstore, hglare, -⟩ := s.evaluate_eq_tellView ch k o
  have dark : (w.view.get ch).state ≠ .live ∧ (w.view.get ch).state ≠ .hold := by
    rw [hview]
    rcases hv with h | ⟨h, -⟩ <;> rw [h] <;> exact ⟨nofun, nofun⟩
  have told : w.tellView ch (beginsToDrive (s.entry ch k) (s.judged ch k o)) = w := by
    by_cases ha : beginsToDrive (s.entry ch k) (s.judged ch k o) = some .fallback
    · have already : (s.view.get ch).state = .fallback :=
        hv.resolve_right fun h => h.2 ((beginsToDrive_eq_some _ _ _).mp ha)
      rw [ha]
      exact if_pos (by rw [hview]; exact already)
    · exact State.tellView_eq_self ha dark.1
  rw [heq, told, State.onMeshLost_eq_self dark.1 dark.2]
  exact ⟨hview, hstore, hglare⟩

end

section

variable (s : State) (t : TableId)

/-- R63: only a Warp Mesh concerns the views. -/
theorem State.tellMeshLost_keeps {α : Type} {f : State → α} (hf : ∀ ch, f (s.onMeshLost ch) = f s) :
    f (s.tellMeshLost t) = f s := by
  cases t
  case warpMesh ch => exact hf ch
  all_goals rfl

@[simp] theorem State.tellMeshLost_tables : (s.tellMeshLost t).tables = s.tables :=
  s.tellMeshLost_keeps t fun ch => (s.onMeshLost_evalFrame ch).tables
@[simp] theorem State.tellMeshLost_link : (s.tellMeshLost t).link = s.link :=
  s.tellMeshLost_keeps t fun ch => (s.onMeshLost_evalFrame ch).link
@[simp] theorem State.tellMeshLost_coverage : (s.tellMeshLost t).coverage = s.coverage :=
  s.tellMeshLost_keeps t fun ch => (s.onMeshLost_evalFrame ch).coverage
@[simp] theorem State.tellMeshLost_agent : (s.tellMeshLost t).agent = s.agent :=
  s.tellMeshLost_keeps t fun ch => (s.onMeshLost_evalFrame ch).agent
@[simp] theorem State.tellMeshLost_entries : (s.tellMeshLost t).entries = s.entries :=
  s.tellMeshLost_keeps t s.onMeshLost_entries

theorem State.tellMeshLost_other {c : Channel} (hc : c ∉ t.channels) :
    (s.tellMeshLost t).view.get c = s.view.get c ∧ (s.tellMeshLost t).store.get c = s.store.get c ∧
    (s.tellMeshLost t).glare.get c = s.glare.get c := by
  cases t
  case warpMesh ch => exact ((s.onMeshLost_evalFrame ch).other c (by simpa [TableId.channels] using hc)).2
  all_goals exact ⟨rfl, rfl, rfl⟩

end

/-! ## The end of a scrub step (R26) -/

/-- R1, R26: a scrub step ends with the pair sum of all the bytes it reads. -/
theorem ScrubStep.finish_eq {st : ScrubStep} {e : TableEntry}
    (h : st.acc = PairAcc.start.over (e.scrubbed.take st.reached)) : st.finish e = pairSum e.scrubbed := by
  rw [ScrubStep.finish, h, PairAcc.over, PairAcc.over, ← List.foldl_append, List.take_append_drop]
  rfl

theorem exec_scrubStepEnd_eq {s : State} {st : ScrubStep} (hh : s.held = false) (hs : s.tables.scrub = some st)
    (hst : st.suspended = false) : exec .scrubStepEnd s = .next (s.endScrub st) := by
  change execScrubStepEnd s = _
  simp [execScrubStepEnd, whenRunning, hh, hs, hst]

/-- The part with its scrub step ended and nothing else done. -/
def State.scrubDone (s : State) : State := s.setTables { s.tables with scrub := none }

@[simp] theorem State.scrubDone_table (s : State) (x : TableId) : s.scrubDone.table x = s.table x :=
  TableStore.get_engine ..

section

variable {s : State} {st : ScrubStep}

theorem State.endScrub_of_match (h : st.finish (s.table st.table) = (s.table st.table).active.checksum) :
    s.endScrub st = s.scrubDone.evaluateEach .tableCorrupt s.lowestCorrupt st.table.channels := by
  rw [← funext (State.lowestCorrupt_congr (s := s) (t := s.scrubDone) fun x => by rw [State.scrubDone_table]),
    ← State.evaluateTableCorruptFor_eq]
  exact if_pos h

theorem State.endScrub_of_mismatch (h : st.finish (s.table st.table) ≠ (s.table st.table).active.checksum) :
    s.endScrub st = ((s.scrubDone.markCorrupt st.table).evaluateEach .tableCorrupt (fun _ => some st.table.number)
      st.table.channels).tellMeshLost st.table := if_neg h

theorem State.markCorrupt_scrubDone_table (t x : TableId) : (s.scrubDone.markCorrupt t).table x =
    if x = t then { s.table t with active := { (s.table t).active with state := .corrupt } } else s.table x := by
  rw [State.markCorrupt, State.setTable_table, State.scrubDone_table, State.scrubDone_table]

end

/-- Settles O35: with the sums alike or different, the evaluations of the table's channels and then the lost mesh. -/
theorem scrubStepComparesPairSum : Obligations.ScrubStepComparesPairSum := by
  rintro s st e hh hs hst rfl hacc
  have sum : st.finish (s.table st.table) = pairSum (s.table st.table).scrubbed := ScrubStep.finish_eq hacc
  refine ⟨_, exec_scrubStepEnd_eq hh hs hst, ?_⟩
  by_cases heq : pairSum (s.table st.table).scrubbed = (s.table st.table).active.checksum
  · rw [State.endScrub_of_match (sum.trans heq)]
    have table (x : TableId) : (s.scrubDone.evaluateEach .tableCorrupt s.lowestCorrupt st.table.channels).table x =
        s.table x := by
      rw [State.table, State.evaluateEach_tables]; exact s.scrubDone_table x
    refine ⟨by rw [State.evaluateEach_tables]; rfl, State.evaluateEach_link .., State.evaluateEach_coverage ..,
      State.evaluateEach_agent .., fun x _ => table x, by rw [State.evaluateEach_tables]; rfl,
      by rw [State.evaluateEach_tables]; rfl, fun ch k hk => State.evaluateEach_entry_other _ _ _ _ hk,
      fun ch hch => State.evaluateEach_other _ _ _ _ hch, fun hne => absurd heq hne,
      fun _ => ⟨table _, fun ch hch => ?_⟩⟩
    exact State.evaluateEach_entry _ _ _ _ st.table.channels_nodup hch
  · rw [State.endScrub_of_mismatch fun h => heq (sum.symm.trans h)]
    obtain ⟨t, suspended, reached, acc⟩ := st
    dsimp only
    generalize hm : s.scrubDone.markCorrupt t = m
    generalize hu : (m.evaluateEach .tableCorrupt (fun _ => some t.number) t.channels).tellMeshLost t = u
    have tables : u.tables = m.tables := by rw [← hu, State.tellMeshLost_tables, State.evaluateEach_tables]
    have table (x : TableId) : u.table x = m.table x := congrArg (TableStore.get · x) tables
    have entry (ch : Channel) (hch : ch ∈ t.channels) :
        u.entry ch .tableCorrupt = m.judged ch .tableCorrupt (some t.number) := by
      rw [← hu, State.entry, State.tellMeshLost_entries]
      exact State.evaluateEach_entry _ _ _ _ t.channels_nodup hch
    refine ⟨?_, ?_, ?_, ?_, fun x hx => ?_, ?_, ?_, fun ch k hk => ?_, fun ch hch => ?_,
      fun _ => ⟨?_, fun ch hch => ?_, fun ch ht => ?_⟩, fun h => absurd h heq⟩
    · rw [tables, ← hm]; exact TableStore.set_scrub ..
    · rw [← hu, State.tellMeshLost_link, State.evaluateEach_link, ← hm]; rfl
    · rw [← hu, State.tellMeshLost_coverage, State.evaluateEach_coverage, ← hm]; rfl
    · rw [← hu, State.tellMeshLost_agent, State.evaluateEach_agent, ← hm]; rfl
    · rw [table, ← hm, State.markCorrupt_scrubDone_table, if_neg hx]
    · rw [tables, ← hm]; exact TableStore.set_verifyQueue ..
    · rw [tables, ← hm]; exact TableStore.set_scrubPosition ..
    · rw [← hu, State.entry, State.tellMeshLost_entries]
      exact (State.evaluateEach_entry_other m .tableCorrupt _ _ hk).trans (by rw [← hm]; rfl)
    · obtain ⟨view, store, glare⟩ := State.tellMeshLost_other
        (m.evaluateEach .tableCorrupt (fun _ => some t.number) t.channels) t hch
      rw [← hu, view, store, glare, ← hm]
      exact State.evaluateEach_other _ _ _ _ hch
    · rw [table, ← hm, State.markCorrupt_scrubDone_table, if_pos rfl]
    · rw [State.valuesInForce_congr tables, entry ch hch, ← hm]; rfl
    · subst ht
      rw [entry ch (List.mem_singleton.mpr rfl), ← hu, ← hm]
      refine ⟨fun hv => State.evaluate_onMeshLost_fellBack (s.scrubDone.markCorrupt (.warpMesh ch)) ch
        .tableCorrupt _ hv, fun hv => ?_⟩
      obtain ⟨view, store, glare⟩ := State.evaluate_onMeshLost_stays (s.scrubDone.markCorrupt (.warpMesh ch)) ch
        .tableCorrupt _ hv
      exact ⟨congrArg (Pair.get · ch) view, congrArg (Pair.get · ch) store, congrArg (Pair.get · ch) glare⟩

end Sys2Proof.Machine
end

section
/-! The validity rules R3 to R9 and the envelope check R33, as a verify tests them. -/

namespace Sys2Proof.Machine

/-! ## Validity (R3 to R9) -/

/-- R3 to R9: an item of a table's bytes offends. -/
def TableId.offends (t : TableId) (bs : List Byte) (item : Nat) : Bool :=
  match t with
  | .develop _ => developOffends bs item
  | .defectList _ => defectOffends bs item
  | .warpMesh _ => meshOffends bs item
  | .toneCurves _ => toneOffends bs item
  | .glareResponse _ => responseOffends bs item
  | .overlaySet _ => overlayOffends bs item
  | .faultActions => actionsOffends bs item

theorem TableId.offendingItem_eq (t : TableId) (bs : List Byte) :
    t.offendingItem bs = lowestItem (t.items bs) (t.offends bs) := by
  cases t <;> rfl

theorem lowestItem_eq_some {n i : Nat} {offends : Nat → Bool} :
    lowestItem n offends = some i ↔ i < n ∧ offends i = true ∧ ∀ j, j < i → offends j = false := by
  rw [lowestItem, List.find?_range_eq_some, List.mem_range]
  simp only [Bool.not_eq_true']
  exact and_left_comm

theorem lowestItem_eq_none {n : Nat} {offends : Nat → Bool} :
    lowestItem n offends = none ↔ ∀ i, i < n → offends i = false := by
  rw [lowestItem, List.find?_range_eq_none]
  simp only [Bool.not_eq_true']

section

variable (ch : Channel) (bs : List Byte) (item : Nat)

theorem developOffends_eq_false (h : item < 14) :
    developOffends bs item = false ↔ (TableId.develop ch).ItemLegal bs item := by
  simp only [developOffends, TableId.ItemLegal]
  split
  case isTrue h0 =>
    simp only [decide_eq_false_iff_not, Nat.not_lt]
    exact ⟨fun hv => ⟨fun _ => hv, by omega, by omega, by omega⟩, fun hv => hv.1 h0⟩
  case isFalse h0 =>
    split
    case isTrue h1 =>
      simp only [decide_eq_false_iff_not, Nat.not_lt]
      exact ⟨fun hv => ⟨by omega, fun _ => hv, by omega, by omega⟩, fun hv => hv.2.1 h1⟩
    case isFalse h1 =>
      split
      case isTrue h10 =>
        simp only [Bool.or_eq_false_iff, decide_eq_false_iff_not, Int.not_lt]
        refine ⟨fun hv => ⟨by omega, by omega, fun k hk hi => ?_, by omega⟩, fun hv => ?_⟩
        · obtain rfl : k = item - 2 := by omega
          exact hv
        · exact hv.2.2.1 (item - 2) (by omega) (by omega)
      case isFalse h10 =>
        simp only [Bool.or_eq_false_iff, decide_eq_false_iff_not, Int.not_lt]
        refine ⟨fun hv => ⟨by omega, by omega, by omega, fun o ho hi => ?_⟩, fun hv => ?_⟩
        · obtain rfl : o = item - 11 := by omega
          exact hv
        · exact hv.2.2.2 (item - 11) (by omega) (by omega)

theorem defectOffends_eq_false : defectOffends bs item = false ↔ (TableId.defectList ch).ItemLegal bs item := by
  cases item with
  | zero =>
    simp only [defectOffends, TableId.ItemLegal, bne_eq_false_iff_eq, true_implies]
    exact ⟨fun hv => ⟨by omega, by omega⟩, fun hv => by omega⟩
  | succ k =>
    simp only [defectOffends, TableId.ItemLegal, defectAfter, Bool.or_eq_false_iff, Bool.and_eq_false_iff,
      Bool.not_eq_false', Bool.or_eq_true, Bool.and_eq_true, decide_eq_false_iff_not, decide_eq_true_eq, beq_iff_eq,
      Nat.not_lt, Nat.not_le]
    simp only [defectEntry]
    constructor
    · rintro ⟨⟨hx, hy⟩, horder⟩
      refine ⟨by omega, fun j hj => ?_⟩
      obtain rfl : k = j := by omega
      refine ⟨hx, hy, fun i hi => ?_⟩
      subst hi
      exact horder.resolve_left (by omega)
    · rintro ⟨-, hv⟩
      obtain ⟨hx, hy, horder⟩ := hv k (Nat.add_comm k 1)
      refine ⟨⟨hx, hy⟩, ?_⟩
      cases k with
      | zero => exact .inl Nat.zero_lt_one
      | succ j => exact .inr (horder j rfl)

theorem meshOffends_eq_false : meshOffends bs item = false ↔ (TableId.warpMesh ch).ItemLegal bs item := by
  cases item with
  | zero =>
    simp only [meshOffends, TableId.ItemLegal, Bool.or_eq_false_iff, Bool.and_eq_false_iff, bne_eq_false_iff_eq,
      true_implies]
    exact ⟨fun hv => ⟨⟨hv.1, by omega⟩, by omega⟩, fun hv => ⟨hv.1.1, by omega⟩⟩
  | succ p =>
    simp only [meshOffends, TableId.ItemLegal, meshCoordOffends, Bool.or_eq_false_iff, decide_eq_false_iff_not,
      Int.not_lt]
    simp only [meshPoint]
    constructor
    · rintro ⟨⟨hx, hx'⟩, hy, hy'⟩
      refine ⟨by omega, fun h q o hq hi ho => ?_⟩
      obtain ⟨rfl, rfl⟩ : h = p / 99 ∧ q = p % 99 := by omega
      have sy : o + 4 = 5 + 792 * (p / 99) + 8 * (p % 99) := by omega
      rw [sy, ho]
      exact ⟨hx, hx', hy, hy'⟩
    · rintro ⟨-, hv⟩
      obtain ⟨hx, hx', hy, hy'⟩ := hv (p / 99) (p % 99) _ (by omega) (by omega) rfl
      have sy : 1 + 792 * (p / 99) + 8 * (p % 99) + 4 = 5 + 792 * (p / 99) + 8 * (p % 99) := by omega
      rw [sy] at hy hy'
      exact ⟨⟨hx, hx'⟩, hy, hy'⟩

theorem toneOffends_eq_false : toneOffends bs item = false ↔ (TableId.toneCurves ch).ItemLegal bs item := by
  simp only [toneOffends, TableId.ItemLegal, Bool.and_eq_false_iff, bne_eq_false_iff_eq, decide_eq_false_iff_not,
    Nat.not_lt, or_assoc]

theorem responseOffends_eq_false :
    responseOffends bs item = false ↔ (TableId.glareResponse ch).ItemLegal bs item := by
  simp only [responseOffends, TableId.ItemLegal, Bool.or_eq_false_iff, Bool.and_eq_false_iff,
    decide_eq_false_iff_not, Nat.not_lt, Nat.not_le]
  refine and_congr_right fun _ => ?_
  cases item with
  | zero => exact ⟨fun _ => by omega, fun _ => .inl Nat.zero_lt_one⟩
  | succ k =>
    refine ⟨fun hv j hj => ?_, fun hv => .inr (hv k rfl)⟩
    obtain rfl : k = j := by omega
    exact hv.resolve_left (by omega)

theorem overlayOffends_eq_false : overlayOffends bs item = false ↔ (TableId.overlaySet ch).ItemLegal bs item := by
  match item with
  | 0 =>
    simp only [overlayOffends, TableId.ItemLegal, decide_eq_false_iff_not, Nat.not_lt, true_implies]
    exact ⟨fun hv => ⟨hv, by omega, by omega⟩, fun hv => hv.1⟩
  | 1 =>
    simp only [overlayOffends, TableId.ItemLegal, Bool.or_eq_false_iff, decide_eq_false_iff_not, Nat.not_lt,
      bne_eq_false_iff_eq, true_implies]
    exact ⟨fun hv => ⟨by omega, ⟨hv.1, hv.2.symm⟩, by omega⟩, fun hv => ⟨hv.2.1.1, hv.2.1.2.symm⟩⟩
  | i + 2 =>
    have at7 : 3 + 18 * i + 4 = 7 + 18 * i := by omega
    have at9 : 3 + 18 * i + 6 = 9 + 18 * i := by omega
    have at11 : 3 + 18 * i + 8 = 11 + 18 * i := by omega
    have at20 : 3 + 18 * i + 17 = 20 + 18 * i := by omega
    simp only [overlayOffends, TableId.ItemLegal, layerAt, Layer.rowBytes, at7, at9, at11, at20, Bool.or_eq_false_iff,
      decide_eq_false_iff_not, Nat.not_lt, beq_eq_false_iff_ne]
    constructor
    · rintro ⟨⟨⟨hw, hh⟩, hc⟩, hpool⟩
      refine ⟨by omega, by omega, fun j width height hj hwidth hheight => ?_⟩
      obtain rfl : i = j := by omega
      subst hwidth hheight
      exact ⟨hw, hh, hc, hpool⟩
    · rintro ⟨-, -, hv⟩
      obtain ⟨hw, hh, hc, hpool⟩ := hv i _ _ rfl rfl rfl
      exact ⟨⟨⟨hw, hh⟩, hc⟩, hpool⟩

theorem actionsOffends_eq_false : actionsOffends bs item = false ↔ TableId.faultActions.ItemLegal bs item := by
  simp only [actionsOffends, TableId.ItemLegal, Bool.or_eq_false_iff, decide_eq_false_iff_not, Nat.not_lt,
    beq_eq_false_iff_ne, Nat.one_le_iff_ne_zero, and_assoc]

end

/-- R3 to R9: an item of a table offends when it is not legal. -/
theorem TableId.offends_eq_false {t : TableId} {bs : List Byte} {item : Nat} (h : item < t.items bs) :
    t.offends bs item = false ↔ t.ItemLegal bs item := by
  cases t with
  | develop ch => exact developOffends_eq_false ch bs item h
  | defectList ch => exact defectOffends_eq_false ch bs item
  | warpMesh ch => exact meshOffends_eq_false ch bs item
  | toneCurves ch => exact toneOffends_eq_false ch bs item
  | glareResponse ch => exact responseOffends_eq_false ch bs item
  | overlaySet ch => exact overlayOffends_eq_false ch bs item
  | faultActions => exact actionsOffends_eq_false bs item

/-- R3 to R9, R18: the offending item is the lowest that is not legal. -/
theorem TableId.offendingItem_eq_some {t : TableId} {bs : List Byte} {item : Nat} :
    t.offendingItem bs = some item ↔
      item < t.items bs ∧ ¬t.ItemLegal bs item ∧ ∀ lower, lower < item → t.ItemLegal bs lower := by
  rw [TableId.offendingItem_eq, lowestItem_eq_some]
  refine and_congr_right fun hlt => and_congr ?_ (forall_congr' fun lower => imp_congr_right fun hlo => ?_)
  · rw [← TableId.offends_eq_false hlt, Bool.not_eq_false]
  · exact TableId.offends_eq_false (hlo.trans hlt)

theorem TableId.offendingItem_eq_none {t : TableId} {bs : List Byte} :
    t.offendingItem bs = none ↔ ∀ item, item < t.items bs → t.ItemLegal bs item := by
  rw [TableId.offendingItem_eq, lowestItem_eq_none]
  exact forall_congr' fun item => imp_congr_right TableId.offends_eq_false

/-! ## The envelope check (R33) -/

/-- R216: the points of a mesh are the table's fields. -/
theorem meshAt_meshOf (bs : List Byte) (h : Nat) {c r : Nat} (hc : c < 9) (hr : r < 11) :
    meshAt (meshOf bs h) c r = { sx := meshX bs h c r, sy := meshY bs h c r } := by
  have inside : 9 * r + c < 99 := by omega
  simp [meshAt, meshOf, meshPoint, meshX, meshY, List.getD_eq_getElem?_getD, List.getElem?_map,
    List.getElem?_range inside]

/-- R33: one axis, its two boundary lines given by their values along the line. -/
theorem envelopeAxis_iff (n : Nat) (f g : Nat → Int) (lo hi : Int) (lastLow : Prop)
    (hl : lastLow ↔ LastIsLow ((List.range n).map f) ((List.range n).map g)) :
    ((envelopeAxis ((List.range n).map f) ((List.range n).map g) lo hi).1 = true ↔
      ∀ i, i < n → (lastLow → g i ≤ lo) ∧ (¬lastLow → f i ≤ lo)) ∧
    ((envelopeAxis ((List.range n).map f) ((List.range n).map g) lo hi).2 = true ↔
      ∀ i, i < n → (lastLow → hi ≤ f i) ∧ (¬lastLow → hi ≤ g i)) := by
  have sums (xs : List Int) : sumInt xs = xs.sum := List.sum_eq_foldl.symm
  rw [LastIsLow] at hl
  simp only [envelopeAxis, sums, hl]
  by_cases h : ((List.range n).map g).sum < ((List.range n).map f).sum
  · simp [h]
  · simp [h]

/-- R33: the four edges of a mesh, as the check tests them. -/
theorem envelope_passes (bs : List Byte) (h : Nat) (q : Rect) :
    ((envelopeAxis ((List.range 11).map fun r => (meshAt (meshOf bs h) 0 r).sx)
      ((List.range 11).map fun r => (meshAt (meshOf bs h) 8 r).sx) (16 * q.x0) (16 * q.x1)).1 = true ↔
        Edge.lowX.Passes bs h q) ∧
    ((envelopeAxis ((List.range 11).map fun r => (meshAt (meshOf bs h) 0 r).sx)
      ((List.range 11).map fun r => (meshAt (meshOf bs h) 8 r).sx) (16 * q.x0) (16 * q.x1)).2 = true ↔
        Edge.highX.Passes bs h q) ∧
    ((envelopeAxis ((List.range 9).map fun c => (meshAt (meshOf bs h) c 0).sy)
      ((List.range 9).map fun c => (meshAt (meshOf bs h) c 10).sy) (16 * q.y0) (16 * q.y1)).1 = true ↔
        Edge.lowY.Passes bs h q) ∧
    ((envelopeAxis ((List.range 9).map fun c => (meshAt (meshOf bs h) c 0).sy)
      ((List.range 9).map fun c => (meshAt (meshOf bs h) c 10).sy) (16 * q.y0) (16 * q.y1)).2 = true ↔
        Edge.highY.Passes bs h q) := by
  have column {c : Nat} (hc : c < 9) : ((List.range 11).map fun r => (meshAt (meshOf bs h) c r).sx) =
      (List.range 11).map fun r => meshX bs h c r :=
    List.map_congr_left fun r hr => by rw [meshAt_meshOf bs h hc (List.mem_range.mp hr)]
  have row {r : Nat} (hr : r < 11) : ((List.range 9).map fun c => (meshAt (meshOf bs h) c r).sy) =
      (List.range 9).map fun c => meshY bs h c r :=
    List.map_congr_left fun c hc => by rw [meshAt_meshOf bs h (List.mem_range.mp hc) hr]
  rw [column (by decide), column (by decide), row (by decide), row (by decide)]
  obtain ⟨lowX, highX⟩ := envelopeAxis_iff 11 (fun r => meshX bs h 0 r) (fun r => meshX bs h 8 r) (16 * q.x0)
    (16 * q.x1) (lastColumnLow bs h) Iff.rfl
  obtain ⟨lowY, highY⟩ := envelopeAxis_iff 9 (fun c => meshY bs h c 0) (fun c => meshY bs h c 10) (16 * q.y0)
    (16 * q.y1) (lastRowLow bs h) Iff.rfl
  rw [lowX, highX, lowY, highY]
  refine ⟨?_, ?_, ?_, ?_⟩ <;> constructor
  case refine_1.mp | refine_2.mp =>
    rintro hv c r (⟨hl, rfl⟩ | ⟨hl, rfl⟩) hr
    · exact (hv r hr).1 hl
    · exact (hv r hr).2 hl
  case refine_3.mp | refine_4.mp =>
    rintro hv c r (⟨hl, rfl⟩ | ⟨hl, rfl⟩) hc
    · exact (hv c hc).1 hl
    · exact (hv c hc).2 hl
  case refine_1.mpr | refine_2.mpr =>
    exact fun hv r hr => ⟨fun hl => hv _ r (.inl ⟨hl, rfl⟩) hr, fun hl => hv _ r (.inr ⟨hl, rfl⟩) hr⟩
  case refine_3.mpr | refine_4.mpr =>
    exact fun hv c hc => ⟨fun hl => hv c _ (.inl ⟨hl, rfl⟩) hc, fun hl => hv c _ (.inr ⟨hl, rfl⟩) hc⟩

/-- R18: an edge is the first, in the order of the edges, that does not pass. -/
def Edge.FirstFailing (passes : Edge → Prop) (e : Edge) : Prop :=
  ¬passes e ∧ ∀ d : Edge, edgeCode d < edgeCode e → passes d

theorem Edge.FirstFailing.unique {passes : Edge → Prop} {d e : Edge} (hd : d.FirstFailing passes)
    (he : e.FirstFailing passes) : d = e := by
  have code : edgeCode d = edgeCode e :=
    le_antisymm (not_lt.mp fun h => he.1 (hd.2 e h)) (not_lt.mp fun h => hd.1 (he.2 d h))
  revert code
  cases d <;> cases e <;> decide

/-- R18, R33: of four tests in the order of the edges, the first that fails names its edge. -/
theorem firstFailing_spec {passes : Edge → Prop} {x y : Bool × Bool} (h1 : x.1 = true ↔ passes .lowX)
    (h2 : x.2 = true ↔ passes .highX) (h3 : y.1 = true ↔ passes .lowY) (h4 : y.2 = true ↔ passes .highY)
    {found : Option Edge} (hfound : found = if !x.1 then some Edge.lowX else if !x.2 then some .highX
      else if !y.1 then some .lowY else if !y.2 then some .highY else none) :
    (∃ e, found = some e ∧ e.FirstFailing passes) ∨ (found = none ∧ ∀ e, passes e) := by
  have fails {b : Bool} {p : Prop} (h : b = true ↔ p) (hb : b = false) : ¬p := fun hp => by
    rw [h.mpr hp] at hb; cases hb
  subst hfound
  cases hx1 : x.1 with
  | false => exact .inl ⟨.lowX, rfl, fails h1 hx1, fun d hd => absurd hd (Nat.not_lt_zero _)⟩
  | true =>
    have p1 := h1.mp hx1
    cases hx2 : x.2 with
    | false =>
      refine .inl ⟨.highX, rfl, fails h2 hx2, fun d hd => ?_⟩
      cases d
      case lowX => exact p1
      all_goals exact absurd hd (by decide)
    | true =>
      have p2 := h2.mp hx2
      cases hy1 : y.1 with
      | false =>
        refine .inl ⟨.lowY, rfl, fails h3 hy1, fun d hd => ?_⟩
        cases d
        case lowY | highY => exact absurd hd (by decide)
        all_goals assumption
      | true =>
        have p3 := h3.mp hy1
        cases hy2 : y.2 with
        | false =>
          refine .inl ⟨.highY, rfl, fails h4 hy2, fun d hd => ?_⟩
          cases d
          case highY => exact absurd hd (Nat.lt_irrefl _)
          all_goals assumption
        | true =>
          have p4 := h4.mp hy2
          exact .inr ⟨rfl, fun e => by cases e <;> assumption⟩

/-- R33: the check of a mesh names its first failing edge, or none when every edge passes. -/
theorem envelopeFailure_spec (bs : List Byte) (h : Nat) (q : Rect) :
    (∃ e, envelopeFailure (meshOf bs h) q = some e ∧ e.FirstFailing fun d => d.Passes bs h q) ∨
    (envelopeFailure (meshOf bs h) q = none ∧ ∀ e : Edge, e.Passes bs h q) := by
  obtain ⟨lowX, highX, lowY, highY⟩ := envelope_passes bs h q
  exact firstFailing_spec lowX highX lowY highY rfl

theorem envelopeFailure_eq_some {bs : List Byte} {h : Nat} {q : Rect} {e : Edge} :
    envelopeFailure (meshOf bs h) q = some e ↔ e.FirstFailing fun d => d.Passes bs h q := by
  rcases envelopeFailure_spec bs h q with ⟨d, hd, first⟩ | ⟨hn, pass⟩
  · rw [hd, Option.some.injEq]
    exact ⟨fun h => h ▸ first, first.unique⟩
  · rw [hn]
    exact ⟨nofun, fun h => absurd (pass e) h.1⟩

theorem envelopeFailure_eq_none {bs : List Byte} {h : Nat} {q : Rect} :
    envelopeFailure (meshOf bs h) q = none ↔ ∀ e : Edge, e.Passes bs h q := by
  rcases envelopeFailure_spec bs h q with ⟨d, hd, first⟩ | ⟨hn, pass⟩
  · rw [hd]
    exact ⟨nofun, fun h => absurd (h d) first.1⟩
  · exact ⟨fun _ => pass, fun _ => hn⟩

theorem coverageFailure_of_primary_fails {bs : List Byte} {q : Rect} {e : Edge}
    (h : envelopeFailure (meshOf bs 0) q = some e) : coverageFailure bs q = some (0, e) := by
  unfold coverageFailure
  generalize envelopeFailure (meshOf bs 0) q = found at h ⊢
  subst h
  rfl

theorem coverageFailure_of_primary_passes {bs : List Byte} {q : Rect} (h : envelopeFailure (meshOf bs 0) q = none) :
    coverageFailure bs q =
      if byteAt bs 0 = 2 then (envelopeFailure (meshOf bs 1) q).map fun e => (1, e) else none := by
  unfold coverageFailure
  generalize envelopeFailure (meshOf bs 0) q = found at h ⊢
  subst h
  rfl

/-- R17, R33: the first mesh that fails, and its first failing edge. -/
theorem coverageFailure_eq_some {bs : List Byte} {q : Rect} {mesh : Nat} {edge : Edge} :
    coverageFailure bs q = some (mesh, edge) ↔
      (mesh = 0 ∨ (mesh = 1 ∧ byteAt bs 0 = 2)) ∧ ¬edge.Passes bs mesh q ∧
      (∀ e : Edge, edgeCode e < edgeCode edge → e.Passes bs mesh q) ∧ (mesh = 1 → ∀ e : Edge, e.Passes bs 0 q) := by
  rcases envelopeFailure_spec bs 0 q with ⟨e, he, first⟩ | ⟨hnone, primary⟩
  · rw [coverageFailure_of_primary_fails he, Option.some.injEq, Prod.mk.injEq]
    constructor
    · rintro ⟨rfl, rfl⟩
      exact ⟨.inl rfl, first.1, first.2, nofun⟩
    · rintro ⟨rfl | ⟨rfl, -⟩, hfail, hlower, hprimary⟩
      · exact ⟨rfl, first.unique ⟨hfail, hlower⟩⟩
      · exact absurd (hprimary rfl e) first.1
  · rw [coverageFailure_of_primary_passes hnone]
    constructor
    · intro h
      split at h
      case isTrue htwo =>
        obtain ⟨e, he, heq⟩ := Option.map_eq_some_iff.mp h
        obtain ⟨rfl, rfl⟩ := Prod.mk.inj heq
        have first := envelopeFailure_eq_some.mp he
        exact ⟨.inr ⟨rfl, htwo⟩, first.1, first.2, fun _ => primary⟩
      case isFalse => cases h
    · rintro ⟨rfl | ⟨rfl, htwo⟩, hfail, hlower, -⟩
      · exact absurd (primary edge) hfail
      · rw [if_pos htwo, envelopeFailure_eq_some.mpr ⟨hfail, hlower⟩]; rfl

theorem coverageFailure_eq_none {bs : List Byte} {q : Rect} :
    coverageFailure bs q = none ↔
      (∀ e : Edge, e.Passes bs 0 q) ∧ (byteAt bs 0 = 2 → ∀ e : Edge, e.Passes bs 1 q) := by
  rcases envelopeFailure_spec bs 0 q with ⟨e, he, first⟩ | ⟨hnone, primary⟩
  · rw [coverageFailure_of_primary_fails he]
    exact ⟨nofun, fun h => absurd (h.1 e) first.1⟩
  · rw [coverageFailure_of_primary_passes hnone]
    split
    case isTrue htwo =>
      rw [Option.map_eq_none_iff, envelopeFailure_eq_none]
      exact ⟨fun h => ⟨primary, fun _ => h⟩, fun h => h.2 htwo⟩
    case isFalse hone => exact ⟨fun _ => ⟨primary, fun h => absurd h hone⟩, fun _ => rfl⟩

end Sys2Proof.Machine
end

section
/-! The end of a verify (R16 to R20): its answer by the first check that fails, and where the staged bank is left. -/

namespace Sys2Proof.Machine

/-! ## What swaps leave -/

/-- A swap leaves the queue, the running verify and the locks. -/
theorem TableStore.Swaps.keeps {ts us : TableStore} (h : TableStore.Swaps ts us) :
    us.verifyQueue = ts.verifyQueue ∧ us.verifying = ts.verifying ∧ ∀ x, (us.get x).lock = (ts.get x).lock := by
  induction h with
  | refl => exact ⟨rfl, rfl, fun _ => rfl⟩
  | @swap us t load supplied _ _ ih =>
    obtain ⟨queue, verifying, lock⟩ := ih
    refine ⟨(us.swapIn_verifyQueue t load supplied).trans queue, (us.swapIn_verifying t load supplied).trans verifying,
      fun x => Eq.trans ?_ (lock x)⟩
    rw [TableStore.swapIn_get]
    split
    · subst_vars; rfl
    · rfl

/-- What neither a write of the tables nor an evaluation changes, no swap changes. -/
theorem State.swapIfWaiting_keeps {α : Type} {f : State → α} (ht : ∀ s x, f (State.setTables s x) = f s)
    (he : ∀ s ch, f (State.evaluateTableCorrupt s ch) = f s) (s : State) (t : TableId) :
    f (s.swapIfWaiting t) = f s := by
  rw [State.swapIfWaiting]
  split
  · rw [State.swapIn_eq]
    split
    · exact (State.evaluateTableCorruptFor_keeps he _ _).trans (ht s _)
    · exact ht s _
  · rfl

theorem State.swapIfWaiting_link (s : State) (t : TableId) : (s.swapIfWaiting t).link = s.link :=
  State.swapIfWaiting_keeps (fun _ _ => rfl) (fun s ch => (s.evaluate_evalFrame ch _ _).link) s t

theorem State.swapIfWaiting_agent (s : State) (t : TableId) : (s.swapIfWaiting t).agent = s.agent :=
  State.swapIfWaiting_keeps (fun _ _ => rfl) (fun s ch => (s.evaluate_evalFrame ch _ _).agent) s t

/-- R19, R20: a table that waits has its contents in force; another table's swap leaves it. -/
theorem State.swapIfWaiting_table {s : State} {t : TableId} {load : Load} {supplied : Check}
    (hw : (s.table t).staged = .swapWait load supplied) :
    (s.swapIfWaiting t).table t =
      { s.table t with active := (s.table t).active.swapped load supplied, staged := .idle } := by
  rw [State.swapIfWaiting_eq hw, State.table, State.swapIn_tables, TableStore.swapIn_get, if_pos rfl]
  rfl

theorem State.swapIfWaiting_table_other (s : State) {t x : TableId} (hx : x ≠ t) :
    (s.swapIfWaiting t).table x = s.table x := by
  rw [State.swapIfWaiting]
  split
  · rw [State.table, State.swapIn_tables, TableStore.swapIn_get, if_neg hx]; rfl
  · rfl

/-! ## What a verified bank meets (R19) -/

theorem State.swapAtVerifyEnd_link (s : State) (t : TableId) : (s.swapAtVerifyEnd t).link = s.link := by
  unfold State.swapAtVerifyEnd
  split
  case h_1 => exact s.swapIfWaiting_link _
  case h_2 ch | h_3 ch => exact (s.cameraBoundaryIfIdle_swapFrame ch).link
  all_goals rfl

theorem State.swapAtVerifyEnd_agent (s : State) (t : TableId) : (s.swapAtVerifyEnd t).agent = s.agent := by
  unfold State.swapAtVerifyEnd
  split
  case h_1 => exact s.swapIfWaiting_agent _
  case h_2 ch | h_3 ch => exact (s.cameraBoundaryIfIdle_swapFrame ch).agent
  all_goals rfl

/-- R19: the tables that swap at the end of their verify: the part-wide one, and the camera-side ones with no camera
frame in progress. -/
def State.SwapsAtVerifyEnd (s : State) (t : TableId) : Prop :=
  t = .faultActions ∨
    ∃ ch, (t = .develop ch ∨ t = .defectList ch) ∧ (s.receiver.get ch).assembly.inProgress = false

/-- R44: a boundary with no camera frame in progress swaps both camera-side tables that wait. -/
theorem State.cameraBoundaryIfIdle_table {s : State} {ch : Channel} {t : TableId} {load : Load} {supplied : Check}
    (ht : t = .develop ch ∨ t = .defectList ch) (hidle : (s.receiver.get ch).assembly.inProgress = false)
    (hw : (s.table t).staged = .swapWait load supplied) :
    (s.cameraBoundaryIfIdle ch).table t =
      { s.table t with active := (s.table t).active.swapped load supplied, staged := .idle } := by
  rw [State.cameraBoundaryIfIdle, hidle, if_neg Bool.false_ne_true, State.cameraBoundary]
  rcases ht with rfl | rfl
  · rw [State.swapIfWaiting_table_other _ (show TableId.develop ch ≠ .defectList ch from nofun)]
    exact State.swapIfWaiting_table (s := s.applyPending ch .camera) hw
  · have apart : (((s.applyPending ch .camera).swapIfWaiting (.develop ch)).table (.defectList ch)) =
        s.table (.defectList ch) := State.swapIfWaiting_table_other _ nofun
    rw [State.swapIfWaiting_table (load := load) (supplied := supplied) (by rw [apart]; exact hw), apart]

theorem State.swapAtVerifyEnd_table {s : State} {t : TableId} {load : Load} {supplied : Check}
    (hs : s.SwapsAtVerifyEnd t) (hw : (s.table t).staged = .swapWait load supplied) :
    (s.swapAtVerifyEnd t).table t =
      { s.table t with active := (s.table t).active.swapped load supplied, staged := .idle } := by
  rcases hs with rfl | ⟨ch, rfl | rfl, hidle⟩
  · exact State.swapIfWaiting_table hw
  · exact State.cameraBoundaryIfIdle_table (.inl rfl) hidle hw
  · exact State.cameraBoundaryIfIdle_table (.inr rfl) hidle hw

/-- R19: every other table waits for its boundary. -/
theorem State.swapAtVerifyEnd_eq_self {s : State} {t : TableId} (hs : ¬s.SwapsAtVerifyEnd t) :
    s.swapAtVerifyEnd t = s := by
  have inProgress (ch : Channel) (ht : t = .develop ch ∨ t = .defectList ch) :
      s.cameraBoundaryIfIdle ch = s :=
    if_pos (Bool.not_eq_false _ |>.mp fun h => hs (.inr ⟨ch, ht, h⟩))
  cases t with
  | faultActions => exact absurd (.inl rfl) hs
  | develop ch => exact inProgress ch (.inl rfl)
  | defectList ch => exact inProgress ch (.inr rfl)
  | _ ch => rfl

/-! ## The outcome and its answer (R17, R18) -/

section

variable {s : State} {t : TableId} {load : Load} {supplied : Check}

theorem State.verifyOutcome_of_checksum (h : pairSum (load.bytes.take load.declared) ≠ supplied) :
    s.verifyOutcome t load supplied = .checksum (pairSum (load.bytes.take load.declared)) := if_pos h

theorem State.verifyOutcome_of_invalid {item : Nat} (h : pairSum (load.bytes.take load.declared) = supplied)
    (hi : t.offendingItem (load.bytes.take load.declared) = some item) :
    s.verifyOutcome t load supplied = .invalid item := by
  simp only [State.verifyOutcome, h, hi, ne_eq, not_true_eq_false, if_false]

theorem State.verifyOutcome_of_coverage {mesh : Nat} {edge : Edge}
    (h : pairSum (load.bytes.take load.declared) = supplied)
    (hi : t.offendingItem (load.bytes.take load.declared) = none)
    (hc : s.coverageCheck t (load.bytes.take load.declared) = some (mesh, edge)) :
    s.verifyOutcome t load supplied = .coverage mesh edge := by
  simp only [State.verifyOutcome, h, hi, hc, ne_eq, not_true_eq_false, if_false]

theorem State.coverageCheck_eq_none {bs : List Byte}
    (h : ∀ ch rect, t = .warpMesh ch → (s.coverage.get ch).rect = some rect → coverageFailure bs rect = none) :
    s.coverageCheck t bs = none := by
  cases t with
  | warpMesh ch =>
    cases hr : (s.coverage.get ch).rect with
    | none => simp only [State.coverageCheck, hr]
    | some rect => exact (State.coverageCheck_warpMesh bs hr).trans (h ch rect rfl hr)
  | _ => rfl

end

/-! ## The verify's end -/

section

variable {s : State} {t : TableId} {load : Load} {supplied : Check} {tag : Byte}

/-- The staged bank as a verify's end leaves it before its table's boundary: waiting for its swap, or IDLE. -/
def State.verified (s : State) (t : TableId) (load : Load) (supplied : Check) (tag : Byte) : State :=
  (s.answerCommit load tag (s.verifyOutcome t load supplied).answer.1
    (s.verifyOutcome t load supplied).answer.2).setStaged t
    (if s.verifyOutcome t load supplied = .ok then .swapWait load supplied else .idle)

/-- R18: a verify that passes meets its table's boundary; each leaves the queue. -/
theorem State.endVerify_eq : s.endVerify t load supplied tag =
    (if s.verifyOutcome t load supplied = .ok then (s.verified t load supplied tag).swapAtVerifyEnd t
      else s.verified t load supplied tag).leaveQueue t := by
  simp only [State.endVerify, State.verified]
  split <;> rfl

theorem exec_verifyEnd_eq (hh : s.held = false) (hv : s.tables.verifying = some t)
    (hs : (s.table t).staged = .verifying load supplied tag) :
    exec .verifyEnd s = .next (s.endVerify t load supplied tag) := by
  change execVerifyEnd s = _
  simp [execVerifyEnd, whenRunning, hh, hv, hs]

/-- R16, R18: what every end of a verify does and leaves. -/
theorem State.endVerify_frame (hv : s.tables.verifying = some t) :
    (s.endVerify t load supplied tag).link = s.link.set load.owner { s.link.get load.owner with
      answers := (s.link.get load.owner).answers ++ [{ tag := tag, kind := 5
                                                       result := (s.verifyOutcome t load supplied).answer.1
                                                       payload := (s.verifyOutcome t load supplied).answer.2 }] } ∧
    (s.endVerify t load supplied tag).tables.verifyQueue = s.tables.verifyQueue.filter (fun x => x != t) ∧
    (s.endVerify t load supplied tag).tables.verifying = none ∧
    ((s.endVerify t load supplied tag).table t).lock = (s.table t).lock ∧
    (s.endVerify t load supplied tag).coverage = s.coverage ∧
    (s.endVerify t load supplied tag).agent = s.agent := by
  generalize hu : (if s.verifyOutcome t load supplied = .ok then (s.verified t load supplied tag).swapAtVerifyEnd t
      else s.verified t load supplied tag) = u
  have swaps : (s.verified t load supplied tag).SwapsOnly u := by
    rw [← hu]
    split
    · exact State.swapAtVerifyEnd_swapsOnly _ t
    · exact .refl _
  have link : u.link = (s.verified t load supplied tag).link := by
    rw [← hu]
    split
    · exact State.swapAtVerifyEnd_link _ t
    · rfl
  have agent : u.agent = (s.verified t load supplied tag).agent := by
    rw [← hu]
    split
    · exact State.swapAtVerifyEnd_agent _ t
    · rfl
  obtain ⟨queue, verifying, lock⟩ := swaps.tables.keeps
  rw [State.endVerify_eq, hu, State.leaveQueue_link, State.leaveQueue_verifyQueue, State.leaveQueue_verifying,
    State.leaveQueue_table, State.leaveQueue_coverage, State.leaveQueue_agent, link, queue, verifying,
    swaps.coverage, agent]
  refine ⟨rfl, ?_, ?_, (lock t).trans (State.setStaged_table_lock _ t t _), rfl, rfl⟩
  · exact congrArg _ (State.setStaged_verifyQueue _ t _)
  · exact if_pos ((State.setStaged_verifying _ t _).trans hv)

theorem State.verified_table : (s.verified t load supplied tag).table t = { s.table t with
    staged := if s.verifyOutcome t load supplied = .ok then .swapWait load supplied else .idle } := by
  rw [State.verified, State.setStaged_table, if_pos rfl]
  rfl

/-- R18: a verify that fails ends the load. -/
theorem State.endVerify_table_of_failed (h : s.verifyOutcome t load supplied ≠ .ok) :
    (s.endVerify t load supplied tag).table t = { s.table t with staged := .idle } := by
  rw [State.endVerify_eq, if_neg h, State.leaveQueue_table, State.verified_table, if_neg h]

/-- R18, R19: a verify that passes away from its table's boundary leaves it waiting. -/
theorem State.endVerify_table_of_waiting (h : s.verifyOutcome t load supplied = .ok) (hs : ¬s.SwapsAtVerifyEnd t) :
    (s.endVerify t load supplied tag).table t = { s.table t with staged := .swapWait load supplied } := by
  rw [State.endVerify_eq, if_pos h, State.leaveQueue_table,
    State.swapAtVerifyEnd_eq_self (s := s.verified t load supplied tag) hs, State.verified_table, if_pos h]

/-- R19, R20: a verify that passes at its table's boundary puts the contents in force. -/
theorem State.endVerify_table_of_swapped (h : s.verifyOutcome t load supplied = .ok) (hs : s.SwapsAtVerifyEnd t) :
    (s.endVerify t load supplied tag).table t =
      { s.table t with active := (s.table t).active.swapped load supplied, staged := .idle } := by
  have waits : ((s.verified t load supplied tag).table t).staged = .swapWait load supplied := by
    rw [State.verified_table, if_pos h]
  rw [State.endVerify_eq, if_pos h, State.leaveQueue_table,
    State.swapAtVerifyEnd_table (s := s.verified t load supplied tag) hs waits, State.verified_table]

end

/-- Settles O33: the rules, the envelope, the engine's start, and the end of a verify by its outcome. -/
theorem verifiesEndWithFirstFailingCheck : Obligations.VerifiesEndWithFirstFailingCheck := by
  refine ⟨fun t bs => ⟨fun _ => TableId.offendingItem_eq_some, TableId.offendingItem_eq_none⟩,
    fun bs q => ⟨fun _ _ => coverageFailure_eq_some, coverageFailure_eq_none⟩, fun s t rest hh hv hq => ?_, ?_⟩
  · change execVerifyStart s = _
    simp only [execVerifyStart, whenRunning, hh, hv, hq]
    rfl
  · rintro s t load supplied tag bytes hh hv hs rfl
    obtain ⟨link, queue, verifying, lock, coverage, agent⟩ :=
      State.endVerify_frame (load := load) (supplied := supplied) (tag := tag) hv
    refine ⟨_, _, _, exec_verifyEnd_eq hh hv hs, link, queue, verifying, lock, coverage, agent, fun hsum => ?_,
      fun item hsum hitem => ?_, fun ch rect mesh edge hsum hitem ht hr hfail => ?_, fun hne => ?_,
      fun hsum hitem hcover => ?_⟩
    · rw [State.verifyOutcome_of_checksum hsum]; exact ⟨rfl, rfl⟩
    · rw [State.verifyOutcome_of_invalid hsum hitem]; exact ⟨rfl, rfl⟩
    · subst ht
      rw [State.verifyOutcome_of_coverage hsum hitem ((State.coverageCheck_warpMesh _ hr).trans hfail)]
      exact ⟨rfl, rfl⟩
    · have failed : s.verifyOutcome t load supplied ≠ .ok := fun h => hne (by rw [h]; rfl)
      rw [State.endVerify_table_of_failed failed]
      exact ⟨rfl, rfl⟩
    · have ok : s.verifyOutcome t load supplied = .ok :=
        State.verifyOutcome_eq_ok.mpr ⟨hsum, hitem, State.coverageCheck_eq_none hcover⟩
      refine ⟨by rw [ok]; rfl, by rw [ok]; rfl, fun ch ht => ?_, fun ch ht hprogress => ?_, fun hswap => ?_⟩
      · have waits : ¬s.SwapsAtVerifyEnd t := by
          rcases ht with rfl | rfl | rfl | rfl <;> rintro (h | ⟨_, h | h, _⟩) <;> cases h
        rw [State.endVerify_table_of_waiting ok waits]
        exact ⟨rfl, rfl⟩
      · have waits : ¬s.SwapsAtVerifyEnd t := by
          rcases ht with rfl | rfl <;> rintro (h | ⟨c, h | h, hidle⟩) <;> cases h <;> rw [hprogress] at hidle <;>
            cases hidle
        rw [State.endVerify_table_of_waiting ok waits]
        exact ⟨rfl, rfl⟩
      · rw [State.endVerify_table_of_swapped ok hswap]
        exact ⟨rfl, rfl, rfl, rfl, rfl, rfl⟩

end Sys2Proof.Machine
end

section
/-! The camera packet commands: what each does with a part that runs, by what the receiver reads. -/

namespace Sys2Proof.Machine

theorem whenRunning_eq {s : State} {f : State → State} (h : s.held = false) : whenRunning s f = .next (f s) := by
  rw [whenRunning, h, if_neg Bool.false_ne_true]

theorem whenRunning_self {s : State} {f : State → State} (h : f s = s) : whenRunning s f = .next s := by
  rw [whenRunning, h, ite_self]

/-! ## The arms of the packets, the cells and the passes -/

section

variable (ch : Channel) (bytes : List Byte) (s : State)

theorem exec_frameStart : exec (.frameStart ch bytes) s = execFrameStart ch bytes s := rfl
theorem exec_embedded : exec (.embedded ch bytes) s = execEmbedded ch bytes s := rfl
theorem exec_line : exec (.line ch bytes) s = execLine ch bytes s := rfl
theorem exec_frameEnd : exec (.frameEnd ch bytes) s = execFrameEnd ch bytes s := rfl
theorem exec_reply : exec (.reply ch bytes) s = execReply ch bytes s := rfl
theorem exec_cameraPacketDiscard :
    exec (.cameraPacketDiscard ch bytes) s = execCameraPacketDiscard ch bytes s := rfl
theorem exec_monitorStatus : exec (.monitorStatus ch bytes) s = execMonitorStatus ch bytes s := rfl
theorem exec_signature : exec (.signature ch bytes) s = execSignature ch bytes s := rfl
theorem exec_requestCell : exec (.requestCell ch bytes) s = execRequestCell ch bytes s := rfl
theorem exec_returnCellDiscard : exec (.returnCellDiscard ch bytes) s = execReturnCellDiscard ch bytes s := rfl
theorem exec_cameraPass : exec .cameraPass s = execCameraPass s := rfl
theorem exec_passTimeout : exec (.passTimeout ch) s = execPassTimeout ch s := rfl

end

/-! ## Packets and cells that are read (R34, R143) -/

section

variable {ch : Channel} {packet : List Byte} {s : State}

theorem exec_frameStart_of (hs : s.held = false) (hp : readCameraPacket packet = .frameStart) :
    exec (.frameStart ch packet) s = .next (s.takeFrameStart ch) := by
  rw [exec_frameStart, execFrameStart, whenRunning_eq hs, hp]

theorem exec_embedded_of {counter : BitVec 16} {status : Byte} (hs : s.held = false)
    (hp : readCameraPacket packet = .embedded counter status) :
    exec (.embedded ch packet) s = .next (s.takeEmbedded ch (some (counter, status))) := by
  rw [exec_embedded, execEmbedded, whenRunning_eq hs, hp]

theorem exec_embedded_of_failed (hs : s.held = false) (hp : readCameraPacket packet = .embeddedFailed) :
    exec (.embedded ch packet) s = .next (s.takeEmbedded ch none) := by
  rw [exec_embedded, execEmbedded, whenRunning_eq hs, hp]

theorem exec_line_of {index : Nat} {pixels : List Nat} (hs : s.held = false)
    (hp : readCameraPacket packet = .line index pixels) :
    exec (.line ch packet) s = .next (s.takeLine ch (some (index, pixels))) := by
  rw [exec_line, execLine, whenRunning_eq hs, hp]

theorem exec_line_of_failed (hs : s.held = false) (hp : readCameraPacket packet = .lineFailed) :
    exec (.line ch packet) s = .next (s.takeLine ch none) := by
  rw [exec_line, execLine, whenRunning_eq hs, hp]

theorem exec_frameEnd_of {sent : Nat} (hs : s.held = false) (hp : readCameraPacket packet = .frameEnd sent) :
    exec (.frameEnd ch packet) s = .next (s.takeFrameEnd ch (some sent)) := by
  rw [exec_frameEnd, execFrameEnd, whenRunning_eq hs, hp]

theorem exec_frameEnd_of_failed (hs : s.held = false) (hp : readCameraPacket packet = .frameEndFailed) :
    exec (.frameEnd ch packet) s = .next (s.takeFrameEnd ch none) := by
  rw [exec_frameEnd, execFrameEnd, whenRunning_eq hs, hp]

theorem exec_reply_of {payload : List Byte} (hs : s.held = false) (hp : readCameraPacket packet = .reply payload) :
    exec (.reply ch packet) s = .next (s.endPass ch .ok payload) := by
  rw [exec_reply, execReply, whenRunning_eq hs, hp]

/-! ## Packets outside a frame (R35) -/

theorem Assembly.inProgress_eq_false {a : Assembly} : a.inProgress = false ↔ a = .idle ∨ a = .discard := by
  cases a <;> simp [Assembly.inProgress]

/-- R35: with no frame in progress an EMBEDDED changes nothing, whatever it carries. -/
theorem State.takeEmbedded_of_closed {fields : Option (BitVec 16 × Byte)}
    (h : (s.receiver.get ch).assembly.inProgress = false) : s.takeEmbedded ch fields = s := by
  rcases Assembly.inProgress_eq_false.mp h with ha | ha <;> simp only [State.takeEmbedded, ha]

/-- R35: with no frame in progress a LINE changes nothing, whatever it carries. -/
theorem State.takeLine_of_closed {fields : Option (Nat × List Nat)}
    (h : (s.receiver.get ch).assembly.inProgress = false) : s.takeLine ch fields = s := by
  rcases Assembly.inProgress_eq_false.mp h with ha | ha <;> simp only [State.takeLine, ha]

theorem State.takeFrameEnd_of_idle {fields : Option Nat} (h : (s.receiver.get ch).assembly = .idle) :
    s.takeFrameEnd ch fields = s := by
  simp only [State.takeFrameEnd, h]

theorem State.takeFrameEnd_of_discard {fields : Option Nat} (h : (s.receiver.get ch).assembly = .discard) :
    s.takeFrameEnd ch fields = (s.frameEndTime ch).setAssembly ch .idle := by
  simp only [State.takeFrameEnd, h]

theorem exec_embedded_of_closed (h : (s.receiver.get ch).assembly.inProgress = false) :
    exec (.embedded ch packet) s = .next s := by
  rw [exec_embedded, execEmbedded]
  refine whenRunning_self ?_
  cases readCameraPacket packet
  case embedded => exact State.takeEmbedded_of_closed h
  case embeddedFailed => exact State.takeEmbedded_of_closed h
  all_goals rfl

theorem exec_line_of_closed (h : (s.receiver.get ch).assembly.inProgress = false) :
    exec (.line ch packet) s = .next s := by
  rw [exec_line, execLine]
  refine whenRunning_self ?_
  cases readCameraPacket packet
  case line => exact State.takeLine_of_closed h
  case lineFailed => exact State.takeLine_of_closed h
  all_goals rfl

theorem exec_frameEnd_of_idle (h : (s.receiver.get ch).assembly = .idle) :
    exec (.frameEnd ch packet) s = .next s := by
  rw [exec_frameEnd, execFrameEnd]
  refine whenRunning_self ?_
  cases readCameraPacket packet
  case frameEnd => exact State.takeFrameEnd_of_idle h
  case frameEndFailed => exact State.takeFrameEnd_of_idle h
  all_goals rfl

end

/-- Settles O15. -/
theorem discardsChangeNothingElse : Obligations.DiscardsChangeNothingElse := by
  refine ⟨fun ch packet s =>
    ⟨(exec_cameraPacketDiscard ch packet s).trans (whenRunning_self rfl), fun hp => ?_, fun hidle => ?_⟩,
    fun ch cell s hs hc c h => ?_⟩
  · exact ⟨(exec_frameStart ch packet s).trans (whenRunning_self (by rw [hp])),
      (exec_embedded ch packet s).trans (whenRunning_self (by rw [hp])),
      (exec_line ch packet s).trans (whenRunning_self (by rw [hp])),
      (exec_frameEnd ch packet s).trans (whenRunning_self (by rw [hp])),
      (exec_reply ch packet s).trans (whenRunning_self (by rw [hp]))⟩
  · have closed : (s.receiver.get ch).assembly.inProgress = false := by rw [hidle]; rfl
    exact ⟨fun _ => exec_embedded_of_closed closed, fun _ => exec_line_of_closed closed,
      fun _ => exec_frameEnd_of_idle hidle⟩
  · have discarded {f : State → State} (hf : f s = s.discardCell ch) : whenRunning s f = .next (s.discardCell ch) :=
      (whenRunning_eq hs).trans (congrArg _ hf)
    rcases h with rfl | rfl | rfl | rfl
    · exact (exec_returnCellDiscard ch cell s).trans (discarded (by rw [hc]))
    · exact (exec_monitorStatus ch cell s).trans (discarded (by rw [hc]))
    · exact (exec_signature ch cell s).trans (discarded (by rw [hc]))
    · exact (exec_requestCell ch cell s).trans (discarded (by rw [hc]))

/-! ## CAMERA-PASS and its answer (R50 to R52) -/

section

variable {s : State} {r : Request} {ch : Channel}

theorem State.takePass_length (h : r.payload.length = 0 ∨ 41 ≤ r.payload.length) :
    s.takePass r ch = s.answered r .length [] := if_pos h

theorem State.takePass_busy (h : ¬(r.payload.length = 0 ∨ 41 ≤ r.payload.length))
    (hp : (s.receiver.get ch).pass ≠ .idle) : s.takePass r ch = s.answered r .busy [] :=
  (if_neg h).trans (if_pos hp)

theorem State.takePass_taken (h : ¬(r.payload.length = 0 ∨ 41 ≤ r.payload.length))
    (hp : (s.receiver.get ch).pass = .idle) : s.takePass r ch = s.sendPass r ch :=
  (if_neg h).trans (if_neg (not_not.mpr hp))

theorem State.endPass_of_idle {x : Result} {payload : List Byte} (h : (s.receiver.get ch).pass = .idle) :
    s.endPass ch x payload = s := by
  rw [State.endPass, h]

theorem State.endPass_of_waiting {link : Channel} {tag : Byte} {ticks : Nat} {x : Result} {payload : List Byte}
    (h : (s.receiver.get ch).pass = .waiting link tag ticks) :
    s.endPass ch x payload = (s.setReceiver ch { s.receiver.get ch with pass := .idle }).answer link
      { tag := tag, kind := 12, result := x, payload := payload } := by
  rw [State.endPass, h]

theorem exec_cameraPass_of {u : State} (hs : s.Executes r) (hk : r.kind = 12) (hc : channelOf r.channel = some ch)
    (hu : s.takePass r ch = u) : exec .cameraPass s = .next u :=
  (exec_cameraPass s).trans (whenExecuting_of hs (Request.isKind_of hk) ((State.onChannel_eq hc).trans hu))

end

/-- Settles O30. -/
theorem cameraPassIsSentAndAnsweredOnce : Obligations.CameraPassIsSentAndAnsweredOnce := by
  refine ⟨fun s r hs hk => ⟨fun hc => ?_, fun ch hc => ⟨fun hl => ?_, fun hlo hhi hp => ?_, fun hlo hhi hp => ?_⟩⟩,
    fun ch link tag packet payload s hs => ⟨fun ticks hw hp => ?_, fun hw htick => ?_, fun hidle => ?_⟩⟩
  · exact (exec_cameraPass s).trans (whenExecuting_of hs (Request.isKind_of hk) (State.onChannel_refused hc))
  · exact exec_cameraPass_of hs hk hc (State.takePass_length hl)
  · exact exec_cameraPass_of hs hk hc (State.takePass_busy (by omega) hp)
  · exact exec_cameraPass_of hs hk hc (State.takePass_taken (by omega) hp)
  · exact (exec_reply_of hs hp).trans (congrArg _ (State.endPass_of_waiting hw))
  · rw [exec_passTimeout, execPassTimeout, whenRunning_eq hs, hw]
    refine congrArg _ ((if_pos htick).trans ?_)
    exact State.endPass_of_waiting hw
  · rw [exec_reply, execReply]
    refine whenRunning_self ?_
    split
    · exact State.endPass_of_idle hidle
    · rfl

end Sys2Proof.Machine
end

section
/-! The intake pipeline (R45 to R49): what a developed row holds, and how a frame's header and lines reach it. -/

namespace Sys2Proof.Machine

section

variable (f : FrameFacts) (c r : Nat)

/-! ## Defects and black level (R46, R47) -/

theorem FrameFacts.usable_iff : f.usable c r = true ↔ c < f.width ∧ r < f.height ∧ (c, r) ∉ f.defects := by
  simp [FrameFacts.usable, and_assoc]

/-! R46: the usable neighbours of a position of the frame, left, right, up and down. -/

section

variable {f c r}

theorem FrameFacts.usable_left_iff (hc : c < f.width) (hr : r < f.height) :
    (decide (2 ≤ c) && f.usable (c - 2) r) = true ↔ 2 ≤ c ∧ (c - 2, r) ∉ f.defects := by
  rw [Bool.and_eq_true, decide_eq_true_eq, f.usable_iff]
  exact ⟨fun h => ⟨h.1, h.2.2.2⟩, fun h => ⟨h.1, by omega, hr, h.2⟩⟩

theorem FrameFacts.usable_right_iff (hr : r < f.height) :
    f.usable (c + 2) r = true ↔ c + 2 < f.width ∧ (c + 2, r) ∉ f.defects := by
  rw [f.usable_iff]
  exact ⟨fun h => ⟨h.1, h.2.2⟩, fun h => ⟨h.1, hr, h.2⟩⟩

theorem FrameFacts.usable_up_iff (hc : c < f.width) (hr : r < f.height) :
    (decide (2 ≤ r) && f.usable c (r - 2)) = true ↔ 2 ≤ r ∧ (c, r - 2) ∉ f.defects := by
  rw [Bool.and_eq_true, decide_eq_true_eq, f.usable_iff]
  exact ⟨fun h => ⟨h.1, h.2.2.2⟩, fun h => ⟨h.1, hc, by omega, h.2⟩⟩

theorem FrameFacts.usable_down_iff (hc : c < f.width) :
    f.usable c (r + 2) = true ↔ r + 2 < f.height ∧ (c, r + 2) ∉ f.defects := by
  rw [f.usable_iff]
  exact ⟨fun h => h.2, fun h => ⟨hc, h⟩⟩

end

theorem FrameFacts.levelled_of_unlisted (h : (c, r) ∉ f.defects) :
    f.levelled c r = rawAt f.raw c r - f.develop.black := by
  simp [FrameFacts.levelled, h]

theorem FrameFacts.levelled_of_listed (h : (c, r) ∈ f.defects) :
    f.levelled c r = f.substitute c r - f.develop.black := by
  simp [FrameFacts.levelled, h]

/-! ## Demosaic (R48) -/

theorem siteOf_red {phase : Nat} (hc : c % 2 = phase % 2) (hr : r % 2 = phase / 2 % 2) : siteOf phase c r = .red := by
  simp [siteOf, hc, hr]

theorem siteOf_blue {phase : Nat} (hc : c % 2 ≠ phase % 2) (hr : r % 2 ≠ phase / 2 % 2) :
    siteOf phase c r = .blue := by
  simp [siteOf, hc, hr]

theorem siteOf_greenInRed {phase : Nat} (hc : c % 2 ≠ phase % 2) (hr : r % 2 = phase / 2 % 2) :
    siteOf phase c r = .greenInRed := by
  simp [siteOf, hc, hr]

theorem siteOf_greenInBlue {phase : Nat} (hc : c % 2 = phase % 2) (hr : r % 2 ≠ phase / 2 % 2) :
    siteOf phase c r = .greenInBlue := by
  simp [siteOf, hc, hr]

end

/-! ## The develop matrix (R49) -/

theorem clampInt_toNat (a : Int) : ((clampInt a 0 4095).toNat : Int) = max 0 (min 4095 a) := by
  rw [clampInt]
  split
  · omega
  · split <;> omega

/-- Settles O10: rows, defects and black level, demosaic, matrix. -/
theorem developedRowsFollowIntake : Obligations.DevelopedRowsFollowIntake := by
  refine ⟨fun f r => ⟨by simp [FrameFacts.developedRow], fun c hc => ?_⟩,
    fun f c r left right up down hc hr hleft hright hup hdown => ⟨f.levelled_of_unlisted c r, fun hd => ?_⟩,
    fun f c r v cross corners sides stack hc hr hv hsides hstack hcross hcorners => ?_,
    fun f c r p m o hp hm ho => ?_⟩
  · simp [FrameFacts.developedRow, hc]
  · obtain rfl := propext ((FrameFacts.usable_left_iff hc hr).trans hleft.symm)
    obtain rfl := propext ((FrameFacts.usable_right_iff hr).trans hright.symm)
    obtain rfl := propext ((FrameFacts.usable_up_iff hc hr).trans hup.symm)
    obtain rfl := propext ((FrameFacts.usable_down_iff hc).trans hdown.symm)
    rw [f.levelled_of_listed c r hd]
    simp only [FrameFacts.substitute]
    refine ⟨fun l r => ?_, fun l r => ?_, fun l r => ?_, fun l r u => ?_, fun l r u d => ?_, fun l r u d => ?_⟩
    · rw [if_pos (Bool.and_eq_true_iff.mpr ⟨l, r⟩), meanOf]
    · rw [if_neg fun h => r (Bool.and_eq_true_iff.mp h).2, if_pos l]
    · rw [if_neg fun h => l (Bool.and_eq_true_iff.mp h).1, if_neg l, if_pos r]
    · rw [if_neg fun h => l (Bool.and_eq_true_iff.mp h).1, if_neg l, if_neg r, if_pos u]
    · rw [if_neg fun h => l (Bool.and_eq_true_iff.mp h).1, if_neg l, if_neg r, if_neg u, if_pos d]
    · rw [if_neg fun h => l (Bool.and_eq_true_iff.mp h).1, if_neg l, if_neg r, if_neg u, if_neg d, Nat.sub_self]
  · have neighbour (a b : Nat) : f.neighbour a b = v a b := (hv a b).symm
    subst hsides hstack hcross hcorners
    simp only [FrameFacts.demosaic, neighbour]
    exact ⟨fun hc hr => by rw [siteOf_red c r hc hr]; rfl, fun hc hr => by rw [siteOf_blue c r hc hr]; rfl,
      fun hc hr => by rw [siteOf_greenInRed c r hc hr]; rfl, fun hc hr => by rw [siteOf_greenInBlue c r hc hr]; rfl⟩
  · subst hp
    simp only [FrameFacts.developed, DevelopTable.component, clampInt_toNat, hm, ho]
    exact ⟨trivial, trivial, trivial⟩

/-! ## The buffers (R55) -/

theorem FrameStore.get_set_eq (fs : FrameStore) (b c : BufferId) (x : Buffer) :
    (fs.set b x).get c = if c = b then x else fs.get c := by
  cases b <;> cases c <;> rfl

theorem FrameStore.find_eq_some {fs : FrameStore} {p : Buffer → Bool} {b : BufferId} (h : fs.find p = some b) :
    p (fs.get b) = true := by
  unfold FrameStore.find at h
  split at h
  · cases h; assumption
  · split at h
    · cases h; assumption
    · split at h <;> cases h
      assumption

section

variable {fs : FrameStore} {f : FrameFacts} {b : BufferId}

theorem FrameStore.extendTo_eq {p : Picture} {n : Nat} (hf : fs.find Buffer.isFilling = some b)
    (hb : fs.get b = .filling p) : fs.extendTo f n = fs.set b (.filling (p.extendTo f n)) := by
  simp only [FrameStore.extendTo, hf, hb]

/-- R45: only the FILLING buffer receives rows. -/
theorem FrameStore.extendTo_get_of_not_filling {n : Nat} (h : (fs.get b).isFilling = false) :
    (fs.extendTo f n).get b = fs.get b := by
  unfold FrameStore.extendTo
  split
  · rfl
  · rename_i c hc
    have other : b ≠ c := by
      rintro rfl
      rw [FrameStore.find_eq_some hc] at h
      cases h
    split
    · rw [FrameStore.get_set_eq, if_neg other]
    · rfl

end

/-! ## The header and the lines (R37, R38) -/

section

variable {s : State} {ch : Channel} {f : FrameFacts} {counter : BitVec 16} {status : Byte}

@[simp] theorem State.setAssembly_store (a : Assembly) : (s.setAssembly ch a).store = s.store := rfl
@[simp] theorem State.setAssembly_receiver (a : Assembly) :
    (s.setAssembly ch a).receiver = s.receiver.set ch { s.receiver.get ch with assembly := a } := rfl

theorem State.takeEmbedded_header (h : (s.receiver.get ch).assembly = .header f) :
    s.takeEmbedded ch (some (counter, status)) = s.setAssembly ch (.lines f counter status) := by
  simp only [State.takeEmbedded, h]

theorem FrameFacts.lineFailure_eq_none {pixels : List Nat} (hl : f.nextLine < f.height)
    (hp : pixels.length = f.width) : f.lineFailure f.nextLine pixels = none := by
  simp [FrameFacts.lineFailure, hl, hp]

theorem State.takeLine_taken {pixels : List Nat} (h : (s.receiver.get ch).assembly = .lines f counter status)
    (hl : f.nextLine < f.height) (hp : pixels.length = f.width) :
    s.takeLine ch (some (f.nextLine, pixels)) =
      (s.setStore ch ((s.store.get ch).extendTo (f.takeLine pixels) (f.takeLine pixels).rowsReady)).setAssembly ch
        (.lines (f.takeLine pixels) counter status) := by
  simp only [State.takeLine, h, FrameFacts.lineFailure_eq_none hl hp]

/-- R38: the frame after a line, with the clamp of its pixels written out. -/
theorem FrameFacts.takeLine_eq (f : FrameFacts) (pixels : List Nat) : f.takeLine pixels =
    { f with nextLine := f.nextLine + 1, raw := f.raw ++ [pixels.map fun v => if v ≤ 4095 then v else 4095] } := by
  have clamp : min 4095 = fun v => if v ≤ 4095 then v else 4095 := by
    funext v
    split <;> omega
  rw [FrameFacts.takeLine, clamp]

theorem FrameFacts.takeLine_rowsReady (f : FrameFacts) (pixels : List Nat) :
    (f.takeLine pixels).rowsReady = f.raw.length - 2 := by
  simp only [FrameFacts.rowsReady, FrameFacts.takeLine, List.length_append, List.length_singleton]
  omega

end

/-- Settles O11. -/
theorem headerAndLinesAreTaken : Obligations.HeaderAndLinesAreTaken := by
  refine ⟨fun ch packet s f counter status hs hp ha => ?_,
    fun ch packet s f counter status pixels f' hs ha hp hl hw hf' => ?_⟩
  · exact (exec_embedded_of hs hp).trans (congrArg _ (State.takeEmbedded_header ha))
  · obtain rfl : f.takeLine pixels = f' := (f.takeLine_eq pixels).trans hf'.symm
    refine ⟨_, (exec_line_of hs hp).trans (congrArg _ (State.takeLine_taken ha hl hw)), ?_, fun b hb => ?_,
      fun b p hfind hb => ?_⟩
    all_goals rw [State.setAssembly_store, State.setStore_store, Pair.get_set]
    · rfl
    · exact FrameStore.extendTo_get_of_not_filling hb
    · rw [FrameStore.extendTo_eq hfind hb, FrameStore.get_set_eq, if_pos rfl, Picture.extendTo, f.takeLine_rowsReady]

end Sys2Proof.Machine
end

section
/-! The camera-side boundary (R19, R44, R205): the values and the tables that wait take effect. -/

namespace Sys2Proof.Machine

/-! ## Values put in force (R205) -/

section

variable (s : State) (ch : Channel) (c : ChannelParams)

/-- A legal value put in force is the value in force. -/
theorem State.paramValue_put_self {p : Param} {v : List Nat} (hv : p.Legal v) (hp : p.cls ≠ .part) :
    (s.setParams ch (c.put p v)).paramValue ch p = v := by
  obtain ⟨hlen, -⟩ := hv
  have one (h : v.length = 1) : [v.getD 0 0] = v := by
    obtain ⟨a, rfl⟩ := List.length_eq_one_iff.mp h; rfl
  have three (h : v.length = 3) : [v.getD 0 0, v.getD 1 0, v.getD 2 0] = v := by
    obtain ⟨a, b, d, rfl⟩ := List.length_eq_three.mp h; rfl
  have four (h : v.length = 4) : [v.getD 0 0, v.getD 1 0, v.getD 2 0, v.getD 3 0] = v := by
    match v, h with
    | [_, _, _, _], _ => rfl
  simp only [State.paramValue, State.setParams_params, Pair.get_set]
  cases p
  case nightMode | nightEnter | nightExit | nightDwell | tickBit | tickEdge => exact absurd rfl hp
  case borderColour | fieldColour => exact three hlen
  case checkWindow => exact four hlen
  all_goals exact one hlen

/-- A value put in force leaves the others. -/
theorem State.paramValue_put_other {p q : Param} {v : List Nat} (h : q ≠ p) :
    (s.setParams ch (c.put p v)).paramValue ch q = (s.setParams ch c).paramValue ch q := by
  simp only [State.paramValue, State.setParams_params, Pair.get_set]
  cases p <;> cases q
  all_goals
    first
    | rfl
    | exact absurd rfl h

/-- Values of different parameters put in force one after the other: each parameter holds its own. -/
theorem State.paramValue_foldl_put {ps : List PendingValue} (hlegal : ∀ pv ∈ ps, pv.1.Legal pv.2)
    (hn : (ps.map Prod.fst).Nodup) (hcls : ∀ pv ∈ ps, pv.1.cls ≠ .part) (p : Param) :
    (s.setParams ch (ps.foldl (fun c pv => c.put pv.1 pv.2) c)).paramValue ch p =
      (pendingOf ps p).getD ((s.setParams ch c).paramValue ch p) := by
  induction ps generalizing c with
  | nil => rfl
  | cons x ps ih =>
    obtain ⟨fresh, hn⟩ := List.nodup_cons.mp hn
    rw [List.foldl_cons, ih _ (fun pv h => hlegal pv (List.mem_cons_of_mem _ h)) hn
      fun pv h => hcls pv (List.mem_cons_of_mem _ h)]
    by_cases hp : x.1 = p
    · subst hp
      have absent : pendingOf ps x.1 = none := by
        rw [pendingOf, Option.map_eq_none_iff, List.find?_eq_none]
        exact fun pv h heq => fresh (List.mem_map.mpr ⟨pv, h, beq_iff_eq.mp heq⟩)
      have present : pendingOf (x :: ps) x.1 = some x.2 := by simp [pendingOf]
      rw [absent, present]
      exact s.paramValue_put_self ch c (hlegal x List.mem_cons_self) (hcls x List.mem_cons_self)
    · have skipped : pendingOf (x :: ps) p = pendingOf ps p := by simp [pendingOf, hp]
      rw [skipped, s.paramValue_put_other ch c (Ne.symm hp)]

end

/-- Of the values of a class that wait, a parameter of the class has its own and another has none. -/
theorem pendingOf_filter_cls (ps : List PendingValue) (cls : ParamClass) (p : Param) :
    pendingOf (ps.filter fun pv => pv.1.cls == cls) p = if p.cls = cls then pendingOf ps p else none := by
  induction ps with
  | nil => split <;> rfl
  | cons x ps ih =>
    by_cases hx : x.1 = p
    · subst hx
      by_cases hc : x.1.cls = cls
      · simp [pendingOf, hc]
      · simpa [pendingOf, hc] using ih
    · have skipped : pendingOf (x :: ps) p = pendingOf ps p := by simp [pendingOf, hx]
      rw [skipped, ← ih]
      by_cases hc : x.1.cls = cls
      · simp [pendingOf, hc, hx]
      · simp [pendingOf, hc]

/-- R205: a boundary of a class puts its pending values in force. -/
theorem State.applyPending_valuesTaken {s : State} (hs : s.ParamsSound) (ch : Channel) {cls : ParamClass}
    (hcls : cls ≠ .part) : s.ValuesTaken (s.applyPending ch cls) ch cls := by
  obtain ⟨-, legal, nodup⟩ := hs ch
  have value (p : Param) : (s.applyPending ch cls).paramValue ch p =
      (pendingOf ((s.pendingParams.get ch).filter fun pv => pv.1.cls == cls) p).getD (s.paramValue ch p) := by
    have folded := s.paramValue_foldl_put ch (s.params.get ch)
      (ps := (s.pendingParams.get ch).filter fun pv => pv.1.cls == cls)
      (fun pv h => legal pv (List.mem_of_mem_filter h)) (nodup.sublist (List.filter_sublist.map _))
      (fun pv h => by
        have due := (List.mem_filter.mp h).2
        rw [beq_iff_eq.mp due]
        exact hcls) p
    have whole : s.setParams ch (s.params.get ch) = s := by rw [State.setParams, Pair.set_get]
    rw [whole] at folded
    exact folded
  refine ⟨fun p hp => ?_, fun p hp => ?_, fun c hc => ⟨Pair.get_set_other _ _ hc, Pair.get_set_other _ _ hc⟩,
    Pair.get_set _ ch _⟩
  · rw [value, pendingOf_filter_cls, if_pos hp]
  · rw [value, pendingOf_filter_cls, if_neg hp]; rfl

theorem State.paramValue_congr {s t : State} {ch : Channel} (hp : t.params.get ch = s.params.get ch)
    (hq : t.partParams = s.partParams) (p : Param) : t.paramValue ch p = s.paramValue ch p := by
  simp only [State.paramValue, hp, hq]

/-- Values taken are taken in every state that holds the same values. -/
theorem State.ValuesTaken.congr {s t u : State} {ch : Channel} {cls : ParamClass} (h : s.ValuesTaken t ch cls)
    (hp : u.params = t.params) (hw : u.pendingParams = t.pendingParams) (hq : u.partParams = t.partParams) :
    s.ValuesTaken u ch cls := by
  obtain ⟨due, rest, other, pending⟩ := h
  have value (p : Param) : u.paramValue ch p = t.paramValue ch p := State.paramValue_congr (by rw [hp]) hq p
  exact ⟨fun p hc => (value p).trans (due p hc), fun p hc => (value p).trans (rest p hc),
    fun c hc => by rw [hp, hw]; exact other c hc, by rw [hw]; exact pending⟩

/-! ## Tables put in force (R19, R20) -/

/-- R19, R20: a table that waits swaps, another stands, and no other table is touched. -/
theorem State.swapIfWaiting_tablesTaken (s : State) (t : TableId) : s.TablesTaken (s.swapIfWaiting t) [t] := by
  refine fun x => ⟨fun load supplied hx hw => ?_, fun h => ?_⟩
  · obtain rfl := List.mem_singleton.mp hx
    exact State.swapIfWaiting_table hw
  · by_cases hx : x = t
    · subst hx
      have idle := h.resolve_left (not_not.mpr (List.mem_singleton.mpr rfl))
      rw [State.swapIfWaiting]
      split
      · exact absurd ‹_› (idle _ _)
      · rfl
    · exact s.swapIfWaiting_table_other hx

/-- Swaps of one list of tables and then of another are swaps of both. -/
theorem State.TablesTaken.trans {s t u : State} {xs ys : List TableId} (h : s.TablesTaken t xs)
    (k : t.TablesTaken u ys) (hdisjoint : ∀ x ∈ ys, x ∉ xs) : s.TablesTaken u (xs ++ ys) := by
  refine fun x => ⟨fun load supplied hx hw => ?_, fun hx => ?_⟩
  · rcases List.mem_append.mp hx with hxs | hys
    · have kept := (k x).2 (.inl fun hys => hdisjoint x hys hxs)
      exact kept.trans ((h x).1 load supplied hxs hw)
    · have kept := (h x).2 (.inl (hdisjoint x hys))
      rw [(k x).1 load supplied hys (by rw [kept]; exact hw), kept]
  · have first := (h x).2 (hx.imp_left fun hn hxs => hn (List.mem_append_left _ hxs))
    have second := (k x).2 (by
      rw [first]
      exact hx.imp_left fun hn hys => hn (List.mem_append_right _ hys))
    exact second.trans first

/-- R19, R44: at a camera-side boundary the Develop table and the Defect List swap. -/
theorem State.cameraBoundary_tablesTaken (s : State) (ch : Channel) :
    s.TablesTaken (s.cameraBoundary ch) (cameraTables ch) :=
  ((s.applyPending ch .camera).swapIfWaiting_tablesTaken (.develop ch)).trans
    (State.swapIfWaiting_tablesTaken _ (.defectList ch)) (by simp)

/-! ## The boundary (R44) -/

theorem State.EvalFrame.partParams {ch : Channel} {s t : State} (h : State.EvalFrame ch s t) :
    t.partParams = s.partParams := (congrArg State.partParams h.frame :)

section

variable (s : State) (t : TableId)

theorem State.swapIfWaiting_params : (s.swapIfWaiting t).params = s.params :=
  State.swapIfWaiting_keeps (fun _ _ => rfl) (fun s ch => (s.evaluate_evalFrame ch _ _).params) s t

theorem State.swapIfWaiting_pendingParams : (s.swapIfWaiting t).pendingParams = s.pendingParams :=
  State.swapIfWaiting_keeps (fun _ _ => rfl) (fun s ch => (s.evaluate_evalFrame ch _ _).pendingParams) s t

theorem State.swapIfWaiting_partParams : (s.swapIfWaiting t).partParams = s.partParams :=
  State.swapIfWaiting_keeps (fun _ _ => rfl) (fun s ch => (s.evaluate_evalFrame ch _ _).partParams) s t

/-- R20: a swap evaluates TABLE_CORRUPT at most. -/
theorem State.swapIfWaiting_entry (c : Channel) {k : FaultKind} (hk : k ≠ .tableCorrupt) :
    (s.swapIfWaiting t).entry c k = s.entry c k :=
  State.swapIfWaiting_keeps (f := fun s => s.entry c k) (fun _ _ => rfl)
    (fun s ch => s.evaluate_entry_other ch _ (.inl hk)) s t

end

section

variable (s : State) (ch : Channel)

theorem State.cameraBoundary_entry (c : Channel) {k : FaultKind} (hk : k ≠ .tableCorrupt) :
    (s.cameraBoundary ch).entry c k = s.entry c k := by
  rw [State.cameraBoundary, State.swapIfWaiting_entry _ _ _ hk, State.swapIfWaiting_entry _ _ _ hk]
  rfl

theorem State.cameraBoundary_pendingParams : (s.cameraBoundary ch).pendingParams.get ch =
    (s.pendingParams.get ch).filter fun pv => pv.1.cls != .camera := by
  rw [State.cameraBoundary, State.swapIfWaiting_pendingParams, State.swapIfWaiting_pendingParams]
  exact Pair.get_set _ ch _

theorem State.cameraBoundary_valuesTaken (hs : s.ParamsSound) : s.ValuesTaken (s.cameraBoundary ch) ch .camera :=
  (State.applyPending_valuesTaken hs ch (cls := .camera) nofun).congr
    (by rw [State.cameraBoundary, State.swapIfWaiting_params, State.swapIfWaiting_params])
    (by rw [State.cameraBoundary, State.swapIfWaiting_pendingParams, State.swapIfWaiting_pendingParams])
    (by rw [State.cameraBoundary, State.swapIfWaiting_partParams, State.swapIfWaiting_partParams])

end

end Sys2Proof.Machine
end

section
/-! The buffers of a view through evaluations and boundaries (R55, R57, R59). -/

namespace Sys2Proof.Machine

/-! ## Buffers under a discard and a release (R57, R59) -/

section

variable {fs gs : FrameStore}

theorem FrameStore.discard_get (fs : FrameStore) (b : BufferId) :
    fs.discard.get b = if (fs.get b).isFilling then .free else fs.get b := fs.freeWhere_get _ fs.released b

theorem FrameStore.discard_not_filling (fs : FrameStore) (b : BufferId) : (fs.discard.get b).isFilling = false := by
  rw [FrameStore.discard_get]
  split
  · rfl
  · exact Bool.eq_false_of_not_eq_true ‹_›

theorem FrameStore.discard_get_of_not_filling {b : BufferId} (h : (fs.get b).isFilling = false) :
    fs.discard.get b = fs.get b := by
  rw [FrameStore.discard_get, h, if_neg Bool.false_ne_true]

theorem Buffer.not_filling_of_shown {x : Buffer} (h : x.isShown = true) : x.isFilling = false := by
  cases x <;> first | rfl | cases h

theorem FrameStore.discard_isShown (fs : FrameStore) (b : BufferId) :
    (fs.discard.get b).isShown = (fs.get b).isShown := by
  rw [FrameStore.discard_get]
  split
  case isTrue h =>
    cases hb : fs.get b <;> rw [hb] at h <;> first | rfl | cases h
  case isFalse => rfl

/-- R57, R59: what is released before a discard may be released after it. -/
theorem FrameStore.ReleasedTo.discard {line : Option Nat} (h : fs.ReleasedTo gs line) :
    fs.discard.ReleasedTo gs.discard line := by
  obtain ⟨hidden, shown, none⟩ := h
  refine ⟨fun b hb => ?_, fun b hb => ?_, fun hno => ?_⟩
  · rw [fs.discard_isShown] at hb
    rw [FrameStore.discard_get, FrameStore.discard_get, hidden b hb]
  · rw [fs.discard_isShown] at hb
    obtain ⟨free, waits⟩ := shown b hb
    rw [FrameStore.discard_get_of_not_filling (Buffer.not_filling_of_shown hb)]
    refine ⟨fun hl => ?_, fun hl => ?_⟩
    · obtain ⟨hfree, hreleased⟩ := free hl
      exact ⟨by rw [FrameStore.discard_get, hfree]; rfl, hreleased⟩
    · obtain ⟨hsame, hreleased⟩ := waits hl
      exact ⟨by rw [FrameStore.discard_get, hsame, Buffer.not_filling_of_shown hb]; rfl, hreleased⟩
  · rw [none fun b => by rw [← fs.discard_isShown]; exact hno b]

/-- R59: from one frame store to another no buffer has moved, but that a SHOWN one may have become FREE. -/
def FrameStore.LosesShown (fs gs : FrameStore) : Prop :=
  ∀ b, gs.get b = fs.get b ∨ ((fs.get b).isShown = true ∧ gs.get b = .free)

theorem FrameStore.ReleasedTo.losesShown {line : Option Nat} (h : fs.ReleasedTo gs line) : fs.LosesShown gs := by
  obtain ⟨hidden, shown, -⟩ := h
  intro b
  cases hb : (fs.get b).isShown with
  | false => exact .inl (hidden b hb)
  | true =>
    obtain ⟨free, waits⟩ := shown b hb
    by_cases hl : line = none
    · exact .inr ⟨rfl, (free hl).1⟩
    · exact .inl (waits hl).1

theorem FrameStore.LosesShown.refl (fs : FrameStore) : fs.LosesShown fs := fun _ => .inl rfl

theorem FrameStore.LosesShown.get_of_hidden (h : fs.LosesShown gs) {b : BufferId} (hb : (fs.get b).isShown = false) :
    gs.get b = fs.get b := (h b).resolve_right fun hs => Bool.false_ne_true (hb.symm.trans hs.1)

theorem FrameStore.LosesShown.get_of_not_free (h : fs.LosesShown gs) {b : BufferId} (hb : gs.get b ≠ .free) :
    gs.get b = fs.get b := (h b).resolve_right fun hs => hb hs.2

/-! ## How many buffers are in a state (R55) -/

theorem FrameStore.number_eq (fs : FrameStore) (p : Buffer → Bool) :
    fs.number p = (p (fs.get .b0)).toNat + (p (fs.get .b1)).toNat + (p (fs.get .b2)).toNat := by
  have count (b : Bool) : (if b then 1 else 0) = b.toNat := by cases b <;> rfl
  simp only [FrameStore.number, List.countP_cons, List.countP_nil, count, FrameStore.get]
  omega

theorem FrameStore.number_eq_zero {p : Buffer → Bool} (h : ∀ b, p (fs.get b) = false) : fs.number p = 0 := by
  rw [FrameStore.number_eq, h, h, h]; rfl

/-- A test that holds of one buffer and of no other counts one. -/
theorem FrameStore.number_eq_one {p : Buffer → Bool} {b : BufferId} (hb : p (fs.get b) = true)
    (h : ∀ c, c ≠ b → p (fs.get c) = false) : fs.number p = 1 := by
  rw [FrameStore.number_eq]
  cases b
  · rw [hb, h .b1 nofun, h .b2 nofun]; rfl
  · rw [hb, h .b0 nofun, h .b2 nofun]; rfl
  · rw [hb, h .b0 nofun, h .b1 nofun]; rfl

/-- A test that counts one at most holds of one buffer at most. -/
theorem FrameStore.eq_of_number_le_one {p : Buffer → Bool} (h : fs.number p ≤ 1) {b c : BufferId}
    (hb : p (fs.get b) = true) (hc : p (fs.get c) = true) : c = b := by
  rw [FrameStore.number_eq] at h
  cases b <;> cases c <;> first | rfl | (rw [hb, hc, Bool.toNat_true] at h; omega)

theorem FrameStore.number_le {p : Buffer → Bool} (h : ∀ b, p (gs.get b) = true → p (fs.get b) = true) :
    gs.number p ≤ fs.number p := by
  rw [FrameStore.number_eq, FrameStore.number_eq]
  have le (b : BufferId) : (p (gs.get b)).toNat ≤ (p (fs.get b)).toNat := Bool.toNat_le_toNat (h b)
  have := le .b0
  have := le .b1
  have := le .b2
  omega

/-- Where buffers have stood or become FREE, no test that FREE fails counts more. -/
theorem FrameStore.number_le_of_freed {p : Buffer → Bool} (hp : p .free = false)
    (h : ∀ b, gs.get b = fs.get b ∨ gs.get b = .free) : gs.number p ≤ fs.number p := by
  refine FrameStore.number_le fun b hb => ?_
  rcases h b with hstood | hfree
  · rwa [hstood] at hb
  · rw [hfree, hp] at hb
    cases hb

theorem FrameStore.find_eq_of_unique {p : Buffer → Bool} {b : BufferId} (hb : p (fs.get b) = true)
    (h : ∀ c, p (fs.get c) = true → c = b) : fs.find p = some b := by
  obtain ⟨c, hc⟩ := Option.isSome_iff_exists.mp ((fs.find_isSome_iff p).mpr ⟨b, hb⟩)
  rw [hc, h c (FrameStore.find_eq_some hc)]

/-- R55: with none FILLING, one READY and one SHOWN at most, a buffer is FREE. -/
theorem FrameStore.find_free_isSome (hf : ∀ b, (fs.get b).isFilling = false) (hr : fs.number Buffer.isReady ≤ 1)
    (hs : fs.number Buffer.isShown ≤ 1) : (fs.find Buffer.isFree).isSome = true := by
  rw [FrameStore.find_isSome_iff]
  by_contra hno
  have taken (b : BufferId) : (fs.get b).isReady.toNat + (fs.get b).isShown.toNat = 1 := by
    have free : (fs.get b).isFree = false := Bool.eq_false_of_not_eq_true fun h => hno ⟨b, h⟩
    have filling := hf b
    cases hb : fs.get b with
    | free => rw [hb] at free; cases free
    | filling => rw [hb] at filling; cases filling
    | ready => rfl
    | shown => rfl
  rw [FrameStore.number_eq] at hr hs
  have := taken .b0
  have := taken .b1
  have := taken .b2
  omega

end

/-! ## A view that may enter FALLBACK (R63, R65) -/

/-- R59, R65: from `s` to `t` the view of a channel may have entered FALLBACK, with the release of its SHOWN buffer; no
buffer has moved but by that release. -/
structure State.ViewMoved (ch : Channel) (s t : State) : Prop where
  link : t.link = s.link
  fallback : (s.view.get ch).state = .fallback → (t.view.get ch).state = .fallback
  stands : (s.view.get ch).state = .fallback ∨ (t.view.get ch).state ≠ .fallback → t.store.get ch = s.store.get ch
  enters : (s.view.get ch).state ≠ .fallback → (t.view.get ch).state = .fallback →
    (s.store.get ch).ReleasedTo (t.store.get ch) (s.link.get ch).frame.lineInProgress

section

variable {ch : Channel} {s t u : State}

/-- Where the buffers stand, and the view enters FALLBACK no more than it leaves it, nothing has moved. -/
theorem State.ViewMoved.of_eq (hl : t.link = s.link)
    (hv : (t.view.get ch).state = .fallback ↔ (s.view.get ch).state = .fallback)
    (hs : t.store.get ch = s.store.get ch) : State.ViewMoved ch s t :=
  ⟨hl, hv.mpr, fun _ => hs, fun hn hf => absurd (hv.mp hf) hn⟩

theorem State.ViewMoved.refl (ch : Channel) (s : State) : State.ViewMoved ch s s := .of_eq rfl Iff.rfl rfl

theorem State.ViewMoved.trans (h : State.ViewMoved ch s t) (k : State.ViewMoved ch t u) : State.ViewMoved ch s u := by
  refine ⟨k.link.trans h.link, fun hs => k.fallback (h.fallback hs), fun hsu => ?_, fun hs hu => ?_⟩
  · rcases hsu with hs | hu
    · exact (k.stands (.inl (h.fallback hs))).trans (h.stands (.inl hs))
    · exact (k.stands (.inr hu)).trans (h.stands (.inr fun ht => hu (k.fallback ht)))
  · by_cases ht : (t.view.get ch).state = .fallback
    · rw [k.stands (.inl ht)]
      exact h.enters hs ht
    · rw [← h.stands (.inr ht), ← h.link]
      exact k.enters ht hu

theorem State.ViewMoved.losesShown (h : State.ViewMoved ch s t) : (s.store.get ch).LosesShown (t.store.get ch) := by
  by_cases hs : (s.view.get ch).state = .fallback
  · rw [h.stands (.inl hs)]
    exact .refl _
  · by_cases ht : (t.view.get ch).state = .fallback
    · exact (h.enters hs ht).losesShown
    · rw [h.stands (.inr ht)]
      exact .refl _

/-- A discard after the move is a discard before it. -/
theorem State.ViewMoved.discardBuffer (h : State.ViewMoved ch s t) :
    State.ViewMoved ch (s.discardBuffer ch) (t.discardBuffer ch) := by
  have store (u : State) : (u.discardBuffer ch).store.get ch = (u.store.get ch).discard := Pair.get_set _ ch _
  refine ⟨h.link, h.fallback, fun hst => ?_, fun hs ht => ?_⟩
  · rw [store, store, h.stands hst]
  · rw [store, store]
    exact (h.enters hs ht).discard

end

section

variable (s : State) (ch : Channel)

/-- R63: what an evaluation does to its channel's view and buffers. -/
theorem State.evaluate_viewMoved (k : FaultKind) (o : Option Nat) : State.ViewMoved ch s (s.evaluate ch k o) := by
  obtain ⟨w, heq, hview, hstore, -, hlink⟩ := s.evaluate_eq_tellView ch k o
  rw [heq]
  by_cases ha : beginsToDrive (s.entry ch k) (s.judged ch k o) = some .fallback
  · rw [ha]
    by_cases hv : (w.view.get ch).state = .fallback
    · have stays : w.tellView ch (some .fallback) = w := if_pos hv
      rw [stays]
      exact .of_eq hlink (by rw [hview]) (by rw [hstore])
    · rw [State.tellView_fallback hv]
      obtain ⟨entered, -, -, -, released, -⟩ :=
        State.enterFallback_fellBack (s := s) (w := w) (ch := ch) (by rw [hstore]) hlink (by rw [hview])
      rw [hview] at hv
      exact ⟨(w.enterFallback_evalFrame ch).link.trans hlink, fun _ => entered,
        fun h => h.elim (absurd · hv) (absurd entered), fun _ _ => released⟩
  · rcases State.tellView_eq_of_ne_fallback (w := w) (ch := ch) ha with hw | ⟨hlive, hw⟩
    · rw [hw]
      exact .of_eq hlink (by rw [hview]) (by rw [hstore])
    · have held : ((w.setViewState ch .hold 0).view.get ch).state = .hold :=
        congrArg ViewControl.state (Pair.get_set _ ch _)
      rw [hw]
      refine .of_eq hlink ?_ (congrArg (Pair.get · ch) hstore)
      rw [held, ← hview, hlive]
      exact ⟨nofun, nofun⟩

/-- R20: what a swap does to the view and the buffers of the one channel of its table. -/
theorem State.swapIfWaiting_viewMoved (t : TableId) (ht : t.channels = [ch]) :
    State.ViewMoved ch s (s.swapIfWaiting t) := by
  have written (x : TableStore) : State.ViewMoved ch s (s.setTables x) := .of_eq rfl Iff.rfl rfl
  rw [State.swapIfWaiting]
  split
  · rw [State.swapIn_eq, ht]
    split
    · exact (written _).trans (State.evaluate_viewMoved _ ch _ _)
    · exact written _
  · exact .refl ch s

theorem State.cameraBoundary_viewMoved : State.ViewMoved ch s (s.cameraBoundary ch) :=
  (State.ViewMoved.of_eq rfl Iff.rfl rfl : State.ViewMoved ch s (s.applyPending ch .camera)).trans
    ((State.swapIfWaiting_viewMoved _ ch _ rfl).trans (State.swapIfWaiting_viewMoved _ ch _ rfl))

end

end Sys2Proof.Machine
end

section
/-! The end of a malformed camera frame (R40), and what the work of a camera receiver may change. -/

namespace Sys2Proof.Machine

/-! ## What the receiver's work may change -/

/-- From `s` to `t` only what evaluations, the frame stores and the camera receivers hold has changed. -/
structure State.ReceiverFrame (s t : State) : Prop where
  frame : t = { s with
    entries := t.entries, history := t.history, historyCount := t.historyCount, view := t.view, store := t.store
    glare := t.glare, receiver := t.receiver }

theorem State.ReceiverFrame.refl (s : State) : s.ReceiverFrame s := ⟨rfl⟩

section

variable {s t u : State} (h : s.ReceiverFrame t)
include h

theorem State.ReceiverFrame.trans (k : t.ReceiverFrame u) : s.ReceiverFrame u := by
  obtain ⟨hf⟩ := h
  obtain ⟨kf⟩ := k
  exact ⟨by rw [kf, hf]⟩

theorem State.ReceiverFrame.tables : t.tables = s.tables := (congrArg State.tables h.frame :)
theorem State.ReceiverFrame.params : t.params = s.params := (congrArg State.params h.frame :)
theorem State.ReceiverFrame.pendingParams : t.pendingParams = s.pendingParams :=
  (congrArg State.pendingParams h.frame :)
theorem State.ReceiverFrame.partParams : t.partParams = s.partParams := (congrArg State.partParams h.frame :)
theorem State.ReceiverFrame.link : t.link = s.link := (congrArg State.link h.frame :)
theorem State.ReceiverFrame.timing : t.timing = s.timing := (congrArg State.timing h.frame :)
theorem State.ReceiverFrame.coverage : t.coverage = s.coverage := (congrArg State.coverage h.frame :)
theorem State.ReceiverFrame.agent : t.agent = s.agent := (congrArg State.agent h.frame :)
theorem State.ReceiverFrame.counter : t.counter = s.counter := (congrArg State.counter h.frame :)

theorem State.ReceiverFrame.setReceiver {ch : Channel} {x : Receiver} : s.ReceiverFrame (t.setReceiver ch x) :=
  h.trans ⟨rfl⟩

theorem State.ReceiverFrame.setStore {ch : Channel} {x : FrameStore} : s.ReceiverFrame (t.setStore ch x) :=
  h.trans ⟨rfl⟩

theorem State.ReceiverFrame.evaluate {ch : Channel} {k : FaultKind} {o : Option Nat} :
    s.ReceiverFrame (t.evaluate ch k o) :=
  h.trans ⟨by rw [(t.evaluate_evalFrame ch k o).frame]⟩

/-- An entry that stands since is judged as it was then. -/
theorem State.ReceiverFrame.judged {ch : Channel} {k : FaultKind} {o : Option Nat} (he : t.entry ch k = s.entry ch k) :
    (t.evaluate ch k o).entry ch k = s.judged ch k o :=
  (t.evaluate_entry ch k o).trans (State.judged_congr o he h.tables h.counter h.link)

end

/-! ## The boundary at the end of a frame (R44) -/

/-- R19, R44, R205: from `s` to `t` a camera-side boundary has been met, and the links, the timing, the agent and the
coverage records stand. -/
structure State.BoundaryMet (ch : Channel) (s t : State) : Prop where
  tables : s.TablesTaken t (cameraTables ch)
  values : s.ParamsSound → s.ValuesTaken t ch .camera
  pendingParams : t.pendingParams.get ch = (s.pendingParams.get ch).filter fun pv => pv.1.cls != .camera
  link : t.link = s.link
  timing : t.timing = s.timing
  agent : t.agent = s.agent
  coverage : t.coverage = s.coverage
  counter : t.counter = s.counter

theorem State.ReceiverFrame.boundaryMet {s w : State} (h : s.ReceiverFrame w) (ch : Channel) :
    State.BoundaryMet ch s (w.cameraBoundary ch) := by
  have frame := w.cameraBoundary_swapFrame ch
  have tables := w.cameraBoundary_tablesTaken ch
  have values := w.cameraBoundary_valuesTaken ch
  have pending := w.cameraBoundary_pendingParams ch
  have paramValue (c : Channel) (p : Param) : w.paramValue c p = s.paramValue c p :=
    State.paramValue_congr (by rw [h.params]) h.partParams p
  simp only [State.TablesTaken, State.table, h.tables] at tables
  simp only [State.ParamsSound, State.ValuesTaken, paramValue, h.params, h.pendingParams] at values
  rw [h.pendingParams] at pending
  exact ⟨tables, values, pending, frame.link.trans h.link, frame.timing.trans h.timing, frame.agent.trans h.agent,
    frame.coverage.trans h.coverage, frame.counter.trans h.counter⟩

/-! ## A malformed frame (R40) -/

section

variable (s : State) (ch : Channel) (d : Nat) (a : Assembly)

/-- R40: the part after a malformed frame is observed and dropped, before the camera-side boundary. -/
def State.dropped (s : State) (ch : Channel) (d : Nat) (a : Assembly) : State :=
  ((s.evaluate ch .frameMalformed (some d)).discardBuffer ch).setAssembly ch a

theorem State.malformed_eq : s.malformed ch d a = (s.dropped ch d a).cameraBoundary ch := rfl

theorem State.dropped_receiverFrame : s.ReceiverFrame (s.dropped ch d a) :=
  (State.ReceiverFrame.refl s).evaluate.setStore.setReceiver

theorem State.malformed_boundaryMet : State.BoundaryMet ch s (s.malformed ch d a) :=
  (s.dropped_receiverFrame ch d a).boundaryMet ch

theorem State.malformed_entry :
    (s.malformed ch d a).entry ch .frameMalformed = s.judged ch .frameMalformed (some d) :=
  ((s.dropped ch d a).cameraBoundary_entry ch ch (k := .frameMalformed) nofun).trans
    (s.evaluate_entry ch .frameMalformed (some d))

theorem State.malformed_receiver :
    (s.malformed ch d a).receiver = s.receiver.set ch { s.receiver.get ch with assembly := a } := by
  rw [State.malformed_eq, (State.cameraBoundary_swapFrame _ ch).receiver, State.dropped, State.setAssembly_receiver]
  have same : ((s.evaluate ch .frameMalformed (some d)).discardBuffer ch).receiver = s.receiver :=
    (s.evaluate_evalFrame ch _ _).receiver
  rw [same]

theorem State.malformed_viewMoved : State.ViewMoved ch (s.discardBuffer ch) (s.malformed ch d a) := by
  have observed := (s.evaluate_viewMoved ch .frameMalformed (some d)).discardBuffer
  have closed : State.ViewMoved ch ((s.evaluate ch .frameMalformed (some d)).discardBuffer ch) (s.dropped ch d a) :=
    .of_eq rfl Iff.rfl rfl
  exact (observed.trans closed).trans ((s.dropped ch d a).cameraBoundary_viewMoved ch)

theorem State.malformed_losesShown :
    (s.store.get ch).discard.LosesShown ((s.malformed ch d a).store.get ch) := by
  have loses := (s.malformed_viewMoved ch d a).losesShown
  rwa [State.discardBuffer, State.setStore_store, Pair.get_set] at loses

theorem State.malformed_not_filling (b : BufferId) : (((s.malformed ch d a).store.get ch).get b).isFilling = false := by
  rcases s.malformed_losesShown ch d a b with h | ⟨-, h⟩
  · rw [h]
    exact (s.store.get ch).discard_not_filling b
  · rw [h]; rfl

theorem State.malformed_freed (b : BufferId) :
    ((s.malformed ch d a).store.get ch).get b = (s.store.get ch).get b ∨
      ((s.malformed ch d a).store.get ch).get b = .free := by
  rcases s.malformed_losesShown ch d a b with h | ⟨-, h⟩
  · rw [h, FrameStore.discard_get]
    split
    · exact .inr rfl
    · exact .inl rfl
  · exact .inr h

/-- R55, R57: with its buffer discarded, a malformed frame leaves a buffer FREE. -/
theorem State.malformed_find_free (h : (s.store.get ch).Single) :
    (((s.malformed ch d a).store.get ch).find Buffer.isFree).isSome = true := by
  obtain ⟨-, ready, shown⟩ := h
  exact FrameStore.find_free_isSome (s.malformed_not_filling ch d a)
    ((FrameStore.number_le_of_freed rfl (s.malformed_freed ch d a)).trans ready)
    ((FrameStore.number_le_of_freed rfl (s.malformed_freed ch d a)).trans shown)

end

/-! ## The tests of a LINE (R38) -/

section

variable {f : FrameFacts} {index : Nat} {pixels : List Nat}

theorem FrameFacts.lineFailure_index (h : index ≠ f.nextLine) : f.lineFailure index pixels = some 2 := if_pos h

theorem FrameFacts.lineFailure_height (h : f.height ≤ f.nextLine) : f.lineFailure f.nextLine pixels = some 5 :=
  (if_neg (not_not.mpr rfl)).trans (if_pos h)

theorem FrameFacts.lineFailure_width (h : f.nextLine < f.height) (hw : pixels.length ≠ f.width) :
    f.lineFailure f.nextLine pixels = some 4 :=
  (if_neg (not_not.mpr rfl)).trans ((if_neg (not_le.mpr h)).trans (if_pos hw))

end

section

variable {s : State} {ch : Channel} {f : FrameFacts} {counter : BitVec 16} {status : Byte}

/-- R38: a LINE that fails a test makes its frame malformed. -/
theorem State.takeLine_refused {index detail : Nat} {pixels : List Nat}
    (h : (s.receiver.get ch).assembly = .lines f counter status) (hf : f.lineFailure index pixels = some detail) :
    s.takeLine ch (some (index, pixels)) = s.malformed ch detail .discard := by
  simp only [State.takeLine, h, hf]

/-- R39: a FRAME-END whose count is wrong makes its frame malformed. -/
theorem State.takeFrameEnd_miscounted {sent : Nat} (h : (s.receiver.get ch).assembly = .lines f counter status)
    (hc : sent ≠ f.height ∨ f.nextLine ≠ f.height) :
    s.takeFrameEnd ch (some sent) = (s.frameEndTime ch).malformed ch 5 .idle := by
  simp only [State.takeFrameEnd, h]
  exact if_neg fun hc' => hc.elim (absurd hc'.1) (absurd hc'.2)

/-- R162: the tracker that takes a frame's end, or ignores it in OFF. -/
theorem State.frameEndTime_eq {ends : LinkTiming}
    (h : ends = if (s.timing.get ch).tracker.state = .off then s.timing.get ch
      else { s.timing.get ch with tracker := { (s.timing.get ch).tracker with frameEnd := some s.counter } }) :
    s.frameEndTime ch = s.setTiming ch ends := by
  subst h
  simp only [State.frameEndTime]
  split
  · rw [State.setTiming, Pair.set_get]
  · rfl

end

/-- R40: a command drops the frame in progress, with a detail and a phase after it, the frame's end having reached the
tracker where the phase is IDLE. -/
def State.Drops (s : State) (ch : Channel) (c : Instr) (detail : Nat) (after : Assembly) (ends : LinkTiming) : Prop :=
  ∃ g, exec c s = .next ((s.setTiming ch g).malformed ch detail after) ∧
    s.timing.set ch g = if after = .idle then s.timing.set ch ends else s.timing

section

variable {s : State} {ch : Channel} {c : Instr} {detail : Nat} {ends : LinkTiming}

theorem State.Drops.of_discard (h : exec c s = .next (s.malformed ch detail .discard)) :
    s.Drops ch c detail .discard ends := by
  refine ⟨s.timing.get ch, ?_, (s.timing.set_get ch).trans (if_neg nofun).symm⟩
  rw [h, State.setTiming, Pair.set_get]

theorem State.Drops.of_end (timed : s.frameEndTime ch = s.setTiming ch ends)
    (h : exec c s = .next ((s.frameEndTime ch).malformed ch detail .idle)) : s.Drops ch c detail .idle ends :=
  ⟨ends, by rw [h, timed], (if_pos rfl).symm⟩

end

/-- Settles O12: whichever packet makes the frame malformed, the frame is dropped by `State.malformed`, after its end has
reached the tracker where the packet is a FRAME-END. -/
theorem malformedFrameIsDropped : Obligations.MalformedFrameIsDropped := by
  intro ch packet s ends hs hends
  have timed : s.frameEndTime ch = s.setTiming ch ends := State.frameEndTime_eq hends
  refine ⟨fun f counter status c detail after hcase => ?_, fun ha => ⟨fun hp => ?_, ?_, ?_⟩, fun ha => ?_⟩
  · have drops : s.Drops ch c detail after ends := by
      rcases hcase with ⟨ha, h⟩ | ⟨ha, h⟩
      · rcases h with ⟨rfl, hp, rfl, rfl⟩ | ⟨rfl, hp, rfl, rfl⟩ | ⟨_, _, rfl, hp, rfl, rfl⟩ | ⟨rfl, hp, rfl, rfl⟩ |
          ⟨_, rfl, hp, rfl, rfl⟩
        · exact .of_discard ((exec_embedded_of_failed hs hp).trans (by simp only [State.takeEmbedded, ha]))
        · exact .of_discard ((exec_line_of_failed hs hp).trans (by simp only [State.takeLine, ha]))
        · exact .of_discard ((exec_line_of hs hp).trans (by simp only [State.takeLine, ha]))
        · exact .of_end timed ((exec_frameEnd_of_failed hs hp).trans (by simp only [State.takeFrameEnd, ha]))
        · exact .of_end timed ((exec_frameEnd_of hs hp).trans (by simp only [State.takeFrameEnd, ha]))
      · rcases h with ⟨rfl, hp, rfl, rfl⟩ | ⟨_, _, rfl, hp, rfl, rfl⟩ | ⟨rfl, hp, rfl, rfl⟩ |
          ⟨_, _, rfl, hp, hi, rfl, rfl⟩ | ⟨_, rfl, hp, hl, rfl, rfl⟩ | ⟨_, rfl, hp, hl, hw, rfl, rfl⟩ |
          ⟨rfl, hp, rfl, rfl⟩ | ⟨_, rfl, hp, hc, rfl, rfl⟩
        · exact .of_discard ((exec_embedded_of_failed hs hp).trans (by simp only [State.takeEmbedded, ha]))
        · exact .of_discard ((exec_embedded_of hs hp).trans (by simp only [State.takeEmbedded, ha]))
        · exact .of_discard ((exec_line_of_failed hs hp).trans (by simp only [State.takeLine, ha]))
        · exact .of_discard ((exec_line_of hs hp).trans
            (congrArg _ (State.takeLine_refused ha (FrameFacts.lineFailure_index hi))))
        · exact .of_discard ((exec_line_of hs hp).trans
            (congrArg _ (State.takeLine_refused ha (FrameFacts.lineFailure_height hl))))
        · exact .of_discard ((exec_line_of hs hp).trans
            (congrArg _ (State.takeLine_refused ha (FrameFacts.lineFailure_width hl hw))))
        · exact .of_end timed ((exec_frameEnd_of_failed hs hp).trans (by simp only [State.takeFrameEnd, ha]))
        · exact .of_end timed ((exec_frameEnd_of hs hp).trans (congrArg _ (State.takeFrameEnd_miscounted ha hc)))
    obtain ⟨g, hexec, hg⟩ := drops
    have met := (s.setTiming ch g).malformed_boundaryMet ch detail after
    have receiver := (s.setTiming ch g).malformed_receiver ch detail after
    have stands (b : BufferId) (p : Picture) (n : BitVec 16) (hb : (s.store.get ch).get b = .ready p n) :
        (((s.setTiming ch g).malformed ch detail after).store.get ch).get b = .ready p n := by
      have kept : (s.store.get ch).discard.get b = .ready p n :=
        (FrameStore.discard_get_of_not_filling (by rw [hb]; rfl)).trans hb
      exact (((s.setTiming ch g).malformed_losesShown ch detail after).get_of_hidden (by
        rw [State.setTiming_store, kept]; rfl)).trans kept
    refine ⟨_, hexec, (s.setTiming ch g).malformed_entry ch detail after, by rw [receiver, Pair.get_set],
      by rw [receiver, Pair.get_set]; rfl, FrameStore.number_eq_zero (State.malformed_not_filling _ ch _ _), stands,
      met.tables, met.values, met.timing.trans hg, met.link, met.agent, met.coverage, met.counter⟩
  · have closes (fields : Option Nat) : s.takeFrameEnd ch fields = (s.setTiming ch ends).setAssembly ch .idle := by
      rw [State.takeFrameEnd_of_discard ha, timed]
    rcases hp with ⟨sent, hp⟩ | hp
    · exact (exec_frameEnd_of hs hp).trans (congrArg _ (closes _))
    · exact (exec_frameEnd_of_failed hs hp).trans (congrArg _ (closes _))
  · exact exec_embedded_of_closed (Assembly.inProgress_eq_false.mpr (.inr ha))
  · exact exec_line_of_closed (Assembly.inProgress_eq_false.mpr (.inr ha))
  · have closed := Assembly.inProgress_eq_false.mpr (.inl ha)
    exact ⟨exec_embedded_of_closed closed, exec_line_of_closed closed, exec_frameEnd_of_idle ha⟩

end Sys2Proof.Machine
end

section
/-! The frame that begins (R36, R56), with or without a frame in progress. -/

namespace Sys2Proof.Machine

/-! ## The buffer a frame fills (R56) -/

section

variable (fs : FrameStore) (arrival : Time) (width height : Nat)

theorem FrameStore.fill_snd : (fs.fill arrival width height).2 = fs.find Buffer.isFree := by
  rw [FrameStore.fill]
  split
  · exact Eq.symm ‹_›
  · exact Eq.symm ‹_›

theorem FrameStore.fill_get_of {b : BufferId} (h : fs.find Buffer.isFree = some b) :
    (fs.fill arrival width height).1.get b =
      .filling { arrival := arrival, width := width, height := height, rows := [] } := by
  simp only [FrameStore.fill, h, FrameStore.get_set_eq, if_true]

theorem FrameStore.fill_get_other {b : BufferId} (h : fs.find Buffer.isFree ≠ some b) :
    (fs.fill arrival width height).1.get b = fs.get b := by
  rw [FrameStore.fill]
  split
  · rfl
  · rename_i c hc
    rw [FrameStore.get_set_eq, if_neg]
    rintro rfl
    exact h hc

end

/-! ## The frame (R36, R44) -/

/-- R36: the facts of a frame that begins. -/
def State.firstFacts (s : State) (ch : Channel) : FrameFacts :=
  { nextLine := 0, width := (s.params.get ch).camWidth, height := (s.params.get ch).camHeight, arrival := s.counter
    buffer := (s.store.get ch).find Buffer.isFree, develop := s.developInUse ch, defects := s.defectsInUse ch
    raw := [] }

section

variable (s : State) (ch : Channel)

theorem State.beginFrame_eq : s.beginFrame ch =
    (s.setStore ch ((s.store.get ch).fill s.counter (s.params.get ch).camWidth (s.params.get ch).camHeight).1).setReceiver
      ch { s.receiver.get ch with assembly := .header (s.firstFacts ch), startSeen := true, silentTicks := 0 } := by
  rw [State.firstFacts, ← FrameStore.fill_snd _ s.counter (s.params.get ch).camWidth (s.params.get ch).camHeight]
  rfl

theorem State.beginFrame_store : (s.beginFrame ch).store.get ch =
    ((s.store.get ch).fill s.counter (s.params.get ch).camWidth (s.params.get ch).camHeight).1 := by
  rw [State.beginFrame_eq, State.setReceiver_store, State.setStore_store, Pair.get_set]

theorem State.beginFrame_receiver : (s.beginFrame ch).receiver.get ch =
    { s.receiver.get ch with assembly := .header (s.firstFacts ch), startSeen := true, silentTicks := 0 } := by
  rw [State.beginFrame_eq, State.setReceiver_receiver, Pair.get_set]

theorem State.beginFrame_get_of {b : BufferId} (h : (s.store.get ch).find Buffer.isFree = some b) :
    ((s.beginFrame ch).store.get ch).get b = .filling { arrival := s.counter, width := (s.params.get ch).camWidth
                                                        height := (s.params.get ch).camHeight, rows := [] } := by
  rw [State.beginFrame_store, FrameStore.fill_get_of _ _ _ _ h]

theorem State.beginFrame_get_other {b : BufferId} (h : (s.store.get ch).find Buffer.isFree ≠ some b) :
    ((s.beginFrame ch).store.get ch).get b = (s.store.get ch).get b := by
  rw [State.beginFrame_store, FrameStore.fill_get_other _ _ _ _ h]

/-- R55: where none was FILLING and one is FREE, one is FILLING. -/
theorem State.beginFrame_number (hfree : ((s.store.get ch).find Buffer.isFree).isSome = true)
    (hempty : ∀ b, ((s.store.get ch).get b).isFilling = false) :
    ((s.beginFrame ch).store.get ch).number Buffer.isFilling = 1 := by
  obtain ⟨b, hb⟩ := Option.isSome_iff_exists.mp hfree
  refine FrameStore.number_eq_one (b := b) (by rw [s.beginFrame_get_of ch hb]; rfl) fun c hc => ?_
  rw [s.beginFrame_get_other ch fun h => hc (Option.some.inj (h.symm.trans hb))]
  exact hempty c

/-- R29, R216: the intake uses what the VALID banks hold, or the defaults. -/
theorem State.intakeHeld {s : State} {ch : Channel} {f : FrameFacts} (hd : f.develop = s.developInUse ch)
    (hl : f.defects = s.defectsInUse ch) : s.IntakeHeld ch f := by
  have valid (t : TableId) : s.isValid t = true ↔ (s.table t).active.state = .valid := beq_iff_eq
  refine ⟨?_, ?_⟩
  · rintro _ rfl
    rw [hd, State.developInUse]
    refine ⟨fun h => by rw [if_neg (mt (valid _).mp h)]; rfl, fun h => ?_⟩
    rw [if_pos ((valid _).mpr h)]
    exact ⟨rfl, rfl, fun k hk => by simp [readDevelop, hk], fun o ho => by simp [readDevelop, ho]⟩
  · rintro _ rfl
    simp only [hl, State.defectsInUse]
    exact ⟨fun h => if_neg (mt (valid _).mp h), fun h => if_pos ((valid _).mpr h)⟩

theorem State.takeFrameStart_of_closed {s : State} {ch : Channel}
    (h : (s.receiver.get ch).assembly.inProgress = false) : s.takeFrameStart ch = s.beginFrame ch := by
  rw [State.takeFrameStart, h, if_neg Bool.false_ne_true]

theorem State.takeFrameStart_of_inProgress {s : State} {ch : Channel}
    (h : (s.receiver.get ch).assembly.inProgress = true) :
    s.takeFrameStart ch = (s.malformed ch 6 .idle).beginFrame ch := by
  rw [State.takeFrameStart, h, if_pos rfl]

end

/-- Settles O9: a frame begins on the state as it is, or as the abandoned frame leaves it. -/
theorem frameStartBeginsFrame : Obligations.FrameStartBeginsFrame := by
  refine ⟨fun ch packet s hs hp ha => ?_, fun ch packet s hs hp ha hsound => ?_⟩
  · refine ⟨_, s.firstFacts ch, (exec_frameStart_of hs hp).trans (congrArg _ (State.takeFrameStart_of_closed ha)), ?_,
      rfl, rfl, rfl, rfl, rfl, rfl, rfl, rfl, State.intakeHeld rfl rfl, fun b hb => ?_, fun b hb => ?_⟩
    · rw [State.beginFrame_store]
      exact s.beginFrame_eq ch
    · exact s.beginFrame_get_of ch hb
    · exact s.beginFrame_get_other ch hb
  · generalize hm : s.malformed ch 6 .idle = m
    have met : State.BoundaryMet ch s m := hm ▸ s.malformed_boundaryMet ch 6 .idle
    have moved : State.ViewMoved ch (s.discardBuffer ch) m := hm ▸ s.malformed_viewMoved ch 6 .idle
    have discarded : (s.discardBuffer ch).store.get ch = (s.store.get ch).discard := Pair.get_set _ ch _
    have stands := moved.stands
    have enters := moved.enters
    rw [discarded] at stands enters
    have empty (b : BufferId) : ((m.store.get ch).get b).isFilling = false :=
      hm ▸ s.malformed_not_filling ch 6 .idle b
    have free : ((m.store.get ch).find Buffer.isFree).isSome = true :=
      hm ▸ s.malformed_find_free ch 6 .idle (hsound ch).1
    have reference : (m.receiver.get ch).reference = (s.receiver.get ch).reference := by
      rw [← hm, State.malformed_receiver, Pair.get_set]
    have judged : m.entry ch .frameMalformed = s.judged ch .frameMalformed (some 6) :=
      hm ▸ s.malformed_entry ch 6 .idle
    have filled (b : BufferId) (hb : (m.firstFacts ch).buffer = some b) := m.beginFrame_get_of ch hb
    rw [met.counter] at filled
    refine ⟨m.beginFrame ch, m.firstFacts ch, (s.store.get ch).discard, m.store.get ch,
      (exec_frameStart_of hs hp).trans (congrArg _ ((State.takeFrameStart_of_inProgress ha).trans (by rw [hm]))),
      rfl, (s.store.get ch).discard_get, stands, enters, rfl, filled,
      fun b hb => m.beginFrame_get_other ch hb, ?_, rfl, met.counter, rfl, rfl, rfl, rfl, rfl,
      State.intakeHeld rfl rfl, free, ?_, ?_, ?_, judged, m.beginFrame_number ch free empty, met.tables, met.values,
      met.pendingParams, met.link, met.timing, met.agent, met.coverage, met.counter⟩
    all_goals rw [State.beginFrame_receiver]
    exact reference

end Sys2Proof.Machine
end

section
/-! A structurally good frame (R39, R41, R42): its checks, its buffer and its boundary. -/

namespace Sys2Proof.Machine

/-! ## The buffer of the frame (R55, R57) -/

/-- R55: a buffer, and no other, is FILLING. -/
structure FrameStore.OnlyFilling (fs : FrameStore) (b : BufferId) (p : Picture) : Prop where
  get : fs.get b = .filling p
  only : ∀ c, (fs.get c).isFilling = true → c = b

section

variable {fs gs : FrameStore} {b : BufferId} {p : Picture}

theorem FrameStore.Single.onlyFilling (h : fs.Single) (hb : fs.get b = .filling p) : fs.OnlyFilling b p :=
  ⟨hb, fun _ hc => FrameStore.eq_of_number_le_one h.1 (by rw [hb]; rfl) hc⟩

theorem FrameStore.OnlyFilling.find (h : fs.OnlyFilling b p) : fs.find Buffer.isFilling = some b :=
  FrameStore.find_eq_of_unique (by rw [h.get]; rfl) h.only

theorem FrameStore.OnlyFilling.losesShown (h : fs.OnlyFilling b p) (k : fs.LosesShown gs) : gs.OnlyFilling b p := by
  refine ⟨(k.get_of_hidden (by rw [h.get]; rfl)).trans h.get, fun c hc => ?_⟩
  have stood := k.get_of_not_free (b := c) fun hfree => by rw [hfree] at hc; cases hc
  exact h.only c (stood ▸ hc)

theorem FrameStore.OnlyFilling.extendTo (h : fs.OnlyFilling b p) (f : FrameFacts) (n : Nat) :
    (fs.extendTo f n).OnlyFilling b (p.extendTo f n) := by
  rw [FrameStore.extendTo_eq h.find h.get]
  refine ⟨by rw [FrameStore.get_set_eq, if_pos rfl], fun c hc => ?_⟩
  rw [FrameStore.get_set_eq] at hc
  split at hc
  · assumption
  · exact h.only c hc

/-- R57, Complete: the FILLING buffer is READY, and a READY one FREE. -/
theorem FrameStore.OnlyFilling.complete_get (h : fs.OnlyFilling b p) (n : BitVec 16) (c : BufferId) :
    (fs.complete n).get c =
      if c = b then .ready p n else if (fs.get c).isReady then .free else fs.get c := by
  have completed : fs.complete n = (fs.freeWhere Buffer.isReady).set b (.ready p n) := by
    simp only [FrameStore.complete, h.find, h.get]
  rw [completed, FrameStore.get_set_eq]
  split
  · rfl
  · exact fs.freeWhere_get _ fs.released c

end

/-! ## The counter check (R41) -/

section

variable {counter : BitVec 16}

theorem counterCheck_stands : counterCheck (some counter) counter = (some counter.toNat, none, false) := by
  simp [counterCheck]

theorem counterCheck_first : counterCheck none counter = (none, some none, true) := rfl

theorem counterCheck_advances {ref : BitVec 16} (h : ref ≠ counter) : counterCheck (some ref) counter =
    (none, some (if 2 ≤ (counter - ref).toNat ∧ (counter - ref).toNat ≤ 32767 then some ((counter - ref).toNat - 1)
      else none), true) := by
  have moved : (counter - ref).toNat ≠ 0 := fun h0 =>
    h (sub_eq_zero.mp (BitVec.eq_of_toNat_eq (h0.trans BitVec.toNat_zero.symm))).symm
  simp only [counterCheck, if_neg moved]
  split <;> rfl

/-- R41: a counter that is not the reference has advanced, and CAM_FROZEN is clean. -/
theorem counterCheck_of_ne {ref : Option (BitVec 16)} (h : ref ≠ some counter) :
    (counterCheck ref counter).1 = none ∧ (counterCheck ref counter).2.2 = true := by
  cases ref with
  | none => exact ⟨rfl, rfl⟩
  | some ref =>
    rw [counterCheck_advances fun heq => h (congrArg some heq)]
    exact ⟨rfl, rfl⟩

end

/-! ## The checks (R41, R42) -/

/-- R41: the part after the counter verdict. -/
def State.countChecked (s : State) (ch : Channel) (verdict : Option Nat × Option (Option Nat) × Bool) : State :=
  let u := s.evaluate ch .camFrozen verdict.1
  match verdict.2.1 with
  | some outcome => u.evaluate ch .camSkip outcome
  | none => u

/-- R41, R42: the part after the counter and sensor checks of a frame. -/
def State.checked (s : State) (ch : Channel) (counter : BitVec 16) (status : Byte) : State :=
  let u := s.countChecked ch (counterCheck (s.receiver.get ch).reference counter)
  (u.setReceiver ch { u.receiver.get ch with reference := some counter }).evaluate ch .camSensor
    (if status = 0 then none else some status.toNat)

section

variable (s : State) (ch : Channel)

section

variable (verdict : Option Nat × Option (Option Nat) × Bool)

theorem State.countChecked_receiverFrame : s.ReceiverFrame (s.countChecked ch verdict) := by
  simp only [State.countChecked]
  split
  · exact (State.ReceiverFrame.refl s).evaluate.evaluate
  · exact (State.ReceiverFrame.refl s).evaluate

theorem State.countChecked_receiver : (s.countChecked ch verdict).receiver = s.receiver := by
  simp only [State.countChecked]
  split
  · exact ((s.evaluate_evalFrame ch _ _).trans (State.evaluate_evalFrame _ ch _ _)).receiver
  · exact (s.evaluate_evalFrame ch _ _).receiver

theorem State.countChecked_viewMoved : State.ViewMoved ch s (s.countChecked ch verdict) := by
  simp only [State.countChecked]
  split
  · exact (s.evaluate_viewMoved ch _ _).trans (State.evaluate_viewMoved _ ch _ _)
  · exact s.evaluate_viewMoved ch _ _

theorem State.countChecked_entry_other {k : FaultKind} (hf : k ≠ .camFrozen) (hs : k ≠ .camSkip) :
    (s.countChecked ch verdict).entry ch k = s.entry ch k := by
  simp only [State.countChecked]
  split
  · rw [State.evaluate_entry_other _ ch _ (.inl hs), s.evaluate_entry_other ch _ (.inl hf)]
  · exact s.evaluate_entry_other ch _ (.inl hf)

theorem State.countChecked_camFrozen :
    (s.countChecked ch verdict).entry ch .camFrozen = s.judged ch .camFrozen verdict.1 := by
  simp only [State.countChecked]
  split
  · rw [State.evaluate_entry_other _ ch _ (.inl (show FaultKind.camFrozen ≠ .camSkip from nofun)), s.evaluate_entry]
  · exact s.evaluate_entry ch _ _

theorem State.countChecked_camSkip : (s.countChecked ch verdict).entry ch .camSkip =
    verdict.2.1.elim (s.entry ch .camSkip) (s.judged ch .camSkip) := by
  have stands := s.evaluate_entry_other ch (k := .camFrozen) (j := .camSkip) (c := ch) verdict.1 (.inl nofun)
  simp only [State.countChecked]
  split
  case h_1 o ho => rw [ho]; exact (State.ReceiverFrame.refl s).evaluate.judged stands
  case h_2 hn => rw [hn]; exact stands

end

section

variable (counter : BitVec 16) (status : Byte)

theorem State.checked_receiverFrame : s.ReceiverFrame (s.checked ch counter status) :=
  (s.countChecked_receiverFrame ch _).setReceiver.evaluate

theorem State.checked_receiver : (s.checked ch counter status).receiver.get ch =
    { s.receiver.get ch with reference := some counter } := by
  rw [State.checked, (State.evaluate_evalFrame _ ch _ _).receiver, State.setReceiver_receiver, Pair.get_set,
    State.countChecked_receiver]

theorem State.checked_viewMoved : State.ViewMoved ch s (s.checked ch counter status) := by
  have counted := s.countChecked_viewMoved ch (counterCheck (s.receiver.get ch).reference counter)
  have recorded (u : State) (x : Receiver) : State.ViewMoved ch u (u.setReceiver ch x) := .of_eq rfl Iff.rfl rfl
  exact (counted.trans (recorded _ _)).trans (State.evaluate_viewMoved _ ch _ _)

theorem State.checked_entry_of_ne {k : FaultKind} (h : k ≠ .camSensor) : (s.checked ch counter status).entry ch k =
    (s.countChecked ch (counterCheck (s.receiver.get ch).reference counter)).entry ch k :=
  State.evaluate_entry_other _ ch _ (.inl h)

theorem State.checked_camSensor : (s.checked ch counter status).entry ch .camSensor =
    s.judged ch .camSensor (if status = 0 then none else some status.toNat) :=
  (s.countChecked_receiverFrame ch _).setReceiver.judged (s.countChecked_entry_other ch _ nofun nofun)

/-- R42: the fate of a frame's buffer after the checks. -/
theorem State.judgeFrame_eq : s.judgeFrame ch counter status = (s.checked ch counter status).setStore ch
    (if (counterCheck (s.receiver.get ch).reference counter).2.2 = true ∧ status = 0 then
      ((s.checked ch counter status).store.get ch).complete counter
    else ((s.checked ch counter status).store.get ch).discard) := by
  have judged : s.judgeFrame ch counter status =
      if (counterCheck (s.receiver.get ch).reference counter).2.2 = true ∧ status = 0 then
        (s.checked ch counter status).setStore ch (((s.checked ch counter status).store.get ch).complete counter)
      else (s.checked ch counter status).discardBuffer ch := rfl
  rw [judged]
  split <;> rfl

end

/-! ## The end of the frame (R39) -/

section

variable (f : FrameFacts)

/-- R39, R45: the part after the clean evaluation of FRAME_MALFORMED, with the rows still missing in the buffer. -/
def State.completed (s : State) (ch : Channel) (f : FrameFacts) : State :=
  let u := s.evaluate ch .frameMalformed none
  u.setStore ch ((u.store.get ch).extendTo f f.height)

theorem State.completed_receiverFrame : s.ReceiverFrame (s.completed ch f) :=
  (State.ReceiverFrame.refl s).evaluate.setStore

theorem State.completed_receiver : (s.completed ch f).receiver = s.receiver := (s.evaluate_evalFrame ch _ _).receiver

theorem State.completed_frameMalformed :
    (s.completed ch f).entry ch .frameMalformed = s.judged ch .frameMalformed none := s.evaluate_entry ch _ _

theorem State.completed_entry {k : FaultKind} (h : k ≠ .frameMalformed) :
    (s.completed ch f).entry ch k = s.entry ch k := s.evaluate_entry_other ch _ (.inl h)

theorem State.completed_judged {k : FaultKind} (h : k ≠ .frameMalformed) (o : Option Nat) :
    (s.completed ch f).judged ch k o = s.judged ch k o :=
  State.judged_congr o (s.completed_entry ch f h) (s.completed_receiverFrame ch f).tables
    (s.completed_receiverFrame ch f).counter (s.completed_receiverFrame ch f).link

theorem State.completed_store : (s.completed ch f).store.get ch =
    ((s.evaluate ch .frameMalformed none).store.get ch).extendTo f f.height := Pair.get_set _ ch _

theorem State.completed_onlyFilling {b : BufferId} {p : Picture} (h : (s.store.get ch).OnlyFilling b p) :
    ((s.completed ch f).store.get ch).OnlyFilling b (p.extendTo f f.height) := by
  rw [State.completed_store]
  exact (h.losesShown (s.evaluate_viewMoved ch _ _).losesShown).extendTo f f.height

theorem State.completed_ready {b : BufferId} {q : Picture} {n : BitVec 16} (h : (s.store.get ch).get b = .ready q n) :
    ((s.completed ch f).store.get ch).get b = .ready q n := by
  have stood : ((s.evaluate ch .frameMalformed none).store.get ch).get b = .ready q n :=
    ((s.evaluate_viewMoved ch _ _).losesShown.get_of_hidden (by rw [h]; rfl)).trans h
  rw [State.completed_store, FrameStore.extendTo_get_of_not_filling (by rw [stood]; rfl), stood]

section

variable (counter : BitVec 16) (status : Byte)

/-- R39: the part after a good frame's checks. -/
def State.goodChecked (s : State) (ch : Channel) (f : FrameFacts) (counter : BitVec 16) (status : Byte) : State :=
  (s.completed ch f).checked ch counter status

/-- R39: the part after a good frame, before the camera-side boundary. -/
def State.goodClosed (s : State) (ch : Channel) (f : FrameFacts) (counter : BitVec 16) (status : Byte) : State :=
  ((s.goodChecked ch f counter status).setStore ch
    (if (counterCheck (s.receiver.get ch).reference counter).2.2 = true ∧ status = 0 then
      ((s.goodChecked ch f counter status).store.get ch).complete counter
    else ((s.goodChecked ch f counter status).store.get ch).discard)).setAssembly ch .idle

theorem State.goodFrame_eq :
    s.goodFrame ch f counter status = (s.goodClosed ch f counter status).cameraBoundary ch := by
  have closed : s.goodFrame ch f counter status =
      (((s.completed ch f).judgeFrame ch counter status).setAssembly ch .idle).cameraBoundary ch := rfl
  rw [closed, State.judgeFrame_eq, State.completed_receiver]
  rfl

theorem State.goodFrame_boundaryMet : State.BoundaryMet ch s (s.goodFrame ch f counter status) := by
  rw [State.goodFrame_eq]
  exact ((s.completed_receiverFrame ch f).trans (State.checked_receiverFrame _ ch counter status)).setStore.setReceiver
    |>.boundaryMet ch

theorem State.goodFrame_receiver : (s.goodFrame ch f counter status).receiver.get ch =
    { s.receiver.get ch with assembly := .idle, reference := some counter } := by
  rw [State.goodFrame_eq, (State.cameraBoundary_swapFrame _ ch).receiver, State.goodClosed, State.setAssembly_receiver,
    Pair.get_set, State.setStore_receiver, State.goodChecked, State.checked_receiver, State.completed_receiver]

theorem State.goodFrame_entry {k : FaultKind} (h : k ≠ .tableCorrupt) :
    (s.goodFrame ch f counter status).entry ch k = (s.goodChecked ch f counter status).entry ch k := by
  rw [State.goodFrame_eq, State.cameraBoundary_entry _ ch ch h]
  rfl

theorem State.goodFrame_entry_counted {k : FaultKind} (ht : k ≠ .tableCorrupt) (hs : k ≠ .camSensor) :
    (s.goodFrame ch f counter status).entry ch k =
      ((s.completed ch f).countChecked ch (counterCheck (s.receiver.get ch).reference counter)).entry ch k := by
  rw [s.goodFrame_entry ch f counter status ht, State.goodChecked, State.checked_entry_of_ne _ _ _ _ hs,
    State.completed_receiver]

theorem State.goodFrame_frameMalformed :
    (s.goodFrame ch f counter status).entry ch .frameMalformed = s.judged ch .frameMalformed none :=
  (s.goodFrame_entry_counted ch f counter status (k := .frameMalformed) nofun nofun).trans
    ((State.countChecked_entry_other _ ch _ (k := .frameMalformed) nofun nofun).trans (s.completed_frameMalformed ch f))

theorem State.goodFrame_camSensor : (s.goodFrame ch f counter status).entry ch .camSensor =
    s.judged ch .camSensor (if status = 0 then none else some status.toNat) :=
  (s.goodFrame_entry ch f counter status (k := .camSensor) nofun).trans
    ((State.checked_camSensor _ ch counter status).trans (s.completed_judged ch f (k := .camSensor) nofun _))

theorem State.goodFrame_camFrozen : (s.goodFrame ch f counter status).entry ch .camFrozen =
    s.judged ch .camFrozen (counterCheck (s.receiver.get ch).reference counter).1 :=
  (s.goodFrame_entry_counted ch f counter status (k := .camFrozen) nofun nofun).trans
    ((State.countChecked_camFrozen _ ch _).trans (s.completed_judged ch f (k := .camFrozen) nofun _))

theorem State.goodFrame_camSkip : (s.goodFrame ch f counter status).entry ch .camSkip =
    (counterCheck (s.receiver.get ch).reference counter).2.1.elim (s.entry ch .camSkip) (s.judged ch .camSkip) := by
  have judged : (s.completed ch f).judged ch .camSkip = s.judged ch .camSkip :=
    funext (s.completed_judged ch f nofun)
  rw [s.goodFrame_entry_counted ch f counter status (k := .camSkip) nofun nofun, State.countChecked_camSkip, judged,
    s.completed_entry ch f (k := .camSkip) nofun]

/-- R57: the fate of the buffers stands through the boundary, but for a release of SHOWN. -/
theorem State.goodFrame_losesShown :
    (if (counterCheck (s.receiver.get ch).reference counter).2.2 = true ∧ status = 0 then
      ((s.goodChecked ch f counter status).store.get ch).complete counter
    else ((s.goodChecked ch f counter status).store.get ch).discard).LosesShown
      ((s.goodFrame ch f counter status).store.get ch) := by
  have moved := ((s.goodClosed ch f counter status).cameraBoundary_viewMoved ch).losesShown
  rwa [← State.goodFrame_eq, State.goodClosed, State.setAssembly_store, State.setStore_store, Pair.get_set] at moved

theorem State.goodChecked_onlyFilling {b : BufferId} {p : Picture} (h : (s.store.get ch).OnlyFilling b p) :
    ((s.goodChecked ch f counter status).store.get ch).OnlyFilling b (p.extendTo f f.height) :=
  (s.completed_onlyFilling ch f h).losesShown (State.checked_viewMoved _ ch counter status).losesShown

theorem State.goodChecked_ready {b : BufferId} {q : Picture} {n : BitVec 16}
    (h : (s.store.get ch).get b = .ready q n) :
    ((s.goodChecked ch f counter status).store.get ch).get b = .ready q n := by
  have stood := s.completed_ready ch f h
  exact ((State.checked_viewMoved _ ch counter status).losesShown.get_of_hidden (by rw [stood]; rfl)).trans stood

end

end

end

/-! ## The buffers after the frame (R57) -/

section

variable {s : State} {ch : Channel} {f : FrameFacts} {counter : BitVec 16} {status : Byte} {b : BufferId} {p : Picture}
  (h : (s.store.get ch).OnlyFilling b p)
include h

/-- R57: a frame whose counter advanced and whose status is 0 is READY, and an older READY one is superseded. -/
theorem State.goodFrame_completes (hr : (s.receiver.get ch).reference ≠ some counter) (hs : status = 0) :
    ((s.goodFrame ch f counter status).store.get ch).get b = .ready (p.extendTo f f.height) counter ∧
    ∀ old q n, (s.store.get ch).get old = .ready q n →
      ((s.goodFrame ch f counter status).store.get ch).get old = .free := by
  have loses := s.goodFrame_losesShown ch f counter status
  have fate := (s.goodChecked_onlyFilling ch f counter status h).complete_get counter
  rw [if_pos ⟨(counterCheck_of_ne hr).2, hs⟩] at loses
  refine ⟨?_, fun old q n hold => ?_⟩
  · have ready := (fate b).trans (if_pos rfl)
    exact (loses.get_of_hidden (by rw [ready]; rfl)).trans ready
  · have other : old ≠ b := by
      rintro rfl
      rw [h.get] at hold
      cases hold
    have free := (fate old).trans ((if_neg other).trans
      (if_pos (by rw [s.goodChecked_ready ch f counter status hold]; rfl)))
    exact (loses.get_of_hidden (by rw [free]; rfl)).trans free

/-- R57: any other frame is discarded, and an older READY one stands. -/
theorem State.goodFrame_discards (hd : (s.receiver.get ch).reference = some counter ∨ status ≠ 0) :
    ((s.goodFrame ch f counter status).store.get ch).get b = .free ∧
    ∀ old q n, (s.store.get ch).get old = .ready q n →
      ((s.goodFrame ch f counter status).store.get ch).get old = .ready q n := by
  have loses := s.goodFrame_losesShown ch f counter status
  have refused : ¬((counterCheck (s.receiver.get ch).reference counter).2.2 = true ∧ status = 0) := by
    rintro ⟨hadvanced, hzero⟩
    rw [hd.resolve_right (not_not.mpr hzero), counterCheck_stands] at hadvanced
    cases hadvanced
  rw [if_neg refused] at loses
  refine ⟨?_, fun old q n hold => ?_⟩
  · have free := ((s.goodChecked ch f counter status).store.get ch).discard_get b
    rw [(s.goodChecked_onlyFilling ch f counter status h).get] at free
    exact (loses.get_of_hidden (by rw [free]; rfl)).trans free
  · have ready := s.goodChecked_ready ch f counter status hold
    have stands := (FrameStore.discard_get_of_not_filling (by rw [ready]; rfl)).trans ready
    exact (loses.get_of_hidden (by rw [stands]; rfl)).trans stands

end

/-- R39: a FRAME-END with the right counts ends a good frame. -/
theorem State.takeFrameEnd_good {s : State} {ch : Channel} {f : FrameFacts} {counter : BitVec 16} {status : Byte}
    (h : (s.receiver.get ch).assembly = .lines f counter status) (hl : f.nextLine = f.height) :
    s.takeFrameEnd ch (some f.height) = (s.frameEndTime ch).goodFrame ch f counter status := by
  simp only [State.takeFrameEnd, h]
  exact if_pos ⟨trivial, hl⟩

/-- Settles O13: the frame's end has reached the tracker, and the rest is the good frame's. -/
theorem goodFrameEndJudgesFrame : Obligations.GoodFrameEndJudgesFrame := by
  intro ch packet s f counter status b p hs hsound ha hp hl hb
  obtain ⟨ends, hends⟩ : ∃ ends : LinkTiming, ends =
      if (s.timing.get ch).tracker.state = .off then s.timing.get ch
      else { s.timing.get ch with tracker := { (s.timing.get ch).tracker with frameEnd := some s.counter } } := ⟨_, rfl⟩
  have taken := State.takeFrameEnd_good ha hl
  rw [State.frameEndTime_eq hends] at taken
  generalize hu : s.setTiming ch ends = u at taken
  have receiver : u.receiver = s.receiver := by rw [← hu]; rfl
  have only : (u.store.get ch).OnlyFilling b p := by rw [← hu]; exact (hsound ch).1.onlyFilling hb
  have met := u.goodFrame_boundaryMet ch f counter status
  have frozen := u.goodFrame_camFrozen ch f counter status
  have skip := u.goodFrame_camSkip ch f counter status
  have malformed := u.goodFrame_frameMalformed ch f counter status
  have sensor := u.goodFrame_camSensor ch f counter status
  have completes := State.goodFrame_completes (f := f) (counter := counter) (status := status) only
  have discards := State.goodFrame_discards (f := f) (counter := counter) (status := status) only
  have timing := met.timing
  rw [receiver] at frozen skip completes discards
  subst hu
  refine ⟨_, (exec_frameEnd_of hs hp).trans (congrArg _ taken), by rw [State.goodFrame_receiver],
    by rw [State.goodFrame_receiver], ?_, fun hr h0 => (completes hr h0).1, fun hd => (discards hd).1,
    fun old q n hold => ⟨fun hr h0 => (completes hr h0).2 old q n hold, fun hd => (discards hd).2 old q n hold⟩,
    malformed, sensor, fun hr => ?_, fun hr => ?_, fun hr => ?_, fun ref d hr hne hd => ?_, met.tables, met.values,
    met.link, met.agent, met.coverage, met.counter⟩
  · rw [timing, State.setTiming_timing, Pair.get_set, hends]
    split <;> rfl
  · rw [frozen, skip, hr, counterCheck_stands]
    exact ⟨rfl, rfl⟩
  · rw [frozen, (counterCheck_of_ne hr).1]
    rfl
  · rw [skip, hr, counterCheck_first]
    rfl
  · rw [skip, hr, counterCheck_advances hne, hd]
    rfl

end Sys2Proof.Machine
end

section
/-! The counts of R55 through the operations of a frame store. -/

namespace Sys2Proof.Machine

section

variable {fs gs : FrameStore} {p q : Buffer → Bool} {b : BufferId} {x : Buffer}

/-! ## The frame store after one operation (R56 to R59) -/

theorem FrameStore.get_freeWhere (fs : FrameStore) (q : Buffer → Bool) (b : BufferId) :
    (fs.freeWhere q).get b = if q (fs.get b) then .free else fs.get b := fs.freeWhere_get q fs.released b

theorem FrameStore.freeWhere_set_get (c : BufferId) : ((fs.freeWhere q).set b x).get c =
    if c = b then x else if q (fs.get c) then .free else fs.get c := by
  rw [FrameStore.get_set_eq]
  split
  · rfl
  · exact fs.get_freeWhere q c

/-- R57: a completion moves the FILLING buffer, if there is one. -/
theorem FrameStore.complete_cases (fs : FrameStore) (n : BitVec 16) :
    ((∀ b, (fs.get b).isFilling = false) ∧ fs.complete n = fs) ∨
      ∃ b p, fs.get b = .filling p ∧ fs.complete n = (fs.freeWhere Buffer.isReady).set b (.ready p n) := by
  unfold FrameStore.complete
  split
  case h_1 hnone =>
    refine .inl ⟨fun b => Bool.eq_false_of_not_eq_true fun hb => ?_, rfl⟩
    have found := (fs.find_isSome_iff Buffer.isFilling).mpr ⟨b, hb⟩
    rw [hnone] at found
    cases found
  case h_2 b hb =>
    split
    case h_1 p hp => exact .inr ⟨b, p, hp, rfl⟩
    case h_2 hn =>
      have filling := FrameStore.find_eq_some hb
      cases hp : fs.get b with
      | filling p => exact absurd hp (hn p)
      | _ => rw [hp] at filling; cases filling

/-- R58: a take moves the lowest READY buffer. -/
theorem FrameStore.take_eq {pic : Picture} {n : BitVec 16} (hb : fs.find Buffer.isReady = some b)
    (hp : fs.get b = .ready pic n) : fs.take = (fs.freeWhere Buffer.isShown).set b (.shown pic n 1) := by
  simp only [FrameStore.take, hb, hp]

theorem FrameStore.take_cases (fs : FrameStore) : fs.take = fs ∨
    ∃ b pic n, fs.get b = .ready pic n ∧ fs.take = (fs.freeWhere Buffer.isShown).set b (.shown pic n 1) := by
  unfold FrameStore.take
  split
  · exact .inl rfl
  · split
    · exact .inr ⟨_, _, _, ‹_›, rfl⟩
    · exact .inl rfl

/-- R58: a repeat counts in the lowest SHOWN buffer. -/
theorem FrameStore.repeatShown_eq {pic : Picture} {n : BitVec 16} {times : Nat}
    (hb : fs.find Buffer.isShown = some b) (hp : fs.get b = .shown pic n times) :
    fs.repeatShown = fs.set b (.shown pic n (min 255 (times + 1))) := by
  simp only [FrameStore.repeatShown, hb, hp]

theorem FrameStore.repeatShown_cases (fs : FrameStore) : fs.repeatShown = fs ∨
    ∃ b pic n times, fs.get b = .shown pic n times ∧
      fs.repeatShown = fs.set b (.shown pic n (min 255 (times + 1))) := by
  unfold FrameStore.repeatShown
  split
  · exact .inl rfl
  · split
    · exact .inr ⟨_, _, _, _, ‹_›, rfl⟩
    · exact .inl rfl

theorem FrameStore.extendTo_cases (fs : FrameStore) (f : FrameFacts) (n : Nat) : fs.extendTo f n = fs ∨
    ∃ b pic, fs.get b = .filling pic ∧ fs.extendTo f n = fs.set b (.filling (pic.extendTo f n)) := by
  unfold FrameStore.extendTo
  split
  · exact .inl rfl
  · split
    · exact .inr ⟨_, _, ‹_›, rfl⟩
    · exact .inl rfl

theorem FrameStore.fill_cases (fs : FrameStore) (a : Time) (w h : Nat) : (fs.fill a w h).1 = fs ∨
    ∃ b pic, fs.get b = .free ∧ (fs.fill a w h).1 = fs.set b (.filling pic) := by
  unfold FrameStore.fill
  split
  case h_1 => exact .inl rfl
  case h_2 b hb =>
    refine .inr ⟨b, _, ?_, rfl⟩
    have free := FrameStore.find_eq_some hb
    cases hx : fs.get b with
    | free => rfl
    | _ => rw [hx] at free; cases free

/-! ## Buffers that have only become FREE -/

/-- R57, R59: from one frame store to another no buffer has moved, but that some have become FREE. -/
def FrameStore.Freed (fs gs : FrameStore) : Prop := ∀ b, gs.get b = fs.get b ∨ gs.get b = .free

theorem FrameStore.Freed.refl (fs : FrameStore) : fs.Freed fs := fun _ => .inl rfl

theorem FrameStore.Freed.trans {hs : FrameStore} (h : fs.Freed gs) (k : gs.Freed hs) : fs.Freed hs := by
  intro b
  rcases k b with hk | hk
  · rw [hk]
    exact h b
  · exact .inr hk

theorem FrameStore.LosesShown.freed (h : fs.LosesShown gs) : fs.Freed gs := fun b => (h b).imp_right And.right

theorem FrameStore.freeWhere_freed (fs : FrameStore) (p : Buffer → Bool) (r : Bool) :
    fs.Freed { fs.freeWhere p with released := r } := by
  intro b
  rw [FrameStore.freeWhere_get]
  split
  · exact .inr rfl
  · exact .inl rfl

theorem FrameStore.discard_freed (fs : FrameStore) : fs.Freed fs.discard := fs.freeWhere_freed _ fs.released

theorem FrameStore.freeReleased_freed (fs : FrameStore) : fs.Freed fs.freeReleased := by
  rw [FrameStore.freeReleased]
  split
  · exact fs.freeWhere_freed _ false
  · exact .refl fs

theorem FrameStore.release_freed (fs : FrameStore) (line : Option Nat) : fs.Freed (fs.release line.isSome) :=
  (fs.release_releasedTo line).losesShown.freed

/-! ## How many buffers pass a test (R55) -/

theorem FrameStore.number_le_one (h : ∀ b c, p (fs.get b) = true → p (fs.get c) = true → c = b) :
    fs.number p ≤ 1 := by
  by_cases hx : ∃ b, p (fs.get b) = true
  · obtain ⟨b, hb⟩ := hx
    exact (FrameStore.number_eq_one hb fun c hc => Bool.eq_false_of_not_eq_true fun hp => hc (h b c hb hp)).le
  · rw [FrameStore.number_eq_zero fun b => Bool.eq_false_of_not_eq_true fun hb => hx ⟨b, hb⟩]
    exact Nat.zero_le 1

/-- Where the buffers that pass a test are freed and one is written, another test counts no more than before. -/
theorem FrameStore.number_freeWhere_set (hp : p .free = false) (hx : p x = false) :
    ((fs.freeWhere q).set b x).number p ≤ fs.number p := by
  refine FrameStore.number_le fun c hc => ?_
  rw [FrameStore.freeWhere_set_get] at hc
  split at hc
  · rw [hx] at hc
    cases hc
  · split at hc
    · rw [hp] at hc
      cases hc
    · exact hc

/-- Where the buffers that pass a test are freed and one is written, that one alone may pass it. -/
theorem FrameStore.number_freeWhere_set_self (hp : p .free = false) : ((fs.freeWhere p).set b x).number p ≤ 1 := by
  have only (c : BufferId) (hc : p (((fs.freeWhere p).set b x).get c) = true) : c = b := by
    by_contra hne
    rw [FrameStore.freeWhere_set_get, if_neg hne] at hc
    split at hc
    · rw [hp] at hc
      cases hc
    · contradiction
  exact FrameStore.number_le_one fun c d hc hd => (only d hd).trans (only c hc).symm

/-- A write of a buffer that no test tells from the one it replaces leaves every count. -/
theorem FrameStore.number_set_alike (hx : p x = p (fs.get b)) : (fs.set b x).number p ≤ fs.number p := by
  refine FrameStore.number_le fun c hc => ?_
  rw [FrameStore.get_set_eq] at hc
  split at hc
  case isTrue hcb => rw [hcb, ← hx]; exact hc
  case isFalse => exact hc

/-! ## The promise of R55 through the operations -/

theorem FrameStore.Single.freed (h : fs.Single) (k : fs.Freed gs) : gs.Single := by
  obtain ⟨filling, ready, shown⟩ := h
  exact ⟨(FrameStore.number_le_of_freed rfl k).trans filling, (FrameStore.number_le_of_freed rfl k).trans ready,
    (FrameStore.number_le_of_freed rfl k).trans shown⟩

theorem FrameStore.Single.complete (h : fs.Single) (n : BitVec 16) : (fs.complete n).Single := by
  obtain ⟨filling, -, shown⟩ := id h
  rcases fs.complete_cases n with ⟨-, heq⟩ | ⟨b, pic, -, heq⟩
  · rwa [heq]
  · rw [heq]
    exact ⟨(FrameStore.number_freeWhere_set rfl rfl).trans filling, FrameStore.number_freeWhere_set_self rfl,
      (FrameStore.number_freeWhere_set rfl rfl).trans shown⟩

/-- R57: a completion leaves no buffer FILLING. -/
theorem FrameStore.Single.complete_not_filling (h : fs.Single) (n : BitVec 16) (c : BufferId) :
    ((fs.complete n).get c).isFilling = false := by
  rcases fs.complete_cases n with ⟨hnone, heq⟩ | ⟨b, pic, hb, heq⟩
  · rw [heq]
    exact hnone c
  · rw [heq, FrameStore.freeWhere_set_get]
    split
    · rfl
    · split
      · rfl
      · refine Bool.eq_false_of_not_eq_true fun hc => ?_
        have same := FrameStore.eq_of_number_le_one h.1 (b := b) (by rw [hb]; rfl) hc
        contradiction

theorem FrameStore.Single.take (h : fs.Single) : fs.take.Single := by
  obtain ⟨filling, ready, -⟩ := id h
  rcases fs.take_cases with heq | ⟨b, pic, n, -, heq⟩
  · rwa [heq]
  · rw [heq]
    exact ⟨(FrameStore.number_freeWhere_set rfl rfl).trans filling, (FrameStore.number_freeWhere_set rfl rfl).trans ready,
      FrameStore.number_freeWhere_set_self rfl⟩

/-- R58: a take leaves no more buffers FILLING. -/
theorem FrameStore.take_filling_le (fs : FrameStore) : fs.take.number Buffer.isFilling ≤ fs.number Buffer.isFilling := by
  rcases fs.take_cases with heq | ⟨b, pic, n, -, heq⟩
  · rw [heq]
  · rw [heq]
    exact FrameStore.number_freeWhere_set rfl rfl

theorem FrameStore.Single.set_alike (h : fs.Single) (hf : x.isFilling = (fs.get b).isFilling)
    (hr : x.isReady = (fs.get b).isReady) (hs : x.isShown = (fs.get b).isShown) : (fs.set b x).Single := by
  obtain ⟨filling, ready, shown⟩ := h
  exact ⟨(FrameStore.number_set_alike hf).trans filling, (FrameStore.number_set_alike hr).trans ready,
    (FrameStore.number_set_alike hs).trans shown⟩

theorem FrameStore.Single.repeatShown (h : fs.Single) : fs.repeatShown.Single := by
  rcases fs.repeatShown_cases with heq | ⟨b, pic, n, times, hb, heq⟩
  · rwa [heq]
  · rw [heq]
    exact h.set_alike (by rw [hb]; rfl) (by rw [hb]; rfl) (by rw [hb]; rfl)

theorem FrameStore.repeatShown_filling_le (fs : FrameStore) :
    fs.repeatShown.number Buffer.isFilling ≤ fs.number Buffer.isFilling := by
  rcases fs.repeatShown_cases with heq | ⟨b, pic, n, times, hb, heq⟩
  · rw [heq]
  · rw [heq]
    exact FrameStore.number_set_alike (by rw [hb]; rfl)

theorem FrameStore.Single.extendTo (h : fs.Single) (f : FrameFacts) (n : Nat) : (fs.extendTo f n).Single := by
  rcases fs.extendTo_cases f n with heq | ⟨b, pic, hb, heq⟩
  · rwa [heq]
  · rw [heq]
    exact h.set_alike (by rw [hb]; rfl) (by rw [hb]; rfl) (by rw [hb]; rfl)

/-- R56: where no buffer is FILLING, a FREE one may become so. -/
theorem FrameStore.Single.fill (h : fs.Single) (hf : ∀ b, (fs.get b).isFilling = false) (a : Time) (w k : Nat) :
    (fs.fill a w k).1.Single := by
  rcases fs.fill_cases a w k with heq | ⟨b, pic, hb, heq⟩
  · rwa [heq]
  · obtain ⟨-, ready, shown⟩ := h
    rw [heq]
    refine ⟨FrameStore.number_le_one fun c d hc hd => ?_, (FrameStore.number_set_alike (by rw [hb]; rfl)).trans ready,
      (FrameStore.number_set_alike (by rw [hb]; rfl)).trans shown⟩
    have only (c : BufferId) (hc : ((fs.set b (.filling pic)).get c).isFilling = true) : c = b := by
      by_contra hne
      rw [FrameStore.get_set_eq, if_neg hne, hf c] at hc
      cases hc
    exact (only d hd).trans (only c hc).symm

end

end Sys2Proof.Machine
end

section
/-! How the part reacts: what evaluations, swaps, entries to FALLBACK and the effects made of them do to the buffers (R55)
and to the views that are LIVE (R61, R63). -/

namespace Sys2Proof.Machine

/-! ## Effects that only free buffers -/

/-- From `s` to `t` no camera receiver has changed its phase and no buffer has moved, but that some have become FREE. -/
structure State.OnlyFrees (s t : State) : Prop where
  assembly : ∀ ch, (t.receiver.get ch).assembly = (s.receiver.get ch).assembly
  freed : ∀ ch, (s.store.get ch).Freed (t.store.get ch)

section

variable {s t u : State}

/-- Buffers that have only become FREE keep the promise of R55. -/
theorem State.BuffersSound.onlyFrees (h : s.BuffersSound) (k : s.OnlyFrees t) : t.BuffersSound := by
  intro ch
  obtain ⟨single, filling⟩ := h ch
  refine ⟨single.freed (k.freed ch), fun hone => ?_⟩
  have fewer : (t.store.get ch).number Buffer.isFilling ≤ (s.store.get ch).number Buffer.isFilling :=
    FrameStore.number_le_of_freed rfl (k.freed ch)
  rw [k.assembly]
  exact filling (le_antisymm single.1 (hone ▸ fewer))

theorem State.OnlyFrees.of_eq (hr : t.receiver = s.receiver) (hs : t.store = s.store) : s.OnlyFrees t :=
  ⟨fun _ => by rw [hr], fun _ => by rw [hs]; exact .refl _⟩

theorem State.OnlyFrees.refl (s : State) : s.OnlyFrees s := .of_eq rfl rfl

theorem State.OnlyFrees.trans (h : s.OnlyFrees t) (k : t.OnlyFrees u) : s.OnlyFrees u :=
  ⟨fun ch => (k.assembly ch).trans (h.assembly ch), fun ch => (h.freed ch).trans (k.freed ch)⟩

theorem State.OnlyFrees.same (h : s.OnlyFrees t) (hr : u.receiver = t.receiver) (hs : u.store = t.store) :
    s.OnlyFrees u := h.trans (.of_eq hr hs)

/-- What frees buffers of one channel alone. -/
theorem State.OnlyFrees.of_channel {ch : Channel} (hr : t.receiver = s.receiver)
    (hch : (s.store.get ch).Freed (t.store.get ch)) (ho : ∀ c, c ≠ ch → t.store.get c = s.store.get c) :
    s.OnlyFrees t := by
  refine ⟨fun _ => by rw [hr], fun c => ?_⟩
  by_cases hc : c = ch
  · exact hc ▸ hch
  · rw [ho c hc]
    exact .refl _

theorem State.OnlyFrees.setStore {ch : Channel} {fs : FrameStore} (h : (s.store.get ch).Freed fs) :
    s.OnlyFrees (s.setStore ch fs) :=
  .of_channel (ch := ch) rfl (by rwa [State.setStore_store, Pair.get_set]) fun _ hc => Pair.get_set_other _ _ hc

end

/-! ## Effects that leave what a LIVE view needs -/

theorem mem_allKinds (k : FaultKind) : k ∈ allKinds := by cases k <;> decide

/-- R62: a channel is not withheld where none of its entries drives HOLD or FALLBACK. -/
theorem State.withheld_eq_false_iff (s : State) (ch : Channel) :
    s.withheld ch = false ↔ ∀ k, (s.entry ch k).withholds = false := by
  rw [State.withheld, FaultEntries.any, List.any_eq_false]
  exact ⟨fun h k => Bool.eq_false_of_not_eq_true (h k (mem_allKinds k)), fun h k _ => Bool.not_eq_true _ ▸ h k⟩

/-- R182: an entry that does not begin to drive HOLD or FALLBACK does not come to withhold. -/
theorem FaultEntry.withholds_of_not_begins {before after : FaultEntry} (h : before.withholds = false)
    (hold : beginsToDrive before after ≠ some .hold) (fallback : beginsToDrive before after ≠ some .fallback) :
    after.withholds = false := by
  refine Bool.eq_false_of_not_eq_true fun ha => ?_
  obtain ⟨drives, action⟩ := Bool.and_eq_true_iff.mp ha
  have driving := (FaultEntry.drives_iff after).mp drives
  have begins (a : Action) (hr : a ≠ .report) (heq : after.applied.action = a) : before.Begins after a :=
    ⟨driving, heq, fun hb hbefore => by
      have held : before.withholds = true := by
        simp [FaultEntry.withholds, (FaultEntry.drives_iff before).mpr hb, hbefore, hr]
      exact Bool.false_ne_true (h.symm.trans held)⟩
  cases heq : after.applied.action with
  | report => rw [heq] at action; cases action
  | hold => exact hold ((beginsToDrive_eq_some _ _ _).mpr (begins .hold nofun heq))
  | fallback => exact fallback ((beginsToDrive_eq_some _ _ _).mpr (begins .fallback nofun heq))

/-- From `s` to `t` no view has become LIVE, and no entry of a LIVE view's channel has come to drive HOLD or FALLBACK. -/
structure State.LiveStands (s t : State) : Prop where
  live : ∀ ch, (t.view.get ch).state = .live → (s.view.get ch).state = .live
  free : ∀ ch, (t.view.get ch).state = .live → s.withheld ch = false → t.withheld ch = false

section

variable {s t u : State}

theorem State.LiveStands.of_eq (hv : ∀ ch, (t.view.get ch).state = (s.view.get ch).state) (he : t.entries = s.entries) :
    s.LiveStands t :=
  ⟨fun ch h => (hv ch).symm.trans h, fun ch _ h => by rw [State.withheld, he]; exact h⟩

theorem State.LiveStands.trans (h : s.LiveStands t) (k : t.LiveStands u) : s.LiveStands u :=
  ⟨fun ch hu => h.live ch (k.live ch hu), fun ch hu hs => k.free ch hu (h.free ch (k.live ch hu) hs)⟩

/-- What touches one channel's view and entries alone. -/
theorem State.LiveStands.of_channel {ch : Channel}
    (hch : (t.view.get ch).state = .live →
      (s.view.get ch).state = .live ∧ (s.withheld ch = false → t.withheld ch = false))
    (ho : ∀ c, c ≠ ch → t.view.get c = s.view.get c ∧ t.entries.get c = s.entries.get c) : s.LiveStands t := by
  refine ⟨fun c hc => ?_, fun c hc hs => ?_⟩
  · by_cases heq : c = ch
    · subst heq
      exact (hch hc).1
    · rw [← (ho c heq).1]
      exact hc
  · by_cases heq : c = ch
    · subst heq
      exact (hch hc).2 hs
    · rw [State.withheld, (ho c heq).2]
      exact hs

end

/-! ## Reactions -/

/-- From `s` to `t` the part has only reacted: no camera receiver has changed its phase, no buffer has moved but by becoming
FREE, and the LIVE views stand or are left. -/
structure State.Reacts (s t : State) : Prop extends State.OnlyFrees s t, State.LiveStands s t

section

variable {s t u : State}

theorem State.BuffersSound.reacts (h : s.BuffersSound) (k : s.Reacts t) : t.BuffersSound := h.onlyFrees k.toOnlyFrees

theorem State.Reacts.of_eq (hr : t.receiver = s.receiver) (hs : t.store = s.store) (hv : t.view = s.view)
    (he : t.entries = s.entries) : s.Reacts t := ⟨.of_eq hr hs, .of_eq (fun _ => by rw [hv]) he⟩

theorem State.Reacts.refl (s : State) : s.Reacts s := .of_eq rfl rfl rfl rfl

theorem State.Reacts.trans (h : s.Reacts t) (k : t.Reacts u) : s.Reacts u :=
  ⟨h.toOnlyFrees.trans k.toOnlyFrees, h.toLiveStands.trans k.toLiveStands⟩

theorem State.Reacts.same (h : s.Reacts t) (hr : u.receiver = t.receiver) (hs : u.store = t.store)
    (hv : u.view = t.view) (he : u.entries = t.entries) : s.Reacts u := h.trans (.of_eq hr hs hv he)

end

section

variable (s : State) (ch : Channel)

theorem State.enterFallback_state : ((s.enterFallback ch).view.get ch).state = .fallback :=
  (State.enterFallback_fellBack (s := s) rfl rfl rfl).1

/-- R65: an entry to FALLBACK releases the SHOWN buffer, and the view is not LIVE. -/
theorem State.enterFallback_reacts : s.Reacts (s.enterFallback ch) := by
  have frame := s.enterFallback_evalFrame ch
  have released : ((s.releaseShown ch).store.get ch) = (s.store.get ch).release
    (s.link.get ch).frame.lineInProgress.isSome := Pair.get_set _ ch _
  refine ⟨.of_channel (ch := ch) frame.receiver ?_ fun c hc => (frame.other c hc).2.2.1,
    .of_channel (ch := ch) (fun h => ?_) fun c hc => ⟨(frame.other c hc).2.1, (frame.other c hc).1⟩⟩
  · rw [State.enterFallback, State.amendRecord_store]
    exact released ▸ FrameStore.release_freed _ _
  · rw [State.enterFallback_state] at h
    cases h

/-- R63, R182: a view that is LIVE after an evaluation was so before, and no entry began to drive HOLD or FALLBACK. -/
theorem State.evaluate_live {k : FaultKind} {o : Option Nat} (h : ((s.evaluate ch k o).view.get ch).state = .live) :
    (s.view.get ch).state = .live ∧ beginsToDrive (s.entry ch k) (s.judged ch k o) ≠ some .hold ∧
      beginsToDrive (s.entry ch k) (s.judged ch k o) ≠ some .fallback := by
  obtain ⟨w, heq, hview, -⟩ := s.evaluate_eq_tellView ch k o
  rw [heq] at h
  have notFallback : beginsToDrive (s.entry ch k) (s.judged ch k o) ≠ some .fallback := by
    intro ha
    rw [ha] at h
    by_cases hv : (w.view.get ch).state = .fallback
    · have stays : w.tellView ch (some .fallback) = w := if_pos hv
      rw [stays, hv] at h
      cases h
    · rw [State.tellView_fallback hv, State.enterFallback_state] at h
      cases h
  rcases State.tellView_eq_of_ne_fallback (w := w) (ch := ch) notFallback with hw | ⟨-, hw⟩
  · rw [hw] at h
    refine ⟨hview ▸ h, fun ha => ?_, notFallback⟩
    have held : (w.tellView ch (some .hold)).view.get ch = { w.view.get ch with state := .hold, holdTimer := 0 } := by
      rw [State.tellView, State.onDriveHold, if_pos h]
      exact Pair.get_set _ ch _
    rw [← hw, ha, held] at h
    cases h
  · have held : ((w.setViewState ch .hold 0).view.get ch).state = .hold :=
      congrArg ViewControl.state (Pair.get_set _ ch _)
    rw [hw, held] at h
    cases h

theorem State.evaluate_reacts (k : FaultKind) (o : Option Nat) : s.Reacts (s.evaluate ch k o) := by
  have frame := s.evaluate_evalFrame ch k o
  refine ⟨.of_channel (ch := ch) frame.receiver (s.evaluate_viewMoved ch k o).losesShown.freed
      fun c hc => (frame.other c hc).2.2.1,
    .of_channel (ch := ch) (fun h => ?_) fun c hc => ⟨(frame.other c hc).2.1, (frame.other c hc).1⟩⟩
  obtain ⟨live, hold, fallback⟩ := s.evaluate_live ch h
  refine ⟨live, fun hs => ?_⟩
  rw [State.withheld_eq_false_iff] at hs ⊢
  intro j
  by_cases hj : j = k
  · subst hj
    rw [State.evaluate_entry]
    exact FaultEntry.withholds_of_not_begins (hs j) hold fallback
  · rw [s.evaluate_entry_other ch o (.inl hj)]
    exact hs j

end

/-! ## What may follow -/

section

variable {s t : State} {ch : Channel} (h : s.Reacts t)
include h

theorem State.Reacts.setReceiver {x : Receiver} (hx : x.assembly = (t.receiver.get ch).assembly) :
    s.Reacts (t.setReceiver ch x) := by
  refine h.trans ⟨⟨fun c => ?_, fun _ => .refl _⟩, .of_eq (fun _ => rfl) rfl⟩
  rw [State.setReceiver_receiver, Pair.get_set_eq]
  split
  · subst_vars; exact hx
  · rfl

theorem State.Reacts.setGlare {x : Glare} : s.Reacts (t.setGlare ch x) := h.same rfl rfl rfl rfl
theorem State.Reacts.setLink {x : LinkUnit} : s.Reacts (t.setLink ch x) := h.same rfl rfl rfl rfl
theorem State.Reacts.setTiming {x : LinkTiming} : s.Reacts (t.setTiming ch x) := h.same rfl rfl rfl rfl
theorem State.Reacts.setOutputs {x : Outputs} : s.Reacts (t.setOutputs ch x) := h.same rfl rfl rfl rfl
theorem State.Reacts.setPending {x : List PendingValue} : s.Reacts (t.setPending ch x) := h.same rfl rfl rfl rfl
theorem State.Reacts.setStore {fs : FrameStore} (hs : (t.store.get ch).Freed fs) : s.Reacts (t.setStore ch fs) :=
  h.trans ⟨.setStore hs, .of_eq (fun _ => rfl) rfl⟩
theorem State.Reacts.setTables {x : TableStore} : s.Reacts (t.setTables x) := h.same rfl rfl rfl rfl

theorem State.Reacts.evaluate {k : FaultKind} {o : Option Nat} : s.Reacts (t.evaluate ch k o) :=
  h.trans (t.evaluate_reacts ch k o)

theorem State.Reacts.evaluateEach {k : FaultKind} {o : Channel → Option Nat} {chs : List Channel} :
    s.Reacts (t.evaluateEach k o chs) :=
  List.foldlRecOn chs _ h fun _ hu _ _ => hu.trans (State.evaluate_reacts _ _ _ _)

theorem State.Reacts.swapIfWaiting {x : TableId} : s.Reacts (t.swapIfWaiting x) := by
  rw [State.swapIfWaiting]
  split
  · rw [State.swapIn_eq]
    split
    · rw [State.evaluateTableCorruptFor_eq]
      exact h.setTables.evaluateEach
    · exact h.setTables
  · exact h

theorem State.Reacts.applyPending {cls : ParamClass} : s.Reacts (t.applyPending ch cls) := h.same rfl rfl rfl rfl

theorem State.Reacts.cameraBoundary : s.Reacts (t.cameraBoundary ch) :=
  h.applyPending.swapIfWaiting.swapIfWaiting

theorem State.Reacts.cameraBoundaryIfIdle : s.Reacts (t.cameraBoundaryIfIdle ch) := by
  rw [State.cameraBoundaryIfIdle]
  split
  · exact h
  · exact h.cameraBoundary

theorem State.Reacts.displayBoundary : s.Reacts (t.displayBoundary ch) := by
  have swapped := h.swapIfWaiting (x := .warpMesh ch) |>.swapIfWaiting (x := .toneCurves ch)
    |>.swapIfWaiting (x := .glareResponse ch) |>.swapIfWaiting (x := .overlaySet ch)
    |>.applyPending (ch := ch) (cls := .display)
  simp only [State.displayBoundary]
  split <;> split
  · exact swapped
  · exact swapped.setGlare
  · exact swapped.setGlare
  · exact swapped.setGlare.setGlare

theorem State.Reacts.tellMeshLost {x : TableId} : s.Reacts (t.tellMeshLost x) := by
  cases x
  case warpMesh ch =>
    rw [State.tellMeshLost, State.onMeshLost]
    split
    · exact h.trans (t.enterFallback_reacts ch)
    · exact h
  all_goals exact h

theorem State.Reacts.leaveQueue {x : TableId} : s.Reacts (t.leaveQueue x) := by
  rw [State.leaveQueue_eq]
  exact h.setTables

theorem State.Reacts.evaluateGenlock : s.Reacts (t.evaluateGenlock ch) := by
  simp only [State.evaluateGenlock]
  split
  · exact h
  · exact h.evaluate

theorem State.Reacts.evaluateFrameEnd {r : FrameRecord} :
    s.Reacts (t.evaluateFrameEnd ch r) := by
  simp only [State.evaluateFrameEnd]
  split <;> split <;> split
  · exact h.evaluate.evaluate.evaluate
  · exact h.evaluate.evaluate
  · exact h.evaluate.evaluate
  · exact h.evaluate
  · exact h.evaluate.evaluate
  · exact h.evaluate
  · exact h.evaluate
  · exact h

theorem State.Reacts.swapAtVerifyEnd {x : TableId} :
    s.Reacts (t.swapAtVerifyEnd x) := by
  cases x with
  | faultActions => exact h.swapIfWaiting
  | develop | defectList => exact h.cameraBoundaryIfIdle
  | warpMesh | toneCurves | glareResponse | overlaySet => exact h

theorem State.Reacts.endPass {x : Result} {p : List Byte} :
    s.Reacts (t.endPass ch x p) := by
  rw [State.endPass]
  split
  · exact h
  · exact (h.setReceiver (by rfl)).setLink

theorem State.Reacts.tickPass : s.Reacts (t.tickPass ch) := by
  rw [State.tickPass]
  split
  · exact h
  · split
    · exact h.setReceiver (by rfl)
    · exact h.endPass

theorem State.Reacts.tickCamera : s.Reacts (t.tickCamera ch) := by
  simp only [State.tickCamera]
  split
  · exact (h.setReceiver (by rfl)).evaluate
  · exact (h.setReceiver (by rfl)).evaluate

theorem State.Reacts.tickDisplay : s.Reacts (t.tickDisplay ch) := by
  simp only [State.tickDisplay]
  split
  · exact h.setLink.evaluate
  · exact h.setLink.evaluate

theorem State.Reacts.tickScrub : s.Reacts t.tickScrub := by
  rw [State.tickScrub]
  split
  · exact h
  · split
    · exact h
    · exact h.setTables

end

/-! ## The effects, one by one -/

section

variable (s : State) (ch : Channel)

theorem State.endLine_reacts : s.Reacts (s.endLine ch) :=
  (State.Reacts.refl s).setLink.setStore (FrameStore.freeReleased_freed (s.store.get ch))

theorem State.openFrame_reacts : s.Reacts (s.openFrame ch) := (s.endLine_reacts ch).setLink.displayBoundary

theorem State.endFrame_reacts : s.Reacts (s.endFrame ch) := by
  rw [State.endFrame]
  split
  · exact .refl s
  · exact (State.Reacts.refl s).setGlare.setLink.evaluateFrameEnd

theorem State.endVerify_reacts (t : TableId) (load : Load) (supplied : Check) (tag : Byte) :
    s.Reacts (s.endVerify t load supplied tag) := by
  have answered (x : Result) (p : List Byte) : s.Reacts (s.answerCommit load tag x p) :=
    (State.Reacts.refl s).setLink
  simp only [State.endVerify]
  split
  · exact (answered _ _).setTables.swapAtVerifyEnd.leaveQueue
  · exact (answered _ _).setTables.leaveQueue

theorem State.endScrub_reacts (st : ScrubStep) : s.Reacts (s.endScrub st) := by
  have done : s.Reacts s.scrubDone := (State.Reacts.refl s).setTables
  by_cases hm : st.finish (s.table st.table) = (s.table st.table).active.checksum
  · rw [State.endScrub_of_match hm]
    exact done.evaluateEach
  · rw [State.endScrub_of_mismatch hm]
    exact State.Reacts.tellMeshLost (.evaluateEach done.setTables)

theorem State.superviseTick_reacts : s.Reacts s.superviseTick :=
  (State.Reacts.of_eq rfl rfl rfl rfl : s.Reacts { s with lastTick := some s.counter }).tickCamera.tickCamera.tickDisplay
    |>.tickDisplay.tickScrub.tickPass.tickPass

theorem State.takeStatus_reacts (lux : BitVec 16) (f : Bool) : s.Reacts (s.takeStatus ch lux f) := by
  refine State.Reacts.evaluate ?_
  rw [State.nightReading]
  split
  · exact (State.Reacts.refl s).setLink.setGlare
  · exact (State.Reacts.refl s).setLink

theorem State.takeSignature_reacts (q : Seq) (v : Check) : s.Reacts (s.takeSignature ch q v) := by
  rw [State.takeSignature]
  split
  · exact (State.Reacts.refl s).evaluate
  · exact (State.Reacts.refl s).setLink.evaluate

theorem State.setTickSchedule_reacts (x : PartParams) : s.Reacts (s.setTickSchedule x) := by
  rw [State.setTickSchedule]
  split
  · exact .refl s
  · exact .of_eq rfl rfl rfl rfl

theorem State.stageValue_reacts (p : Param) (v : List Nat) : s.Reacts (s.stageValue ch p v) := by
  rw [State.stageValue]
  split
  · cases p with
    | tickBit | tickEdge => exact s.setTickSchedule_reacts _
    | _ => exact .of_eq rfl rfl rfl rfl
  · exact (State.Reacts.refl s).setPending.cameraBoundaryIfIdle
  · exact .of_eq rfl rfl rfl rfl

theorem State.serve_reacts : s.Reacts (s.serve ch) := by
  rw [State.serve]
  split
  · exact .refl s
  · exact .of_eq rfl rfl rfl rfl

theorem State.acceptRequest_reacts (r : Request) : s.Reacts (s.acceptRequest r) := by
  rw [State.acceptRequest]
  split
  · exact .of_eq rfl rfl rfl rfl
  · exact .of_eq rfl rfl rfl rfl

theorem State.startLine_reacts : s.Reacts (s.startLine ch) := by
  rw [State.startLine]
  split
  · exact .refl s
  · exact .of_eq rfl rfl rfl rfl

theorem State.sendHeader_reacts : s.Reacts (s.sendHeader ch) := by
  rw [State.sendHeader]
  split
  · exact .refl s
  · exact .of_eq rfl rfl rfl rfl

theorem State.sendAnswer_reacts (n : Nat) (b : Bool) : s.Reacts (s.sendAnswer ch n b) := by
  simp only [State.sendAnswer]
  split
  · exact .refl s
  · exact .of_eq rfl rfl rfl rfl

theorem State.beginLines_reacts : s.Reacts (s.beginLines ch) := by
  simp only [State.beginLines]
  split
  · exact .refl s
  · split <;> exact .of_eq rfl rfl rfl rfl

end

end Sys2Proof.Machine
end

section
/-! The effects that move buffers (R55). -/

namespace Sys2Proof.Machine

/-! ## One channel's buffers or phase -/

section

variable {s t : State} {ch : Channel}

theorem State.BuffersSound.setStore (h : s.BuffersSound) {fs : FrameStore} (hs : fs.Single)
    (hf : fs.number Buffer.isFilling = 1 → (s.receiver.get ch).assembly.inProgress = true) :
    (s.setStore ch fs).BuffersSound := by
  intro c
  rw [State.setStore_store, State.setStore_receiver, Pair.get_set_eq]
  split
  · subst_vars; exact ⟨hs, hf⟩
  · exact h c

theorem State.BuffersSound.setReceiver (h : s.BuffersSound) {x : Receiver}
    (hx : (s.store.get ch).number Buffer.isFilling = 1 → x.assembly.inProgress = true) :
    (s.setReceiver ch x).BuffersSound := by
  intro c
  rw [State.setReceiver_store, State.setReceiver_receiver, Pair.get_set_eq]
  split
  · subst_vars; exact ⟨(h _).1, hx⟩
  · exact h c

/-- R57: with no buffer FILLING the receiver may be in any phase. -/
theorem State.BuffersSound.setAssembly (h : s.BuffersSound) {a : Assembly}
    (hn : ∀ b, ((s.store.get ch).get b).isFilling = false) : (s.setAssembly ch a).BuffersSound :=
  h.setReceiver fun hone => by
    rw [FrameStore.number_eq_zero hn] at hone
    cases hone

/-- R56: outside a frame in progress no buffer is FILLING. -/
theorem State.BuffersSound.not_filling (h : s.BuffersSound) (hp : (s.receiver.get ch).assembly.inProgress = false)
    (b : BufferId) : ((s.store.get ch).get b).isFilling = false := by
  obtain ⟨⟨filling, -, -⟩, progress⟩ := h ch
  refine Bool.eq_false_of_not_eq_true fun hb => ?_
  have one : (s.store.get ch).number Buffer.isFilling = 1 :=
    FrameStore.number_eq_one hb fun c hc =>
      Bool.eq_false_of_not_eq_true fun hc' => hc (FrameStore.eq_of_number_le_one filling hb hc')
  exact Bool.false_ne_true (hp.symm.trans (progress one))

theorem State.BuffersSound.discardBuffer (h : s.BuffersSound) : (s.discardBuffer ch).BuffersSound :=
  h.onlyFrees (.setStore (FrameStore.discard_freed _))

/-- R45: rows join the FILLING buffer of a frame in progress. -/
theorem State.BuffersSound.extendTo (h : s.BuffersSound) (hp : (s.receiver.get ch).assembly.inProgress = true)
    (f : FrameFacts) (n : Nat) : (s.setStore ch ((s.store.get ch).extendTo f n)).BuffersSound :=
  h.setStore ((h ch).1.extendTo f n) fun _ => hp

end

/-! ## The camera receiver (R36 to R40) -/

section

variable {s : State} {ch : Channel} (h : s.BuffersSound)
include h

theorem State.BuffersSound.malformed {d : Nat} {a : Assembly} : (s.malformed ch d a).BuffersSound := by
  have discarded : ((s.evaluate ch .frameMalformed (some d)).discardBuffer ch).BuffersSound :=
    (h.reacts (s.evaluate_reacts ch _ _)).discardBuffer
  have dropped : (s.dropped ch d a).BuffersSound := discarded.setAssembly fun b => by
    rw [State.discardBuffer, State.setStore_store, Pair.get_set]
    exact FrameStore.discard_not_filling _ b
  exact dropped.reacts (State.Reacts.refl _).cameraBoundary

theorem State.BuffersSound.beginFrame (hn : ∀ b, ((s.store.get ch).get b).isFilling = false) :
    (s.beginFrame ch).BuffersSound := by
  intro c
  by_cases hc : c = ch
  · subst hc
    rw [State.beginFrame_store, State.beginFrame_receiver]
    exact ⟨(h c).1.fill hn _ _ _, fun _ => rfl⟩
  · rw [State.beginFrame_eq, State.setReceiver_store, State.setReceiver_receiver, State.setStore_store,
      State.setStore_receiver, Pair.get_set_other _ _ hc, Pair.get_set_other _ _ hc]
    exact h c

theorem State.BuffersSound.takeFrameStart : (s.takeFrameStart ch).BuffersSound := by
  cases hp : (s.receiver.get ch).assembly.inProgress with
  | true =>
    rw [State.takeFrameStart_of_inProgress hp]
    exact h.malformed.beginFrame (s.malformed_not_filling ch 6 .idle)
  | false =>
    rw [State.takeFrameStart_of_closed hp]
    exact h.beginFrame (h.not_filling hp)

theorem State.BuffersSound.takeEmbedded (fields : Option (BitVec 16 × Byte)) : (s.takeEmbedded ch fields).BuffersSound := by
  unfold State.takeEmbedded
  split
  · exact h.setReceiver fun _ => rfl
  · exact h.malformed
  · exact h.malformed
  · exact h.malformed
  · exact h
  · exact h

theorem State.BuffersSound.takeLine (fields : Option (Nat × List Nat)) : (s.takeLine ch fields).BuffersSound := by
  unfold State.takeLine
  split
  · exact h.malformed
  · exact h.malformed
  · exact h.malformed
  case h_4 f counter status index pixels ha =>
    have progress : (s.receiver.get ch).assembly.inProgress = true := by rw [ha]; rfl
    split
    · exact h.malformed
    · exact (h.extendTo progress _ _).setReceiver fun _ => rfl
  · exact h
  · exact h

/-- R39, R42: a good frame's buffer is READY or FREE before the receiver is IDLE. -/
theorem State.BuffersSound.goodFrame (hp : (s.receiver.get ch).assembly.inProgress = true) (f : FrameFacts)
    (counter : BitVec 16) (status : Byte) : (s.goodFrame ch f counter status).BuffersSound := by
  have progress : ((s.evaluate ch .frameMalformed none).receiver.get ch).assembly.inProgress = true := by
    rw [(s.evaluate_evalFrame ch _ _).receiver]
    exact hp
  have completed : (s.completed ch f).BuffersSound :=
    (h.reacts (s.evaluate_reacts ch _ _)).extendTo progress f f.height
  have counted (u : State) (v : Option Nat × Option (Option Nat) × Bool) : u.Reacts (u.countChecked ch v) := by
    simp only [State.countChecked]
    split
    · exact (State.Reacts.refl u).evaluate.evaluate
    · exact (State.Reacts.refl u).evaluate
  have checked : (s.goodChecked ch f counter status).BuffersSound :=
    completed.reacts ((counted _ _).setReceiver (by rfl)).evaluate
  rw [State.goodFrame_eq]
  refine State.BuffersSound.reacts ?_ (State.Reacts.refl (s.goodClosed ch f counter status)).cameraBoundary
  have fate (fs : FrameStore) (hs : fs.Single) (hf : ∀ b, (fs.get b).isFilling = false) :
      (((s.goodChecked ch f counter status).setStore ch fs).setAssembly ch .idle).BuffersSound := by
    refine State.BuffersSound.setAssembly (checked.setStore hs fun hone => ?_) fun b => ?_
    · rw [FrameStore.number_eq_zero hf] at hone
      cases hone
    · rw [State.setStore_store, Pair.get_set]
      exact hf b
  have single := (checked ch).1
  rw [State.goodClosed]
  split
  · exact fate _ (single.complete counter) (single.complete_not_filling counter)
  · exact fate _ (single.freed (FrameStore.discard_freed _)) (FrameStore.discard_not_filling _)

theorem State.BuffersSound.takeFrameEnd (fields : Option Nat) : (s.takeFrameEnd ch fields).BuffersSound := by
  have timed : s.Reacts (s.frameEndTime ch) := by
    rw [State.frameEndTime]
    split
    · exact .refl s
    · exact (State.Reacts.refl s).setTiming
  have ended := h.reacts timed
  unfold State.takeFrameEnd
  split
  · exact ended.malformed
  · exact ended.malformed
  · exact ended.malformed
  · split
    case isTrue f counter status _ ha _ =>
      exact ended.goodFrame (by rw [timed.assembly, ha]; rfl) f counter status
    case isFalse => exact ended.malformed
  case h_5 ha => exact ended.setAssembly (ended.not_filling (by rw [timed.assembly, ha]; rfl))
  · exact h

/-! ## The display frame start (R62) -/

theorem State.BuffersSound.takeBuffer : (s.takeBuffer ch).BuffersSound :=
  h.setStore (h ch).1.take fun hone =>
    (h ch).2 (le_antisymm (h ch).1.1 (hone ▸ FrameStore.take_filling_le _))

theorem State.BuffersSound.repeatBuffer : (s.repeatBuffer ch).BuffersSound :=
  h.setStore (h ch).1.repeatShown fun hone =>
    (h ch).2 (le_antisymm (h ch).1.1 (hone ▸ FrameStore.repeatShown_filling_le _))

theorem State.BuffersSound.setViewState (v : ViewState) (n : Nat) : (s.setViewState ch v n).BuffersSound :=
  h.onlyFrees (.of_eq rfl rfl)

theorem State.BuffersSound.decide : (s.decide ch).1.BuffersSound := by
  simp only [State.decide]
  split
  · split
    · exact h.takeBuffer
    · exact h.repeatBuffer
  · split
    · exact (h.setViewState _ _).takeBuffer
    · split
      · exact h.reacts (s.enterFallback_reacts ch)
      · exact (h.setViewState _ _).repeatBuffer
  · split
    · exact (h.setViewState _ _).takeBuffer
    · exact h
  · split
    · exact (h.setViewState _ _).takeBuffer
    · exact h

theorem State.BuffersSound.decideFrame : (s.decideFrame ch).BuffersSound := by
  have filled : ((s.decide ch).1.fillRecord ch (s.decide ch).2).BuffersSound := h.decide.onlyFrees (.of_eq rfl rfl)
  exact filled.reacts (State.beginLines_reacts _ ch)

theorem State.BuffersSound.startFrame : (s.startFrame ch).BuffersSound := by
  unfold State.startFrame State.decideAndEvaluate
  extract_lets opened timed first drawn
  have begun : timed.BuffersSound := h.reacts (s.openFrame_reacts ch).setTiming
  have counted : drawn.BuffersSound := begun.onlyFrees (.of_eq rfl rfl)
  split
  · exact begun.decideFrame
  · split
    · exact (counted.reacts (State.Reacts.refl drawn).evaluateGenlock).decideFrame
    · exact counted.decideFrame.reacts (State.Reacts.refl _).evaluateGenlock

end

end Sys2Proof.Machine
end

section
/-! VIEW-RESTART field by field (R70, R71), and the step lemma of R55. -/

namespace Sys2Proof.Machine

/-! ## The end of a pass (R51 to R53) -/

section

variable (s : State) (ch : Channel) (x : Result) (p : List Byte)

/-- R51: a pass that ends touches the receivers and the links alone. -/
theorem State.endPass_frame : s.endPass ch x p =
    { s with receiver := (s.endPass ch x p).receiver, link := (s.endPass ch x p).link } := by
  rw [State.endPass]
  split <;> rfl

@[simp] theorem State.endPass_store : (s.endPass ch x p).store = s.store :=
  (congrArg State.store (s.endPass_frame ch x p) :)
@[simp] theorem State.endPass_view : (s.endPass ch x p).view = s.view :=
  (congrArg State.view (s.endPass_frame ch x p) :)
@[simp] theorem State.endPass_glare : (s.endPass ch x p).glare = s.glare :=
  (congrArg State.glare (s.endPass_frame ch x p) :)
@[simp] theorem State.endPass_timing : (s.endPass ch x p).timing = s.timing :=
  (congrArg State.timing (s.endPass_frame ch x p) :)
@[simp] theorem State.endPass_entries : (s.endPass ch x p).entries = s.entries :=
  (congrArg State.entries (s.endPass_frame ch x p) :)
@[simp] theorem State.endPass_params : (s.endPass ch x p).params = s.params :=
  (congrArg State.params (s.endPass_frame ch x p) :)

theorem State.endPass_receiver :
    (s.endPass ch x p).receiver = s.receiver.set ch { s.receiver.get ch with pass := .idle } := by
  rw [State.endPass]
  split
  case h_1 hidle => rw [← hidle, Pair.set_get]
  case h_2 => rfl

/-- R53: a pass that ends adds to answer queues alone. -/
theorem State.endPass_link (c : Channel) : (s.endPass ch x p).link.get c =
    { s.link.get c with answers := ((s.endPass ch x p).link.get c).answers } := by
  rw [State.endPass]
  split
  · rfl
  · rw [State.answer, State.setLink_link, Pair.get_set_eq]
    split
    · subst_vars; rfl
    · rfl

end

/-! ## The restart (R70, R71, R193) -/

/-- R70, R71, R193: the channel with its buffers, view, tile map, entries and signatures begun afresh. -/
def State.begunAfresh (u : State) (ch : Channel) : State :=
  let u := u.setStore ch ((u.store.get ch).freeWhere fun b => !b.isShown)
  let u := ((u.releaseShown ch).setViewState ch .start 0).mapReset ch
  let u := u.setEntries ch ((u.entries.get ch).map FaultEntry.restart)
  u.setLink ch { u.link.get ch with expected := [] }

section

variable (u : State) (ch : Channel)

@[simp] theorem State.begunAfresh_receiver : (u.begunAfresh ch).receiver = u.receiver := by
  simp [State.begunAfresh, State.releaseShown, State.setViewState, State.mapReset]
@[simp] theorem State.begunAfresh_timing : (u.begunAfresh ch).timing = u.timing := by
  simp [State.begunAfresh, State.releaseShown, State.setViewState, State.mapReset]
@[simp] theorem State.begunAfresh_params : (u.begunAfresh ch).params = u.params := by
  simp [State.begunAfresh, State.releaseShown, State.setViewState, State.mapReset]
@[simp] theorem State.begunAfresh_glare :
    (u.begunAfresh ch).glare = u.glare.set ch (u.glare.get ch).mapReset := by
  simp [State.begunAfresh, State.releaseShown, State.setViewState, State.mapReset]
@[simp] theorem State.begunAfresh_entries :
    (u.begunAfresh ch).entries = u.entries.set ch ((u.entries.get ch).map FaultEntry.restart) := by
  simp [State.begunAfresh, State.releaseShown, State.setViewState, State.mapReset]
@[simp] theorem State.begunAfresh_link :
    (u.begunAfresh ch).link = u.link.set ch { u.link.get ch with expected := [] } := by
  simp [State.begunAfresh, State.releaseShown, State.setViewState, State.mapReset]
@[simp] theorem State.begunAfresh_view :
    (u.begunAfresh ch).view = u.view.set ch { u.view.get ch with state := .start, holdTimer := 0 } := by
  simp [State.begunAfresh, State.releaseShown, State.setViewState, State.mapReset]
@[simp] theorem State.begunAfresh_store : (u.begunAfresh ch).store = u.store.set ch
    (((u.store.get ch).freeWhere fun b => !b.isShown).release (u.link.get ch).frame.lineInProgress.isSome) := by
  simp [State.begunAfresh, State.releaseShown, State.setViewState, State.mapReset]

end

section

variable (s : State) (ch : Channel)

/-- R53, R70, R170: after the parts begun afresh, the pass is answered, the tracker put back and the record amended. -/
theorem State.restart_eq : ∃ u, u = ((s.restartReceiver ch).begunAfresh ch).endPass ch .aborted [] ∧
    s.restart ch = (u.setTiming ch ((u.timing.get ch).restart (u.params.get ch))).amendRecord ch .start :=
  ⟨_, rfl, rfl⟩

theorem State.restartReceiver_receiver : (s.restartReceiver ch).receiver =
    s.receiver.set ch { s.receiver.get ch with assembly := .idle, reference := none } :=
  (State.cameraBoundary_swapFrame _ ch).receiver

theorem State.restartReceiver_link : (s.restartReceiver ch).link = s.link := (State.cameraBoundary_swapFrame _ ch).link

/-- R54, R53: the receiver is IDLE without a reference, and no pass waits. -/
theorem State.restart_receiver : (s.restart ch).receiver =
    s.receiver.set ch { s.receiver.get ch with assembly := .idle, reference := none, pass := .idle } := by
  obtain ⟨u, hu, heq⟩ := s.restart_eq ch
  rw [heq, (State.amendRecord_evalFrame _ ch _).receiver, State.setTiming_receiver, hu, State.endPass_receiver,
    State.begunAfresh_receiver, State.restartReceiver_receiver, Pair.get_set, Pair.set_set]

/-- R70: the buffers that are not SHOWN are FREE, and the SHOWN one is released. -/
theorem State.restart_store : (s.restart ch).store = (s.restartReceiver ch).store.set ch
    ((((s.restartReceiver ch).store.get ch).freeWhere fun b => !b.isShown).release
      (s.link.get ch).frame.lineInProgress.isSome) := by
  obtain ⟨u, hu, heq⟩ := s.restart_eq ch
  rw [heq, State.amendRecord_store, State.setTiming_store, hu, State.endPass_store, State.begunAfresh_store,
    State.restartReceiver_link]

/-- R70, R65: the view is in START and its record amended. -/
theorem State.restart_view : ∃ c : FrameRecord → BitVec 16, (s.restart ch).view.get ch =
    { state := .start, holdTimer := 0
      record := ((s.restartReceiver ch).view.get ch).record.map fun r => { r with
        view := .start, buffer := none, fresh := false, mesh := none, conditions := c r } } := by
  obtain ⟨u, hu, heq⟩ := s.restart_eq ch
  rw [heq, State.amendRecord_view, State.setTiming_view, hu, State.endPass_view, State.begunAfresh_view, Pair.get_set]
  exact ⟨_, rfl⟩

theorem State.restart_view_other {c : Channel} (hc : c ≠ ch) :
    (s.restart ch).view.get c = (s.restartReceiver ch).view.get c := by
  obtain ⟨u, hu, heq⟩ := s.restart_eq ch
  rw [heq, ((State.amendRecord_evalFrame _ ch _).other c hc).2.1, State.setTiming_view, hu, State.endPass_view,
    State.begunAfresh_view, Pair.get_set_other _ _ hc]

/-- R100: the tile map is reset. -/
theorem State.restart_glare : (s.restart ch).glare =
    (s.restartReceiver ch).glare.set ch ((s.restartReceiver ch).glare.get ch).mapReset := by
  obtain ⟨u, hu, heq⟩ := s.restart_eq ch
  rw [heq, State.amendRecord_glare, State.setTiming_glare, hu, State.endPass_glare, State.begunAfresh_glare]

theorem State.restart_entries : (s.restart ch).entries = (s.restartReceiver ch).entries.set ch
    (((s.restartReceiver ch).entries.get ch).map FaultEntry.restart) := by
  obtain ⟨u, hu, heq⟩ := s.restart_eq ch
  rw [heq, State.amendRecord_entries, State.setTiming_entries, hu, State.endPass_entries, State.begunAfresh_entries]

end

/-! ## Buffers through a restart (R70) -/

section

variable {s : State} {ch : Channel}

/-- R70: a restart leaves a buffer SHOWN at most. -/
theorem State.restart_get (b : BufferId) : ((s.restart ch).store.get ch).get b = .free ∨
    (((s.restartReceiver ch).store.get ch).get b).isShown = true ∧
      ((s.restart ch).store.get ch).get b = ((s.restartReceiver ch).store.get ch).get b := by
  rw [State.restart_store, Pair.get_set]
  rcases FrameStore.release_freed (((s.restartReceiver ch).store.get ch).freeWhere fun b => !b.isShown)
    (s.link.get ch).frame.lineInProgress b with hstood | hfree
  · rw [hstood]
    have freed := ((s.restartReceiver ch).store.get ch).get_freeWhere (fun b => !b.isShown) b
    cases hb : (((s.restartReceiver ch).store.get ch).get b).isShown with
    | true => exact .inr ⟨rfl, freed.trans (by rw [hb]; rfl)⟩
    | false => exact .inl (freed.trans (by rw [hb]; rfl))
  · exact .inl hfree

theorem State.restart_freed : ((s.restartReceiver ch).store.get ch).Freed ((s.restart ch).store.get ch) :=
  fun b => (State.restart_get b).elim .inr fun h => .inl h.2

theorem State.BuffersSound.restart (h : s.BuffersSound) : (s.restart ch).BuffersSound := by
  intro c
  have bounded : (s.store.get c).Freed ((s.restartReceiver ch).store.get c) :=
    ((State.Reacts.refl (s.setReceiver ch { s.receiver.get ch with
      assembly := .idle, reference := none })).cameraBoundary (ch := ch)).freed c
  by_cases hc : c = ch
  · subst hc
    refine ⟨((h c).1.freed bounded).freed State.restart_freed, fun hone => ?_⟩
    rw [FrameStore.number_eq_zero fun b => ?_] at hone
    · cases hone
    · rcases State.restart_get (s := s) (ch := c) b with hfree | ⟨hshown, hstood⟩
      · rw [hfree]; rfl
      · rw [hstood]
        exact Buffer.not_filling_of_shown hshown
  · rw [State.restart_store, State.restart_receiver, Pair.get_set_other _ _ hc, Pair.get_set_other _ _ hc]
    have frames : (s.restartReceiver ch).store.get c = s.store.get c :=
      ((State.cameraBoundary_swapFrame _ ch).other c hc).2.2.1
    rw [frames]
    exact h c

end

/-! ## The step lemma (R55) -/

theorem buffersSound_reset : (State.reset).BuffersSound := by
  intro ch
  cases ch <;> exact ⟨⟨by decide, by decide, by decide⟩, by decide⟩

theorem State.BuffersSound.of_reset {s : State} (hr : s.receiver = State.reset.receiver)
    (hs : s.store = State.reset.store) : s.BuffersSound :=
  buffersSound_reset.onlyFrees (.of_eq hr hs)

/-- R55: every effect of the part keeps the buffers single. -/
theorem buffersSound_kept : State.Kept State.BuffersSound where
  frameStart _ _ h := h.takeFrameStart
  embedded _ _ f h := h.takeEmbedded f
  line _ _ f h := h.takeLine f
  frameEnd _ _ f h := h.takeFrameEnd f
  endPass _ _ _ _ h := h.reacts (State.Reacts.refl _).endPass
  status s ch lux f h := h.reacts (s.takeStatus_reacts ch lux f)
  signature s ch q v h := h.reacts (s.takeSignature_reacts ch q v)
  accept s r h := h.reacts (s.acceptRequest_reacts r)
  discard _ _ h := h.onlyFrees (.of_eq rfl rfl)
  serve s ch h _ := h.reacts (s.serve_reacts ch)
  finish _ _ _ _ h _ := h.onlyFrees (.of_eq rfl rfl)
  stage s _ ch p h _ _ := h.reacts (s.stageValue_reacts ch p _)
  setStaged _ _ _ h _ _ := h.onlyFrees (.of_eq rfl rfl)
  loadData _ _ _ _ h _ _ _ := h.onlyFrees (.of_eq rfl rfl)
  commit _ _ _ _ h _ _ _ := h.onlyFrees (.of_eq rfl rfl)
  abandonVerify _ _ _ _ _ h _ := h.reacts (State.Reacts.refl _).setLink.setTables.leaveQueue
  abandon _ _ h _ := h.onlyFrees (.of_eq rfl rfl)
  lock _ _ _ h := h.onlyFrees (.of_eq rfl rfl)
  acknowledge _ h := h.onlyFrees (.of_eq rfl rfl)
  clear _ _ h := h.onlyFrees (.of_eq rfl rfl)
  restart _ _ h := h.restart
  trackerOff _ _ h _ := h.onlyFrees (.of_eq rfl rfl)
  trackerOn _ _ h := h.onlyFrees (.of_eq rfl rfl)
  bandwidth _ _ _ h := h.onlyFrees (.of_eq rfl rfl)
  selectTracked _ _ h _ := h.onlyFrees (.of_eq rfl rfl)
  selectInternal _ _ h := h.onlyFrees (.of_eq rfl rfl)
  sendPass _ _ _ h _ _ := h.reacts (((State.Reacts.refl _).setReceiver (by rfl)).same rfl rfl rfl rfl)
  writeCoverage _ _ _ h _ _ _ := h.onlyFrees (.of_eq rfl rfl)
  fixCoverage _ _ _ h _ := h.onlyFrees (.of_eq rfl rfl)
  requestReset _ _ h := h.onlyFrees (.of_eq rfl rfl)
  tick s h := h.reacts s.superviseTick_reacts
  verifyStart _ _ _ h _ _ := h.onlyFrees (.of_eq rfl rfl)
  verifyEnd s t load supplied tag h _ _ := h.reacts (s.endVerify_reacts t load supplied tag)
  scrubEnd s st h _ := h.reacts (s.endScrub_reacts st)
  startFrame _ _ h := h.startFrame
  holdLimit s ch h := h.reacts (s.enterFallback_reacts ch)
  startLine s ch h := h.reacts (s.startLine_reacts ch)
  endLine s ch h := h.reacts (s.endLine_reacts ch)
  endFrame s ch h := h.reacts (s.endFrame_reacts ch)
  header s ch h := h.reacts (s.sendHeader_reacts ch)
  sendAnswer s ch n b h := h.reacts (s.sendAnswer_reacts ch n b)
  areaEnd _ _ h := h.onlyFrees (.of_eq rfl rfl)
  referenceStart _ _ h := h.onlyFrees (.of_eq rfl rfl)
  holdover _ _ h := h.onlyFrees (.of_eq rfl rfl)
  manageReset _ _ := .of_reset rfl rfl
  queue _ _ _ h := h.onlyFrees (.of_eq rfl rfl)
  passTime _ h := h.onlyFrees (.of_eq rfl rfl)
  beginReset _ _ _ := .of_reset rfl rfl
  completeReset _ _ _ _ := .of_reset rfl rfl
  hold _ _ h := h.onlyFrees (.of_eq rfl rfl)

/-- Settles O50: by the induction over the effects of the part. -/
theorem stepKeepsBuffersSingle : Obligations.StepKeepsBuffersSingle := fun _ _ h hs => buffersSound_kept.step h hs

end Sys2Proof.Machine
end

section
/-! The LIVE views under the effects of the part (R61, R182), and their step lemma. -/

namespace Sys2Proof.Machine

/-! ## Meshes that stay VALID -/

/-- From `s` to `t` every VALID warp mesh stays VALID. -/
def State.MeshesStand (s t : State) : Prop := ∀ ch, s.meshValid ch = true → t.meshValid ch = true

theorem State.meshValid_congr {s t : State} {ch : Channel}
    (h : (t.table (.warpMesh ch)).active = (s.table (.warpMesh ch)).active) : t.meshValid ch = s.meshValid ch := by
  rw [State.meshValid, State.meshValid, State.isValid, State.isValid, h]

theorem State.MeshesStand.of_active {s t : State} (h : ∀ x, (t.table x).active = (s.table x).active) :
    s.MeshesStand t := fun ch hs => (State.meshValid_congr (h (.warpMesh ch))).trans hs

/-- R20: what a swap leaves is VALID. -/
theorem TableStore.Swaps.valid {ts us : TableStore} (h : TableStore.Swaps ts us) {x : TableId}
    (hx : (ts.get x).active.state = .valid) : (us.get x).active.state = .valid := by
  induction h with
  | refl => exact hx
  | swap _ _ ih =>
    rw [TableStore.swapIn_get]
    split
    · rfl
    · exact ih

theorem State.SwapsOnly.meshesStand {s t : State} (h : s.SwapsOnly t) : s.MeshesStand t :=
  fun _ hs => beq_iff_eq.mpr (h.tables.valid (beq_iff_eq.mp hs))

theorem State.MeshesStand.trans {s t u : State} (h : s.MeshesStand t) (k : t.MeshesStand u) : s.MeshesStand u :=
  fun ch hs => k ch (h ch hs)

/-- R61: where LIVE views stand and meshes stay VALID, the promise of R61 and R182 is kept. -/
theorem State.ViewsSound.stands {s t : State} (h : s.ViewsSound) (k : s.LiveStands t) (m : s.MeshesStand t) :
    t.ViewsSound := by
  intro ch hl
  obtain ⟨mesh, free⟩ := h ch (k.live ch hl)
  exact ⟨m ch mesh, k.free ch hl free⟩

/-- What neither moves a view nor changes an entry or a mesh keeps the promise. -/
theorem State.ViewsSound.same {s t : State} (h : s.ViewsSound) (hv : t.view = s.view) (he : t.entries = s.entries)
    (ht : ∀ x, (t.table x).active = (s.table x).active) : t.ViewsSound :=
  h.stands (.of_eq (fun _ => by rw [hv]) he) (.of_active ht)

/-! ## The camera receiver -/

section

variable {s t : State} {ch : Channel} (h : s.LiveStands t)
include h

theorem State.LiveStands.reacts {u : State} (k : t.Reacts u) : s.LiveStands u := h.trans k.toLiveStands
theorem State.LiveStands.setStore {fs : FrameStore} : s.LiveStands (t.setStore ch fs) := h.trans (.of_eq (fun _ => rfl) rfl)
theorem State.LiveStands.setReceiver {x : Receiver} : s.LiveStands (t.setReceiver ch x) :=
  h.trans (.of_eq (fun _ => rfl) rfl)
theorem State.LiveStands.evaluate {k : FaultKind} {o : Option Nat} : s.LiveStands (t.evaluate ch k o) :=
  h.reacts (t.evaluate_reacts ch k o)
theorem State.LiveStands.cameraBoundary : s.LiveStands (t.cameraBoundary ch) :=
  h.reacts (State.Reacts.refl t).cameraBoundary

theorem State.LiveStands.malformed {d : Nat} {a : Assembly} : s.LiveStands (t.malformed ch d a) :=
  h.evaluate.setStore.setReceiver.cameraBoundary

theorem State.LiveStands.goodFrame {f : FrameFacts} {counter : BitVec 16} {status : Byte} :
    s.LiveStands (t.goodFrame ch f counter status) := by
  have counted {u : State} (hu : s.LiveStands u) (v : Option Nat × Option (Option Nat) × Bool) :
      s.LiveStands (u.countChecked ch v) := by
    simp only [State.countChecked]
    split
    · exact hu.evaluate.evaluate
    · exact hu.evaluate
  have checked : s.LiveStands (t.goodChecked ch f counter status) := (counted h.evaluate.setStore _).setReceiver.evaluate
  rw [State.goodFrame_eq]
  exact checked.setStore.setReceiver.cameraBoundary

end

section

variable (s : State) (ch : Channel)

theorem State.takeFrameStart_liveStands : s.LiveStands (s.takeFrameStart ch) := by
  have refl := (State.Reacts.refl s).toLiveStands
  simp only [State.takeFrameStart, State.beginFrame_eq]
  split
  · exact refl.malformed.setStore.setReceiver
  · exact refl.setStore.setReceiver

theorem State.takeEmbedded_liveStands (fields : Option (BitVec 16 × Byte)) : s.LiveStands (s.takeEmbedded ch fields) := by
  have refl := (State.Reacts.refl s).toLiveStands
  unfold State.takeEmbedded
  split
  · exact refl.setReceiver
  · exact refl.malformed
  · exact refl.malformed
  · exact refl.malformed
  · exact refl
  · exact refl

theorem State.takeLine_liveStands (fields : Option (Nat × List Nat)) : s.LiveStands (s.takeLine ch fields) := by
  have refl := (State.Reacts.refl s).toLiveStands
  unfold State.takeLine
  split
  · exact refl.malformed
  · exact refl.malformed
  · exact refl.malformed
  · split
    · exact refl.malformed
    · exact refl.setStore.setReceiver
  · exact refl
  · exact refl

theorem State.takeFrameEnd_liveStands (fields : Option Nat) : s.LiveStands (s.takeFrameEnd ch fields) := by
  have refl := (State.Reacts.refl s).toLiveStands
  have timed : s.LiveStands (s.frameEndTime ch) := by
    rw [State.frameEndTime]
    split
    · exact refl
    · exact ((State.Reacts.refl s).setTiming).toLiveStands
  unfold State.takeFrameEnd
  split
  · exact timed.malformed
  · exact timed.malformed
  · exact timed.malformed
  · split
    · exact timed.goodFrame
    · exact timed.malformed
  · exact timed.setReceiver
  · exact refl

/-! ## Entries that are cleared (R185, R188, R193) -/

theorem FaultEntries.map_get (f : FaultEntry → FaultEntry) (es : FaultEntries) (k : FaultKind) :
    (es.map f).get k = f (es.get k) := by cases k <;> rfl

/-- A change of one channel's entries that makes none withhold. -/
theorem State.setEntries_map_liveStands {f : FaultEntry → FaultEntry}
    (hf : ∀ e, e.withholds = false → (f e).withholds = false) :
    s.LiveStands (s.setEntries ch ((s.entries.get ch).map f)) := by
  refine .of_channel (ch := ch) (fun hl => ⟨hl, fun hs => ?_⟩) fun c hc => ⟨rfl, Pair.get_set_other _ _ hc⟩
  rw [State.withheld_eq_false_iff] at hs ⊢
  intro k
  rw [State.entry, State.setEntries_entries, Pair.get_set, FaultEntries.map_get]
  exact hf _ (hs k)

theorem FaultEntry.clearLatched_withholds (e : FaultEntry) (h : e.withholds = false) : e.clearLatched.withholds = false := by
  rw [FaultEntry.clearLatched]
  split
  · rfl
  · exact h

theorem State.restart_liveStands : s.LiveStands (s.restart ch) := by
  refine .of_channel (ch := ch) (fun hl => ?_) fun c hc => ?_
  · obtain ⟨c, hc⟩ := s.restart_view ch
    rw [hc] at hl
    cases hl
  · obtain ⟨entries, view, -⟩ := (State.cameraBoundary_swapFrame
      (s.setReceiver ch { s.receiver.get ch with assembly := .idle, reference := none }) ch).other c hc
    rw [s.restart_view_other ch hc, s.restart_entries, Pair.get_set_other _ _ hc]
    exact ⟨view, entries⟩

end

/-! ## The display frame start (R62) -/

section

variable {s : State} {ch : Channel} (h : s.ViewsSound)
include h

theorem State.ViewsSound.reacts {t : State} (k : s.Reacts t) (m : s.SwapsOnly t) : t.ViewsSound :=
  h.stands k.toLiveStands m.meshesStand

/-- R62, step 1: a view goes LIVE with a VALID mesh and no entry withholding it. -/
theorem State.ViewsSound.goLive (hm : s.mayGoLive ch = true) : ((s.setViewState ch .live 0).takeBuffer ch).ViewsSound := by
  simp only [State.mayGoLive, Bool.and_eq_true, Bool.not_eq_true'] at hm
  obtain ⟨⟨mesh, free⟩, -⟩ := hm
  intro c hl
  by_cases hc : c = ch
  · subst hc
    exact ⟨mesh, free⟩
  · have stood : (s.setViewState ch .live 0).view.get c = s.view.get c := Pair.get_set_other _ _ hc
    exact h c (stood ▸ hl)

theorem State.ViewsSound.decide : (s.decide ch).1.ViewsSound := by
  simp only [State.decide]
  split
  · split
    · exact h.same rfl rfl fun _ => rfl
    · exact h.same rfl rfl fun _ => rfl
  · split
    · exact h.goLive ‹_›
    · split
      · exact h.reacts (s.enterFallback_reacts ch) (s.enterFallback_evalFrame ch).swapsOnly
      · refine h.stands (.of_channel (ch := ch) (fun hl => ?_) fun c hc => ⟨Pair.get_set_other _ _ hc, rfl⟩)
          (.of_active fun _ => rfl)
        have held : ((s.setViewState ch .hold ((s.view.get ch).holdTimer + 1)).view.get ch).state = .hold :=
          congrArg ViewControl.state (Pair.get_set _ ch _)
        cases held.symm.trans hl
  · split
    · exact h.goLive ‹_›
    · exact h
  · split
    · exact h.goLive ‹_›
    · exact h

theorem State.ViewsSound.fillRecord {fresh : Bool} : (s.fillRecord ch fresh).ViewsSound := by
  refine h.stands (.of_eq (fun c => ?_) rfl) (.of_active fun _ => rfl)
  simp only [State.fillRecord, State.setView_view, Pair.get_set_eq]
  split
  · subst_vars; rfl
  · rfl

theorem State.ViewsSound.decideFrame : (s.decideFrame ch).ViewsSound :=
  State.ViewsSound.reacts (h.decide.fillRecord (fresh := (s.decide ch).2)) (State.beginLines_reacts _ ch)
    (State.beginLines_swapsOnly _ ch)

theorem State.ViewsSound.startFrame : (s.startFrame ch).ViewsSound := by
  unfold State.startFrame State.decideAndEvaluate
  extract_lets opened timed first drawn
  have begun : timed.ViewsSound := h.reacts (s.openFrame_reacts ch).setTiming
    (State.SwapsOnly.refl s).setLink.setStore.setLink.displayBoundary.setTiming
  have counted : drawn.ViewsSound := begun.same rfl rfl fun _ => rfl
  split
  · exact begun.decideFrame
  · split
    · exact (counted.reacts (State.Reacts.refl drawn).evaluateGenlock (drawn.evaluateGenlock_swapsOnly ch)).decideFrame
    · exact counted.decideFrame.reacts (State.Reacts.refl _).evaluateGenlock (State.evaluateGenlock_swapsOnly _ ch)

end

/-! ## The table engine (R18, R25, R26) -/

/-- R63, R66: a view whose mesh is lost is not LIVE. -/
theorem State.onMeshLost_not_live (u : State) (ch : Channel) : ((u.onMeshLost ch).view.get ch).state ≠ .live := by
  rw [State.onMeshLost]
  split
  case isTrue =>
    rw [State.enterFallback_state]
    exact nofun
  case isFalse hno => exact fun hl => hno (.inl hl)

theorem State.tickScrub_meshesStand (s : State) : s.MeshesStand s.tickScrub := by
  rw [State.tickScrub]
  split
  · exact .of_active fun _ => rfl
  · split
    · exact .of_active fun _ => rfl
    · exact .of_active fun x => by rw [State.setTables_table, TableStore.get_engine]; rfl

/-- R158: a tick leaves the meshes. -/
theorem State.superviseTick_meshesStand (s : State) : s.MeshesStand s.superviseTick := by
  have begun : s.SwapsOnly { s with lastTick := some s.counter } := .of_eq rfl rfl
  have ticked := (((begun.trans (State.tickCamera_swapsOnly _ .left)).trans (State.tickCamera_swapsOnly _ .right)).trans
    (State.tickDisplay_swapsOnly _ .left)).trans (State.tickDisplay_swapsOnly _ .right)
  exact (ticked.meshesStand.trans (State.tickScrub_meshesStand _)).trans
    ((State.tickPass_swapsOnly _ .left).trans (State.tickPass_swapsOnly _ .right)).meshesStand

section

variable {s : State} (h : s.ViewsSound)
include h

theorem State.ViewsSound.endVerify (t : TableId) (load : Load) (supplied : Check) (tag : Byte) :
    (s.endVerify t load supplied tag).ViewsSound := by
  refine h.stands (s.endVerify_reacts t load supplied tag).toLiveStands ?_
  have staged (x : Result) (p : List Byte) (b : Staged) :
      s.MeshesStand ((s.answerCommit load tag x p).setStaged t b) :=
    .of_active fun u => (s.answerCommit load tag x p).setStaged_table_active t u b
  have left (u : State) : u.MeshesStand (u.leaveQueue t) := .of_active fun x => by rw [State.leaveQueue_table]
  simp only [State.endVerify]
  split
  · exact ((staged _ _ _).trans (State.swapAtVerifyEnd_swapsOnly _ t).meshesStand).trans (left _)
  · exact (staged _ _ _).trans (left _)

theorem State.ViewsSound.endScrub (st : ScrubStep) : (s.endScrub st).ViewsSound := by
  have stands := (s.endScrub_reacts st).toLiveStands
  intro ch hl
  obtain ⟨mesh, free⟩ := h ch (stands.live ch hl)
  refine ⟨?_, stands.free ch hl free⟩
  by_cases hm : st.finish (s.table st.table) = (s.table st.table).active.checksum
  · rw [State.endScrub_of_match hm, State.meshValid_congr (s := s) ?_]
    · exact mesh
    · rw [State.table, State.evaluateEach_tables]; rfl
  · rw [State.endScrub_of_mismatch hm] at hl ⊢
    by_cases ht : st.table = .warpMesh ch
    · rw [ht, State.tellMeshLost] at hl
      exact absurd hl (State.onMeshLost_not_live _ ch)
    · rw [State.meshValid_congr (s := s) ?_]
      · exact mesh
      · rw [State.table, State.tellMeshLost_tables, State.evaluateEach_tables, ← State.table,
          State.markCorrupt_scrubDone_table, if_neg fun heq => ht heq.symm]

end

/-! ## The step lemma (R61, R182) -/

theorem viewsSound_of_reset {s : State} (hv : s.view = State.reset.view) : s.ViewsSound := by
  intro ch hl
  rw [hv] at hl
  cases ch <;> cases hl

/-- R61, R182: every effect of the part keeps the LIVE views sound. -/
theorem viewsSound_kept : State.Kept State.ViewsSound where
  frameStart s ch h := h.stands (s.takeFrameStart_liveStands ch) (s.takeFrameStart_swapsOnly ch).meshesStand
  embedded s ch f h := h.stands (s.takeEmbedded_liveStands ch f) (s.takeEmbedded_swapsOnly ch f).meshesStand
  line s ch f h := h.stands (s.takeLine_liveStands ch f) (s.takeLine_swapsOnly ch f).meshesStand
  frameEnd s ch f h := h.stands (s.takeFrameEnd_liveStands ch f) (s.takeFrameEnd_swapsOnly ch f).meshesStand
  endPass s ch x p h := h.reacts (State.Reacts.refl s).endPass (s.endPass_swapsOnly ch x p)
  status s ch lux f h := h.reacts (s.takeStatus_reacts ch lux f) (s.takeStatus_swapsOnly ch lux f)
  signature s ch q v h := h.reacts (s.takeSignature_reacts ch q v) (s.takeSignature_swapsOnly ch q v)
  accept s r h := h.reacts (s.acceptRequest_reacts r) (s.acceptRequest_swapsOnly r)
  discard _ _ h := h.same rfl rfl fun _ => rfl
  serve s ch h _ := h.reacts (s.serve_reacts ch) (s.serve_swapsOnly ch)
  finish _ _ _ _ h _ := h.same rfl rfl fun _ => rfl
  stage s _ ch p h _ _ := h.reacts (s.stageValue_reacts ch p _) (s.stageValue_swapsOnly ch p _)
  setStaged s _ t h _ _ := h.same rfl rfl fun u => s.setStaged_table_active t u _
  loadData s _ t _ h _ _ _ := h.same rfl rfl fun u => s.setStaged_table_active t u _
  commit s _ t _ h _ _ _ := h.same rfl rfl fun u => by
    rw [State.commit, State.freeAgent, State.setAgent_table, State.setVerifyQueue_table, State.setStaged_table_active]
  abandonVerify s t load _ tag h _ :=
    h.stands (State.Reacts.refl s).setLink.setTables.leaveQueue.toLiveStands <| .of_active fun u => by
      rw [State.leaveQueue_table]
      exact (s.answerCommit load tag .aborted []).setStaged_table_active t u _
  abandon s t h _ := h.same rfl rfl fun u => s.setStaged_table_active t u _
  lock s t l h := h.same rfl rfl fun u => by
    rw [State.setTable_table]
    split
    · subst_vars; rfl
    · rfl
  acknowledge s h := by
    have left := s.setEntries_map_liveStands .left (f := FaultEntry.acknowledge) fun _ he => he
    exact h.stands (left.trans (State.setEntries_map_liveStands _ .right (f := FaultEntry.acknowledge) fun _ he => he))
      (.of_active fun _ => rfl)
  clear s ch h := h.stands (s.setEntries_map_liveStands ch FaultEntry.clearLatched_withholds) (.of_active fun _ => rfl)
  restart s ch h := h.stands (s.restart_liveStands ch) (s.restart_swapsOnly ch).meshesStand
  trackerOff _ _ h _ := h.same rfl rfl fun _ => rfl
  trackerOn _ _ h := h.same rfl rfl fun _ => rfl
  bandwidth _ _ _ h := h.same rfl rfl fun _ => rfl
  selectTracked _ _ h _ := h.same rfl rfl fun _ => rfl
  selectInternal _ _ h := h.same rfl rfl fun _ => rfl
  sendPass _ _ _ h _ _ := h.same rfl rfl fun _ => rfl
  writeCoverage _ _ _ h _ _ _ := h.same rfl rfl fun _ => rfl
  fixCoverage _ _ _ h _ := h.same rfl rfl fun _ => rfl
  requestReset _ _ h := h.same rfl rfl fun _ => rfl
  tick s h := h.stands s.superviseTick_reacts.toLiveStands s.superviseTick_meshesStand
  verifyStart s t _ h _ _ := h.same rfl rfl fun x => by rw [State.setTables_table]; cases x <;> rfl
  verifyEnd _ t load supplied tag h _ _ := h.endVerify t load supplied tag
  scrubEnd _ st h _ := h.endScrub st
  startFrame _ _ h := h.startFrame
  holdLimit s ch h := h.reacts (s.enterFallback_reacts ch) (s.enterFallback_evalFrame ch).swapsOnly
  startLine s ch h := h.reacts (s.startLine_reacts ch) (s.startLine_swapsOnly ch)
  endLine s ch h := h.reacts (s.endLine_reacts ch) (s.endLine_swapsOnly ch)
  endFrame s ch h := h.reacts (s.endFrame_reacts ch) (s.endFrame_swapsOnly ch)
  header s ch h := h.reacts (s.sendHeader_reacts ch) (s.sendHeader_swapsOnly ch)
  sendAnswer s ch n b h := h.reacts (s.sendAnswer_reacts ch n b) (s.sendAnswer_swapsOnly ch n b)
  areaEnd _ _ h := h.same rfl rfl fun _ => rfl
  referenceStart _ _ h := h.same rfl rfl fun _ => rfl
  holdover _ _ h := h.same rfl rfl fun _ => rfl
  manageReset _ _ := viewsSound_of_reset rfl
  queue _ _ _ h := h.same rfl rfl fun _ => rfl
  passTime s h := h.same rfl rfl fun x => by cases x <;> rfl
  beginReset _ _ _ := viewsSound_of_reset rfl
  completeReset _ _ _ _ := viewsSound_of_reset rfl
  hold _ _ h := h.same rfl rfl fun _ => rfl

/-- Settles O51: by the induction over the effects of the part. -/
theorem stepKeepsLiveViewsSound : Obligations.StepKeepsLiveViewsSound := fun _ _ h hs => viewsSound_kept.step h hs

end Sys2Proof.Machine
end

section
/-! What VIEW-RESTART leaves (R71, R193), and its statement. -/

namespace Sys2Proof.Machine

/-! ## What a restart leaves untouched -/

/-- From `s` to `t` only the receivers, the buffers, the views, the glare units, the links, the timing and the entries have
changed. -/
structure State.ChannelFrame (s t : State) : Prop where
  frame : t = { s with
    receiver := t.receiver, store := t.store, view := t.view, glare := t.glare, link := t.link, timing := t.timing
    entries := t.entries }

theorem State.ChannelFrame.trans {s t u : State} (h : s.ChannelFrame t) (k : t.ChannelFrame u) : s.ChannelFrame u := by
  obtain ⟨hf⟩ := h
  obtain ⟨kf⟩ := k
  exact ⟨by rw [kf, hf]⟩

section

variable (s : State) (ch : Channel)

theorem State.endPass_channelFrame (x : Result) (p : List Byte) : s.ChannelFrame (s.endPass ch x p) :=
  ⟨by rw [s.endPass_frame ch x p]⟩

theorem State.amendRecord_channelFrame (v : ViewState) : s.ChannelFrame (s.amendRecord ch v) := by
  rw [State.amendRecord]
  split <;> exact ⟨rfl⟩

theorem State.begunAfresh_channelFrame : s.ChannelFrame (s.begunAfresh ch) := by
  have store (u : State) (x : FrameStore) : u.ChannelFrame (u.setStore ch x) := ⟨rfl⟩
  have view (u : State) (x : ViewControl) : u.ChannelFrame (u.setView ch x) := ⟨rfl⟩
  have glare (u : State) (x : Glare) : u.ChannelFrame (u.setGlare ch x) := ⟨rfl⟩
  have entries (u : State) (x : FaultEntries) : u.ChannelFrame (u.setEntries ch x) := ⟨rfl⟩
  have link (u : State) (x : LinkUnit) : u.ChannelFrame (u.setLink ch x) := ⟨rfl⟩
  exact (((((store _ _).trans (store _ _)).trans (view _ _)).trans (glare _ _)).trans (entries _ _)).trans (link _ _)

theorem State.restart_channelFrame : (s.restartReceiver ch).ChannelFrame (s.restart ch) := by
  have timing (u : State) (x : LinkTiming) : u.ChannelFrame (u.setTiming ch x) := ⟨rfl⟩
  obtain ⟨u, hu, heq⟩ := s.restart_eq ch
  rw [heq, hu]
  exact ((((s.restartReceiver ch).begunAfresh_channelFrame ch).trans (State.endPass_channelFrame _ ch _ _)).trans
    (timing _ _)).trans (State.amendRecord_channelFrame _ ch _)

theorem State.restart_tables : (s.restart ch).tables = (s.restartReceiver ch).tables :=
  (congrArg State.tables (s.restart_channelFrame ch).frame :)
theorem State.restart_params : (s.restart ch).params = (s.restartReceiver ch).params :=
  (congrArg State.params (s.restart_channelFrame ch).frame :)
theorem State.restart_pendingParams : (s.restart ch).pendingParams = (s.restartReceiver ch).pendingParams :=
  (congrArg State.pendingParams (s.restart_channelFrame ch).frame :)
theorem State.restart_partParams : (s.restart ch).partParams = (s.restartReceiver ch).partParams :=
  (congrArg State.partParams (s.restart_channelFrame ch).frame :)
theorem State.restart_history : (s.restart ch).history = (s.restartReceiver ch).history :=
  (congrArg State.history (s.restart_channelFrame ch).frame :)
theorem State.restart_historyCount : (s.restart ch).historyCount = (s.restartReceiver ch).historyCount :=
  (congrArg State.historyCount (s.restart_channelFrame ch).frame :)
theorem State.restart_coverage : (s.restart ch).coverage = (s.restartReceiver ch).coverage :=
  (congrArg State.coverage (s.restart_channelFrame ch).frame :)
theorem State.restart_counter : (s.restart ch).counter = (s.restartReceiver ch).counter :=
  (congrArg State.counter (s.restart_channelFrame ch).frame :)
theorem State.restart_resetRecord : (s.restart ch).resetRecord = (s.restartReceiver ch).resetRecord :=
  (congrArg State.resetRecord (s.restart_channelFrame ch).frame :)

end

/-! ## The camera-side boundary at a restart (R44) -/

section

variable (s : State) (ch : Channel)

/-- R100: an evaluation leaves the night detectors. -/
theorem State.evaluate_detector (k : FaultKind) (o : Option Nat) (c : Channel) :
    ((s.evaluate ch k o).glare.get c).night = (s.glare.get c).night ∧
      ((s.evaluate ch k o).glare.get c).dwell = (s.glare.get c).dwell := by
  have fell (u : State) : ((u.enterFallback ch).glare.get c).night = (u.glare.get c).night ∧
      ((u.enterFallback ch).glare.get c).dwell = (u.glare.get c).dwell := by
    rw [State.enterFallback, State.amendRecord_glare, State.mapReset, State.setGlare_glare, Pair.get_set_eq]
    split
    · subst_vars; exact ⟨rfl, rfl⟩
    · exact ⟨rfl, rfl⟩
  obtain ⟨w, heq, -, -, hglare, -⟩ := s.evaluate_eq_tellView ch k o
  rw [heq, ← hglare]
  by_cases ha : beginsToDrive (s.entry ch k) (s.judged ch k o) = some .fallback
  · rw [ha, State.tellView, State.onDriveFallback]
    split
    · exact ⟨rfl, rfl⟩
    · exact fell w
  · rcases State.tellView_eq_of_ne_fallback (w := w) (ch := ch) ha with hw | ⟨-, hw⟩ <;> rw [hw] <;> exact ⟨rfl, rfl⟩

theorem State.cameraBoundary_detector (c : Channel) :
    ((s.cameraBoundary ch).glare.get c).night = (s.glare.get c).night ∧
      ((s.cameraBoundary ch).glare.get c).dwell = (s.glare.get c).dwell := by
  have swapped (u : State) (t : TableId) : ((u.swapIfWaiting t).glare.get c).night = (u.glare.get c).night ∧
      ((u.swapIfWaiting t).glare.get c).dwell = (u.glare.get c).dwell :=
    ⟨State.swapIfWaiting_keeps (f := fun u => (u.glare.get c).night) (fun _ _ => rfl)
        (fun u d => (u.evaluate_detector d _ _ c).1) u t,
      State.swapIfWaiting_keeps (f := fun u => (u.glare.get c).dwell) (fun _ _ => rfl)
        (fun u d => (u.evaluate_detector d _ _ c).2) u t⟩
  rw [State.cameraBoundary, (swapped _ _).1, (swapped _ _).1, (swapped _ _).2, (swapped _ _).2]
  exact ⟨rfl, rfl⟩

/-- R205: a camera-side value put in force leaves PERIOD_NOM. -/
theorem State.cameraBoundary_periodNom :
    ((s.cameraBoundary ch).params.get ch).periodNom = (s.params.get ch).periodNom := by
  have folded (ps : List PendingValue) (hps : ∀ pv ∈ ps, pv.1.cls = .camera) (c : ChannelParams) :
      (ps.foldl (fun c pv => c.put pv.1 pv.2) c).periodNom = c.periodNom := by
    induction ps generalizing c with
    | nil => rfl
    | cons pv ps ih =>
      refine (ih (fun x hx => hps x (List.mem_cons_of_mem _ hx)) _).trans ?_
      have camera := hps pv List.mem_cons_self
      obtain ⟨p, v⟩ := pv
      cases p with
      | camWidth | camHeight => rfl
      | _ => cases camera
  rw [State.cameraBoundary, State.swapIfWaiting_params, State.swapIfWaiting_params, State.applyPending,
    State.setPending_params, State.setParams_params, Pair.get_set]
  exact folded _ (fun pv h => beq_iff_eq.mp (List.mem_filter.mp h).2) _

/-- R20: a swap over a bank that is not CORRUPT evaluates nothing. -/
theorem State.swapIfWaiting_quiet {t : TableId} (h : (s.table t).active.state = .corrupt →
      ∀ load supplied, (s.table t).staged ≠ .swapWait load supplied) :
    (s.swapIfWaiting t).entries = s.entries ∧ (s.swapIfWaiting t).history = s.history ∧
      (s.swapIfWaiting t).historyCount = s.historyCount := by
  rw [State.swapIfWaiting]
  split
  · rw [State.swapIn_eq, if_neg fun hc => h hc _ _ ‹_›]
    exact ⟨rfl, rfl, rfl⟩
  · exact ⟨rfl, rfl, rfl⟩

theorem State.cameraBoundary_quiet (h : s.ReplacesNoCorrupt (cameraTables ch)) :
    (s.cameraBoundary ch).entries = s.entries ∧ (s.cameraBoundary ch).history = s.history ∧
      (s.cameraBoundary ch).historyCount = s.historyCount := by
  have first := (s.applyPending ch .camera).swapIfWaiting_quiet (t := .develop ch)
    (h (.develop ch) (by simp [cameraTables]))
  have second := ((s.applyPending ch .camera).swapIfWaiting (.develop ch)).swapIfWaiting_quiet (t := .defectList ch) <| by
    rw [State.swapIfWaiting_table_other (t := .develop ch) (x := .defectList ch) _ nofun]
    exact h (.defectList ch) (by simp [cameraTables])
  exact ⟨second.1.trans first.1, second.2.1.trans first.2.1, second.2.2.trans first.2.2⟩

end

/-! ## Buffers, entries, links and timing after a restart -/

section

variable (s : State) (ch : Channel)

theorem Buffer.not_ready_of_shown {x : Buffer} (h : x.isShown = true) : x.isReady = false := by
  cases x <;> first | rfl | cases h

/-- R59, R70: with a line in progress the SHOWN buffer waits for its end, released. -/
theorem State.restart_shown {b : BufferId} (hl : (s.link.get ch).frame.lineInProgress ≠ none)
    (hb : ((s.store.get ch).get b).isShown = true) :
    ((s.restart ch).store.get ch).get b = (s.store.get ch).get b ∧ ((s.restart ch).store.get ch).released = true := by
  have moved := (s.setReceiver ch { s.receiver.get ch with
    assembly := .idle, reference := none }).cameraBoundary_viewMoved ch
  have stood : ((s.restartReceiver ch).store.get ch).get b = (s.store.get ch).get b := by
    by_cases hst : (s.view.get ch).state = .fallback ∨ ((s.restartReceiver ch).view.get ch).state ≠ .fallback
    · exact congrArg (FrameStore.get · b) (moved.stands hst)
    · rw [not_or, not_not] at hst
      exact (((moved.enters hst.1 hst.2).2.1 b hb).2 hl).1
  have kept : ((((s.restartReceiver ch).store.get ch).freeWhere fun b => !b.isShown).get b) = (s.store.get ch).get b := by
    rw [FrameStore.get_freeWhere, stood, hb]; rfl
  rw [State.restart_store, Pair.get_set]
  have released := FrameStore.release_releasedTo (((s.restartReceiver ch).store.get ch).freeWhere fun b => !b.isShown)
    (s.link.get ch).frame.lineInProgress
  obtain ⟨waits, marked⟩ := (released.2.1 b (by rw [kept]; exact hb)).2 hl
  exact ⟨waits.trans kept, marked⟩

/-- R59, R70: with no line in progress every buffer is FREE. -/
theorem State.restart_free (hl : (s.link.get ch).frame.lineInProgress = none) (b : BufferId) :
    ((s.restart ch).store.get ch).get b = .free := by
  have released := FrameStore.release_releasedTo (((s.restartReceiver ch).store.get ch).freeWhere fun b => !b.isShown)
    (s.link.get ch).frame.lineInProgress
  rcases State.restart_get (s := s) (ch := ch) b with hfree | ⟨hshown, -⟩
  · exact hfree
  · rw [State.restart_store, Pair.get_set]
    refine ((released.2.1 b ?_).1 hl).1
    rw [FrameStore.get_freeWhere, hshown]
    exact hshown

theorem State.restartReceiver_quiet (h : s.ReplacesNoCorrupt (cameraTables ch)) :
    (s.restartReceiver ch).entries = s.entries ∧ (s.restartReceiver ch).history = s.history ∧
      (s.restartReceiver ch).historyCount = s.historyCount :=
  (s.setReceiver ch { s.receiver.get ch with assembly := .idle, reference := none }).cameraBoundary_quiet ch h

theorem State.restart_entry (k : FaultKind) :
    (s.restart ch).entry ch k = ((s.restartReceiver ch).entry ch k).restart := by
  rw [State.entry, State.restart_entries, Pair.get_set, FaultEntries.map_get]; rfl

/-- R193: an entry keeps all but its state, its run and its mark, where the boundary does not evaluate its kind. -/
theorem State.restart_entry_kept {k : FaultKind} (h : k ≠ .tableCorrupt ∨ s.ReplacesNoCorrupt (cameraTables ch)) :
    (s.restart ch).entry ch k = { s.entry ch k with state := .inactive, run := 0, unacknowledged := false } := by
  have stood : (s.restartReceiver ch).entry ch k = s.entry ch k := by
    rcases h with hk | hq
    · exact State.cameraBoundary_entry _ ch ch hk
    · exact congrArg (fun es : Pair FaultEntries => (es.get ch).get k) (s.restartReceiver_quiet ch hq).1
  rw [State.restart_entry, stood]; rfl

theorem State.restart_link (c : Channel) : (s.restart ch).link.get c = { s.link.get c with
    expected := if c = ch then [] else (s.link.get c).expected, answers := ((s.restart ch).link.get c).answers } := by
  obtain ⟨u, hu, heq⟩ := s.restart_eq ch
  rw [heq, (State.amendRecord_evalFrame _ ch _).link, State.setTiming_link, hu, State.endPass_link,
    State.begunAfresh_link, State.restartReceiver_link, Pair.get_set_eq]
  split
  · subst_vars; rfl
  · rfl

theorem State.restart_timing : (s.restart ch).timing =
    s.timing.set ch ((s.timing.get ch).restart ((s.restartReceiver ch).params.get ch)) := by
  obtain ⟨u, hu, heq⟩ := s.restart_eq ch
  rw [heq, (State.amendRecord_evalFrame _ ch _).timing, State.setTiming_timing, hu, State.endPass_timing,
    State.endPass_params, State.begunAfresh_timing, State.begunAfresh_params]
  have stood : (s.restartReceiver ch).timing = s.timing := (State.cameraBoundary_swapFrame _ ch).timing
  rw [stood]

/-- R170: the tracker is put back as at enable, with the PERIOD_NOM in force. -/
theorem State.restart_tracker : ((s.restart ch).timing.get ch) = (s.timing.get ch).restart (s.params.get ch) := by
  have nominal : ((s.restartReceiver ch).params.get ch).periodNom = (s.params.get ch).periodNom :=
    State.cameraBoundary_periodNom _ ch
  rw [State.restart_timing, Pair.get_set, LinkTiming.restart, LinkTiming.restart, Tracker.acquire, nominal]; rfl

/-! ## The answers (R53, R199) -/

/-- R53: the answers that the end of a channel's pass adds on a link. -/
def PassRecord.abortedOn : PassRecord → Channel → List Answer
  | .idle, _ => []
  | .waiting link tag _, c => if c = link then [{ tag := tag, kind := 12, result := .aborted, payload := [] }] else []

theorem State.restart_answers (c : Channel) : ((s.restart ch).link.get c).answers =
    (s.link.get c).answers ++ (s.receiver.get ch).pass.abortedOn c := by
  obtain ⟨u, hu, heq⟩ := s.restart_eq ch
  have pass : (((s.restartReceiver ch).begunAfresh ch).receiver.get ch).pass = (s.receiver.get ch).pass := by
    rw [State.begunAfresh_receiver, State.restartReceiver_receiver, Pair.get_set]
  have answers (d : Channel) : (((s.restartReceiver ch).begunAfresh ch).link.get d).answers = (s.link.get d).answers := by
    rw [State.begunAfresh_link, State.restartReceiver_link, Pair.get_set_eq]
    split
    · subst_vars; rfl
    · rfl
  rw [heq, (State.amendRecord_evalFrame _ ch _).link, State.setTiming_link, hu]
  cases hp : (s.receiver.get ch).pass with
  | idle =>
    rw [State.endPass_of_idle (pass.trans hp), answers, PassRecord.abortedOn, List.append_nil]
  | waiting link tag n =>
    rw [State.endPass_of_waiting (pass.trans hp), State.answer, State.setLink_link, Pair.get_set_eq,
      State.setReceiver_link, PassRecord.abortedOn]
    split
    · subst_vars; exact congrArg (· ++ _) (answers _)
    · rw [answers, List.append_nil]

theorem State.answered_answers (u : State) (r : Request) (x : Result) (p : List Byte) (c : Channel) :
    ((u.answered r x p).link.get c).answers = (u.link.get c).answers ++
      if c = r.link then [{ tag := r.tag, kind := r.kind, result := x, payload := p }] else [] := by
  have linked : (u.answered r x p).link = u.link.set r.link { u.link.get r.link with
    answers := (u.link.get r.link).answers ++ [{ tag := r.tag, kind := r.kind, result := x, payload := p }] } := rfl
  rw [linked, Pair.get_set_eq]
  split
  · subst_vars; rfl
  · rw [List.append_nil]

/-- R199: an answered request adds to its own link's answers alone. -/
theorem State.answered_link (u : State) (r : Request) (x : Result) (p : List Byte) (c : Channel) :
    (u.answered r x p).link.get c = { u.link.get c with answers := ((u.answered r x p).link.get c).answers } := by
  have linked : (u.answered r x p).link = u.link.set r.link { u.link.get r.link with
    answers := (u.link.get r.link).answers ++ [{ tag := r.tag, kind := r.kind, result := x, payload := p }] } := rfl
  rw [linked, Pair.get_set_eq]
  split
  · subst_vars; rfl
  · rfl

end

/-- R71: another channel stands as it was. -/
theorem State.restart_other (s : State) {ch c : Channel} (hc : c ≠ ch) :
    (s.restart ch).receiver.get c = s.receiver.get c ∧ (s.restart ch).store.get c = s.store.get c ∧
      (s.restart ch).view.get c = s.view.get c ∧ (s.restart ch).glare.get c = s.glare.get c ∧
      (s.restart ch).timing.get c = s.timing.get c ∧ (s.restart ch).entries.get c = s.entries.get c ∧
      (s.restart ch).params.get c = s.params.get c := by
  obtain ⟨entries, view, store, glare, params, -⟩ := (State.cameraBoundary_swapFrame
    (s.setReceiver ch { s.receiver.get ch with assembly := .idle, reference := none }) ch).other c hc
  rw [s.restart_receiver, s.restart_store, s.restart_view_other ch hc, s.restart_glare, s.restart_timing,
    s.restart_entries, s.restart_params, Pair.get_set_other _ _ hc, Pair.get_set_other _ _ hc,
    Pair.get_set_other _ _ hc, Pair.get_set_other _ _ hc, Pair.get_set_other _ _ hc]
  exact ⟨rfl, store, view, glare, rfl, entries, params⟩

/-- Settles O28: the restart by its parts, and the request answered. -/
theorem viewRestartBeginsChannelAfresh : Obligations.ViewRestartBeginsChannelAfresh := by
  intro s r ch hs hk hch hp
  have receiver : (s.restart ch).receiver.get ch = { s.receiver.get ch with
      assembly := .idle, reference := none, pass := .idle } := by rw [s.restart_receiver, Pair.get_set]
  obtain ⟨c, view⟩ := s.restart_view ch
  have glare : (s.restart ch).glare.get ch = ((s.restartReceiver ch).glare.get ch).mapReset := by
    rw [s.restart_glare, Pair.get_set]
  have detector : (((s.restartReceiver ch).glare.get ch)).night = (s.glare.get ch).night ∧
      ((s.restartReceiver ch).glare.get ch).dwell = (s.glare.get ch).dwell := State.cameraBoundary_detector _ ch ch
  have frame := State.cameraBoundary_swapFrame (s.setReceiver ch { s.receiver.get ch with
    assembly := .idle, reference := none }) ch
  have answers (c : Channel) : (((s.restart ch).answered r .ok []).link.get c).answers = _ :=
    State.answered_answers _ r .ok [] c
  simp only [State.restart_answers, hk] at answers
  refine ⟨(s.restart ch).answered r .ok [], (exec_viewRestart s).trans (whenExecuting_of hs (Request.isKind_of hk)
      ((State.onChannel_eq hch).trans (State.withLength_eq (congrArg List.length hp)))),
    congrArg Receiver.assembly receiver, congrArg Receiver.reference receiver, congrArg Receiver.pass receiver,
    (congrArg Receiver.startSeen receiver :), (congrArg Receiver.silentTicks receiver :), fun b => ?_,
    s.restart_free ch, fun hl b hb => s.restart_shown ch hl hb,
    congrArg ViewControl.state view, congrArg ViewControl.holdTimer view, fun rec hrec => ?_, fun x hx => ?_,
    (congrArg Glare.night glare).trans detector.1, (congrArg Glare.dwell glare).trans detector.2, fun k => ?_,
    fun k h => s.restart_entry_kept ch h, fun hq => ?_, fun c => ?_, ?_, ?_, ?_, ?_, fun hoff => ?_, fun hon => ?_,
    fun hidle => ?_, fun tag n hw => ?_, fun link tag n hne hw => ?_, fun c hc => s.restart_other hc, ?_, fun hsound => ?_,
    ?_, ?_, ?_, ?_, ?_, rfl⟩
  · rcases State.restart_get (s := s) (ch := ch) b with hfree | ⟨hshown, hstood⟩
    · exact ⟨congrArg Buffer.isFilling hfree, congrArg Buffer.isReady hfree⟩
    · rw [← hstood] at hshown
      exact ⟨Buffer.not_filling_of_shown hshown, Buffer.not_ready_of_shown hshown⟩
  · obtain ⟨before, -, rfl⟩ := Option.map_eq_some_iff.mp ((congrArg ViewControl.record view).symm.trans hrec)
    exact ⟨rfl, rfl, rfl, rfl⟩
  · exact List.eq_of_mem_replicate ((congrArg Glare.tiles glare) ▸ hx)
  · have entry : ((s.restart ch).answered r .ok []).entry ch k = ((s.restartReceiver ch).entry ch k).restart :=
      s.restart_entry ch k
    rw [entry]
    exact ⟨rfl, rfl, rfl⟩
  · obtain ⟨-, history, count⟩ := s.restartReceiver_quiet ch hq
    exact ⟨(s.restart_history ch).trans history, (s.restart_historyCount ch).trans count⟩
  · rw [State.answered_link, State.restart_link]
  · exact congrArg LinkTiming.source (s.restart_tracker ch)
  · exact congrArg LinkTiming.aligned (s.restart_tracker ch)
  · exact (congrArg LinkTiming.start (s.restart_tracker ch) :)
  · exact (congrArg LinkTiming.period (s.restart_tracker ch) :)
  · exact (congrArg LinkTiming.tracker (s.restart_tracker ch)).trans (if_pos hoff)
  · exact (congrArg LinkTiming.tracker (s.restart_tracker ch)).trans (if_neg hon)
  · rw [answers, hidle, if_pos rfl, PassRecord.abortedOn, List.append_nil]
  · rw [answers, hw, if_pos rfl, PassRecord.abortedOn, if_pos rfl, List.append_assoc]; rfl
  · rw [answers, answers, hw, if_neg hne, if_pos rfl, PassRecord.abortedOn, PassRecord.abortedOn, if_pos rfl,
      if_neg hne.symm, List.append_nil, List.append_nil]
    exact ⟨rfl, rfl⟩
  · have taken := State.cameraBoundary_tablesTaken (s.setReceiver ch { s.receiver.get ch with
      assembly := .idle, reference := none }) ch
    intro x
    have table : ((s.restart ch).answered r .ok []).table x = (s.restartReceiver ch).table x :=
      congrArg (TableStore.get · x) (s.restart_tables ch)
    rw [table]
    exact taken x
  · have taken := State.cameraBoundary_valuesTaken (s.setReceiver ch { s.receiver.get ch with
      assembly := .idle, reference := none }) ch hsound
    exact taken.congr (s.restart_params ch) (s.restart_pendingParams ch) (s.restart_partParams ch)
  · exact (s.restart_swapsOnly ch).tables.keeps.1
  · exact (s.restart_swapsOnly ch).coverage
  · exact (s.restart_counter ch).trans frame.counter
  · exact (s.restart_partParams ch).trans (congrArg State.partParams frame.frame :)
  · exact (s.restart_resetRecord ch).trans (congrArg State.resetRecord frame.frame :)

end Sys2Proof.Machine
end

section
/-! The view controller at a display frame start (R60, R62), and HOLD_LIMIT_REACHED (R65). -/

namespace Sys2Proof.Machine

/-! ## The arms of the display frame -/

section

variable (s : State) (ch : Channel)

theorem exec_displayFrameStart : exec (.displayFrameStart ch) s = execDisplayFrameStart ch s := rfl
theorem exec_holdLimitReached : exec (.holdLimitReached ch) s = execHoldLimitReached ch s := rfl
theorem exec_activeLineStart : exec (.activeLineStart ch) s = execActiveLineStart ch s := rfl
theorem exec_activeLineEnd : exec (.activeLineEnd ch) s = execActiveLineEnd ch s := rfl
theorem exec_displayFrameEnd : exec (.displayFrameEnd ch) s = execDisplayFrameEnd ch s := rfl

end

/-- A pair that differs from another in one channel alone is the other with that channel written. -/
theorem Pair.eq_set_of_other {α : Type} {p q : Pair α} {ch : Channel} (h : ∀ c, c ≠ ch → q.get c = p.get c) :
    q = p.set ch (q.get ch) := by
  refine Pair.ext_get fun c => ?_
  rw [Pair.get_set_eq]
  split
  · subst_vars; rfl
  · exact h c ‹_›

/-! ## Entry to FALLBACK and the end of a line (R59, R65) -/

section

variable (s : State) (ch : Channel)

theorem State.amendRecord_frame (v : ViewState) : s.amendRecord ch v = { s with view := (s.amendRecord ch v).view } := by
  rw [State.amendRecord]
  split <;> rfl

/-- R65: an entry to FALLBACK touches the channel's view, buffers and glare unit. -/
theorem State.enterFallback_frame : s.enterFallback ch = { s with
    view := s.view.set ch ((s.enterFallback ch).view.get ch), store := s.store.set ch ((s.enterFallback ch).store.get ch)
    glare := s.glare.set ch ((s.enterFallback ch).glare.get ch) } := by
  have whole : s.enterFallback ch = { s with
      view := (s.enterFallback ch).view, store := (s.enterFallback ch).store, glare := (s.enterFallback ch).glare } := by
    rw [State.enterFallback, State.amendRecord_frame]
    rfl
  have other := (s.enterFallback_evalFrame ch).other
  rw [← Pair.eq_set_of_other fun c hc => (other c hc).2.1, ← Pair.eq_set_of_other fun c hc => (other c hc).2.2.1,
    ← Pair.eq_set_of_other fun c hc => (other c hc).2.2.2]
  exact whole

theorem State.enterFallback_glare : (s.enterFallback ch).glare = s.glare.set ch (s.glare.get ch).mapReset := by
  rw [State.enterFallback, State.amendRecord_glare]
  rfl

theorem FrameStore.freeReleased_get {fs : FrameStore} (h : fs.released = true) (b : BufferId) :
    fs.freeReleased.get b = if (fs.get b).isShown then .free else fs.get b := by
  rw [FrameStore.freeReleased, if_pos h]
  exact fs.freeWhere_get _ false b

theorem FrameStore.freeReleased_eq_self {fs : FrameStore} (h : fs.released = false) : fs.freeReleased = fs := by
  rw [FrameStore.freeReleased, h, if_neg Bool.false_ne_true]

theorem State.endLine_store : (s.endLine ch).store = s.store.set ch (s.store.get ch).freeReleased := rfl

end

/-- Settles O41: both arms are the entry to FALLBACK and the end of the line themselves. -/
theorem fallbackReleasesShownBuffer : Obligations.FallbackReleasesShownBuffer := by
  refine ⟨fun s ch hh hd hr => ?_, fun s ch y hh hy => ?_⟩
  · obtain ⟨state, timer, tiles, -, released, -, record⟩ :=
      State.enterFallback_fellBack (s := s) (w := s) (ch := ch) rfl rfl rfl
    refine ⟨s.enterFallback ch, ?_, s.enterFallback_frame ch, state, timer, tiles, ?_, released, record⟩
    · rw [exec_holdLimitReached, execHoldLimitReached, whenRunning_eq hh, if_pos ⟨hd, hr⟩]
    · rw [State.enterFallback_glare, Pair.get_set]; rfl
  · refine ⟨s.endLine ch, ?_, ?_, fun hr => ?_, fun hr => ?_⟩
    · rw [exec_activeLineEnd, execActiveLineEnd, whenRunning_eq hh, hy]
      rfl
    · rw [State.endLine_store, Pair.get_set]
      rfl
    · rw [State.endLine_store, FrameStore.freeReleased_eq_self hr, Pair.set_get]
    · rw [State.endLine_store, Pair.get_set]
      refine ⟨?_, FrameStore.freeReleased_get hr⟩
      rw [FrameStore.freeReleased, if_pos hr]

/-! ## The decision (R62) -/

section

variable {s : State} {ch : Channel}

/-- R62: a LIVE view with a READY buffer takes it. -/
theorem State.decide_live_takes (hv : (s.view.get ch).state = .live) (hr : (s.store.get ch).hasReady = true) :
    s.decide ch = (s.takeBuffer ch, true) := by
  simp only [State.decide, hv, hr, if_true]

/-- R62, step 1: a view that may go LIVE does, and takes the READY buffer. -/
theorem State.decide_goes_live (hv : (s.view.get ch).state ≠ .live) (hm : s.mayGoLive ch = true) :
    s.decide ch = ((s.setViewState ch .live 0).takeBuffer ch, true) := by
  cases hs : (s.view.get ch).state with
  | live => exact absurd hs hv
  | start | hold | fallback => simp only [State.decide, hs, hm, if_true]

/-- R62: START and FALLBACK else show none. -/
theorem State.decide_shows_none (hv : (s.view.get ch).state = .start ∨ (s.view.get ch).state = .fallback)
    (hm : s.mayGoLive ch = false) : s.decide ch = (s, false) := by
  rcases hv with hv | hv <;> simp only [State.decide, hv, hm, Bool.false_eq_true, if_false]

/-- R62, step 3: a view whose hold timer reaches HOLD_LIMIT enters FALLBACK. -/
theorem State.decide_falls_back (hv : (s.view.get ch).state = .hold) (hm : s.mayGoLive ch = false)
    (hl : (s.params.get ch).holdLimit ≤ (s.view.get ch).holdTimer + 1) : s.decide ch = (s.enterFallback ch, false) := by
  simp only [State.decide, hv, hm, Bool.false_eq_true, if_false, if_pos hl]

/-- R62: a LIVE view without a READY buffer repeats. -/
theorem State.decide_live_repeats (hv : (s.view.get ch).state = .live) (hr : (s.store.get ch).hasReady = false) :
    s.decide ch = (s.repeatBuffer ch, false) := by
  simp only [State.decide, hv, hr, Bool.false_eq_true, if_false]

/-- R62, step 3: a view in HOLD short of HOLD_LIMIT repeats. -/
theorem State.decide_hold_repeats (hv : (s.view.get ch).state = .hold) (hm : s.mayGoLive ch = false)
    (hl : (s.view.get ch).holdTimer + 1 < (s.params.get ch).holdLimit) :
    s.decide ch = ((s.setViewState ch .hold ((s.view.get ch).holdTimer + 1)).repeatBuffer ch, false) := by
  simp only [State.decide, hv, hm, Bool.false_eq_true, if_false, if_neg (Nat.not_le.mpr hl)]

end

/-! ## The record of the frame (R60, R79) -/

section

variable (s : State) (ch : Channel)

theorem State.beginLines_view : (s.beginLines ch).view = s.view := by
  simp only [State.beginLines]
  split
  · rfl
  · split <;> rfl

theorem State.beginLines_store : (s.beginLines ch).store = s.store := by
  simp only [State.beginLines]
  split
  · rfl
  · split <;> rfl

theorem State.beginLines_entries : (s.beginLines ch).entries = s.entries := by
  simp only [State.beginLines]
  split
  · rfl
  · split <;> rfl

/-- R98: the lines that begin leave the tile map. -/
theorem State.beginLines_tiles : ((s.beginLines ch).glare.get ch).tiles = (s.glare.get ch).tiles := by
  simp only [State.beginLines]
  split
  · rfl
  · split
    · rw [State.setGlare_glare, Pair.get_set, State.setLink_glare]
    · rfl

/-- R60: the buffer that the record of a decided frame names. -/
def State.decidedBuffer (s : State) (ch : Channel) : Option BufferId :=
  if (s.view.get ch).state.showsBuffer then (s.store.get ch).find Buffer.isShown else none

/-- R60, R62, R79: what a frame decided by `decide` leaves. -/
theorem State.decideFrame_leaves {u : State} {fresh : Bool} (h : s.decide ch = (u, fresh)) :
    (s.decideFrame ch).store = u.store ∧ (s.decideFrame ch).entries = u.entries ∧
      ((s.decideFrame ch).glare.get ch).tiles = (u.glare.get ch).tiles ∧
      ∃ r : FrameRecord, (s.decideFrame ch).view.get ch = { u.view.get ch with record := some r } ∧
        r.view = (u.view.get ch).state ∧ r.buffer = u.decidedBuffer ch ∧
        r.fresh = (fresh && (u.decidedBuffer ch).isSome) ∧
        r.mesh = if (u.decidedBuffer ch).isSome then some (u.chooseMesh ch) else none := by
  have decided : s.decideFrame ch = (u.fillRecord ch fresh).beginLines ch := by rw [State.decideFrame, h]
  rw [decided, State.beginLines_store, State.beginLines_entries, State.beginLines_tiles, State.beginLines_view]
  exact ⟨rfl, rfl, rfl, _, Pair.get_set _ ch _, rfl, rfl, rfl, rfl⟩

end

/-! ## A start at which nothing else takes effect -/

section

variable {s : State} {ch : Channel}

theorem State.setStore_self (s : State) (ch : Channel) : s.setStore ch (s.store.get ch) = s := by
  rw [State.setStore, Pair.set_get]

theorem State.setLink_setLink (s : State) (ch : Channel) (x y : LinkUnit) :
    (s.setLink ch x).setLink ch y = s.setLink ch y := by
  rw [State.setLink, State.setLink_link, Pair.set_set]; rfl

theorem State.swapIfWaiting_eq_self {t : TableId} (h : ∀ load supplied, (s.table t).staged ≠ .swapWait load supplied) :
    s.swapIfWaiting t = s := by
  rw [State.swapIfWaiting]
  split
  · exact absurd ‹_› (h _ _)
  · rfl

/-- R205: with no value of a class pending, none takes effect. -/
theorem State.applyPending_eq_self {cls : ParamClass} (h : ∀ pv ∈ s.pendingParams.get ch, pv.1.cls ≠ cls) :
    s.applyPending ch cls = s := by
  have none : ((s.pendingParams.get ch).filter fun pv => pv.1.cls == cls) = [] :=
    List.filter_eq_nil_iff.mpr fun pv hpv heq => h pv hpv (beq_iff_eq.mp heq)
  have all : ((s.pendingParams.get ch).filter fun pv => pv.1.cls != cls) = s.pendingParams.get ch :=
    List.filter_eq_self.mpr fun pv hpv => bne_iff_ne.mpr (h pv hpv)
  rw [State.applyPending, none, all, List.foldl_nil, State.setParams, State.setPending, Pair.set_get, Pair.set_get]

theorem State.displayBoundary_eq_self
    (hw : ∀ x load supplied, x = .warpMesh ch ∨ x = .toneCurves ch ∨ x = .glareResponse ch ∨ x = .overlaySet ch →
      (s.table x).staged ≠ .swapWait load supplied)
    (hp : ∀ pv ∈ s.pendingParams.get ch, pv.1.cls ≠ .display) : s.displayBoundary ch = s := by
  have mesh : s.swapIfWaiting (.warpMesh ch) = s := State.swapIfWaiting_eq_self fun _ _ => hw _ _ _ (.inl rfl)
  have curves : s.swapIfWaiting (.toneCurves ch) = s := State.swapIfWaiting_eq_self fun _ _ => hw _ _ _ (.inr (.inl rfl))
  have response : s.swapIfWaiting (.glareResponse ch) = s :=
    State.swapIfWaiting_eq_self fun _ _ => hw _ _ _ (.inr (.inr (.inl rfl)))
  have overlay : s.swapIfWaiting (.overlaySet ch) = s :=
    State.swapIfWaiting_eq_self fun _ _ => hw _ _ _ (.inr (.inr (.inr rfl)))
  rw [State.displayBoundary, mesh, curves, response, overlay, State.applyPending_eq_self hp]
  simp only [and_self, if_true]

/-- R138, R139: then the frame opens with its link's numbers alone, and no line in progress. -/
theorem State.openFrame_eq
    (hw : ∀ x load supplied, x = .warpMesh ch ∨ x = .toneCurves ch ∨ x = .glareResponse ch ∨ x = .overlaySet ch →
      (s.table x).staged ≠ .swapWait load supplied)
    (hp : ∀ pv ∈ s.pendingParams.get ch, pv.1.cls ≠ .display) (hr : (s.store.get ch).released = false) :
    ∃ x : LinkUnit, s.openFrame ch = s.setLink ch x ∧ x.frame.lineInProgress = none := by
  obtain ⟨x, ended, hx⟩ : ∃ x : LinkUnit, s.endLine ch = s.setLink ch x ∧ x.frame.lineInProgress = none := by
    refine ⟨{ s.link.get ch with frame := { (s.link.get ch).frame with lineInProgress := none } }, ?_, rfl⟩
    rw [State.endLine, FrameStore.freeReleased_eq_self hr]
    exact State.setStore_self (s.setLink ch _) ch
  have opened : s.openFrame ch = s.setLink ch { x with frameSeq := x.nextSeq, nextSeq := x.nextSeq + 1 } := by
    rw [State.openFrame, ended, State.giveSequence, State.setLink_link, Pair.get_set, State.setLink_setLink]
    exact State.displayBoundary_eq_self hw hp
  exact ⟨_, opened, hx⟩

theorem LinkTiming.revert_tracker (g : LinkTiming) : g.revert.tracker = g.tracker := by
  rw [LinkTiming.revert]
  split <;> rfl

theorem Tracker.referenceStart_off {t : Tracker} (h : t.state = .off) (p : ChannelParams) (v : Time) :
    (t.referenceStart p v).state = .off := by
  have empty : t.countEmpty.state = .off := by
    rw [Tracker.countEmpty, if_neg (by rw [h]; simp)]
    exact h
  rw [Tracker.referenceStart]
  split
  · simp [Tracker.measure, Tracker.lockRules, h]
  · exact empty

/-- R161, R163: a tracker that is OFF stays OFF. -/
theorem LinkTiming.displayStart_off {g : LinkTiming} (h : g.tracker.state = .off) (p : ChannelParams) (v : Time) :
    (g.displayStart p v).tracker.state = .off := by
  simp only [LinkTiming.displayStart]
  split
  · rw [LinkTiming.referenceStart, LinkTiming.revert_tracker]
    exact Tracker.referenceStart_off h p v
  · split <;> exact h

/-- R60, R62: then the frame is decided on the state as it was but for its link's numbers and its timing. -/
theorem State.startFrame_eq (hoff : (s.timing.get ch).tracker.state = .off)
    (hw : ∀ x load supplied, x = .warpMesh ch ∨ x = .toneCurves ch ∨ x = .glareResponse ch ∨ x = .overlaySet ch →
      (s.table x).staged ≠ .swapWait load supplied)
    (hp : ∀ pv ∈ s.pendingParams.get ch, pv.1.cls ≠ .display) (hr : (s.store.get ch).released = false) :
    ∃ (x : LinkUnit) (y : LinkTiming), s.startFrame ch = ((s.setLink ch x).setTiming ch y).decideFrame ch ∧
      x.frame.lineInProgress = none := by
  obtain ⟨x, opened, hx⟩ := State.openFrame_eq hw hp hr
  refine ⟨x, (s.timing.get ch).displayStart (s.params.get ch) s.counter, ?_, hx⟩
  unfold State.startFrame State.decideAndEvaluate
  rw [opened]
  refine if_pos ?_
  rw [State.setTiming_timing, Pair.get_set]
  exact LinkTiming.displayStart_off hoff _ _

end

/-! ## The buffers that a decision takes or repeats (R58) -/

section

variable {fs gs : FrameStore} {b : BufferId} {p : Picture} {n : BitVec 16}

theorem FrameStore.find_congr {q : Buffer → Bool} (h : ∀ c, q (gs.get c) = q (fs.get c)) : gs.find q = fs.find q := by
  have h0 : q gs.b0 = q fs.b0 := h .b0
  have h1 : q gs.b1 = q fs.b1 := h .b1
  have h2 : q gs.b2 = q fs.b2 := h .b2
  rw [FrameStore.find, FrameStore.find, h0, h1, h2]

theorem FrameStore.take_get (hb : fs.find Buffer.isReady = some b) (hp : fs.get b = .ready p n) (c : BufferId) :
    fs.take.get c = if c = b then .shown p n 1 else if (fs.get c).isShown then .free else fs.get c := by
  rw [FrameStore.take_eq hb hp, FrameStore.freeWhere_set_get]

/-- R58: the buffer taken is the SHOWN one. -/
theorem FrameStore.take_find_shown (hb : fs.find Buffer.isReady = some b) (hp : fs.get b = .ready p n) :
    fs.take.find Buffer.isShown = some b := by
  refine FrameStore.find_eq_of_unique (by rw [FrameStore.take_get hb hp, if_pos rfl]; rfl) fun c hc => ?_
  by_contra hne
  rw [FrameStore.take_get hb hp, if_neg hne] at hc
  split at hc
  · cases hc
  · contradiction

theorem FrameStore.repeatShown_get {times : Nat} (hb : fs.find Buffer.isShown = some b)
    (hp : fs.get b = .shown p n times) (c : BufferId) :
    fs.repeatShown.get c = if c = b then .shown p n (min 255 (times + 1)) else fs.get c := by
  rw [FrameStore.repeatShown_eq hb hp, FrameStore.get_set_eq]

theorem FrameStore.repeatShown_find_shown {times : Nat} (hb : fs.find Buffer.isShown = some b)
    (hp : fs.get b = .shown p n times) : fs.repeatShown.find Buffer.isShown = some b := by
  rw [← hb]
  refine FrameStore.find_congr fun c => ?_
  rw [FrameStore.repeatShown_get hb hp]
  split
  · subst_vars; rw [hp]; rfl
  · rfl

end

/-! ## The four steps (R62) -/

section

variable {s u : State} {ch : Channel}

/-- R58, R79: the frame of a view that is LIVE and takes the READY buffer. -/
theorem State.decideFrame_takes {b : BufferId} {p : Picture} {n : BitVec 16} {r : FrameRecord}
    (hd : s.decide ch = (u, true)) (hv : (u.view.get ch).state = .live)
    (hs : u.store.get ch = (s.store.get ch).take) (hr : ((s.decideFrame ch).view.get ch).record = some r)
    (hb : (s.store.get ch).find Buffer.isReady = some b) (hp : (s.store.get ch).get b = .ready p n) :
    ((s.decideFrame ch).view.get ch).state = .live ∧
      ((s.decideFrame ch).view.get ch).holdTimer = (u.view.get ch).holdTimer ∧
      ((s.decideFrame ch).store.get ch).get b = .shown p n 1 ∧ r.buffer = some b ∧ r.fresh = true ∧
      r.mesh = some (u.chooseMesh ch) ∧
      ∀ a, a ≠ b → ((s.decideFrame ch).store.get ch).get a =
        if ((s.store.get ch).get a).isShown then .free else (s.store.get ch).get a := by
  obtain ⟨store, -, -, r', view, -, buffer, fresh, mesh⟩ := State.decideFrame_leaves s ch hd
  have decided : u.decidedBuffer ch = some b := by
    rw [State.decidedBuffer, hv, hs, FrameStore.take_find_shown hb hp]; rfl
  rw [view] at hr
  obtain rfl := Option.some.inj hr
  rw [decided] at buffer fresh mesh
  rw [view, store, hs]
  refine ⟨hv, rfl, ?_, buffer, fresh, mesh, fun a ha => ?_⟩
  · rw [FrameStore.take_get hb hp, if_pos rfl]
  · rw [FrameStore.take_get hb hp, if_neg ha]

/-- R58: the frame of a view that shows a buffer and repeats it. -/
theorem State.decideFrame_repeats {b : BufferId} {p : Picture} {n : BitVec 16} {times : Nat} {r : FrameRecord}
    (hd : s.decide ch = (u, false)) (hv : (u.view.get ch).state.showsBuffer = true)
    (hs : u.store.get ch = (s.store.get ch).repeatShown) (hr : ((s.decideFrame ch).view.get ch).record = some r)
    (hb : (s.store.get ch).find Buffer.isShown = some b) (hp : (s.store.get ch).get b = .shown p n times) :
    ((s.decideFrame ch).view.get ch).state = (u.view.get ch).state ∧
      ((s.decideFrame ch).store.get ch).get b = .shown p n (min 255 (times + 1)) ∧
      (∀ a, a ≠ b → ((s.decideFrame ch).store.get ch).get a = (s.store.get ch).get a) ∧ r.buffer = some b ∧
      r.fresh = false ∧ ((s.decideFrame ch).view.get ch).holdTimer = (u.view.get ch).holdTimer := by
  obtain ⟨store, -, -, r', view, -, buffer, fresh, -⟩ := State.decideFrame_leaves s ch hd
  have decided : u.decidedBuffer ch = some b := by
    rw [State.decidedBuffer, hv, hs, FrameStore.repeatShown_find_shown hb hp]; rfl
  rw [view] at hr
  obtain rfl := Option.some.inj hr
  rw [decided] at buffer
  rw [view, store, hs]
  refine ⟨rfl, ?_, fun a ha => ?_, buffer, fresh, rfl⟩
  · rw [FrameStore.repeatShown_get hb hp, if_pos rfl]
  · rw [FrameStore.repeatShown_get hb hp, if_neg ha]

/-- R60: the frame of a view that shows no buffer. -/
theorem State.decideFrame_shows_none {r : FrameRecord} (hd : s.decide ch = (u, false))
    (hv : (u.view.get ch).state.showsBuffer = false) (hr : ((s.decideFrame ch).view.get ch).record = some r) :
    ((s.decideFrame ch).view.get ch).state = (u.view.get ch).state ∧
      ((s.decideFrame ch).view.get ch).holdTimer = (u.view.get ch).holdTimer ∧ r.buffer = none ∧ r.fresh = false := by
  obtain ⟨-, -, -, r', view, -, buffer, fresh, -⟩ := State.decideFrame_leaves s ch hd
  have decided : u.decidedBuffer ch = none := by rw [State.decidedBuffer, hv]; rfl
  rw [view] at hr
  obtain rfl := Option.some.inj hr
  rw [decided] at buffer
  rw [view]
  exact ⟨rfl, rfl, buffer, fresh⟩

/-- R62: a decision leaves the entries. -/
theorem State.decide_entries (s : State) (ch : Channel) : (s.decide ch).1.entries = s.entries := by
  simp only [State.decide]
  split
  · split <;> rfl
  · split
    · rfl
    · split
      · exact s.enterFallback_entries ch
      · rfl
  · split <;> rfl
  · split <;> rfl

end

section

variable {u : State} {ch : Channel} {r : FrameRecord}

/-- R62: the frame of a view that is LIVE, or may go LIVE, where a READY buffer stands. -/
theorem State.decideFrame_of_ready {b : BufferId} {p : Picture} {n : BitVec 16}
    (hr : ((u.decideFrame ch).view.get ch).record = some r)
    (hb : (u.store.get ch).find Buffer.isReady = some b) (hp : (u.store.get ch).get b = .ready p n)
    (hv : (u.view.get ch).state = .live ∨ (u.meshValid ch = true ∧ u.withheld ch = false)) :
    ((u.decideFrame ch).view.get ch).state = .live ∧
      ((u.decideFrame ch).view.get ch).holdTimer =
        (if (u.view.get ch).state = .live then (u.view.get ch).holdTimer else 0) ∧
      ((u.decideFrame ch).store.get ch).get b = .shown p n 1 ∧ r.buffer = some b ∧ r.fresh = true ∧
      r.mesh = some (u.chooseMesh ch) ∧
      ∀ a, a ≠ b → ((u.decideFrame ch).store.get ch).get a =
        if ((u.store.get ch).get a).isShown then .free else (u.store.get ch).get a := by
  have ready : (u.store.get ch).hasReady = true := by rw [FrameStore.hasReady, hb]; rfl
  by_cases live : (u.view.get ch).state = .live
  · rw [if_pos live]
    have taken := State.decideFrame_takes (State.decide_live_takes live ready) live (Pair.get_set _ ch _) hr hb hp
    exact taken
  · obtain ⟨valid, withheld⟩ := hv.resolve_left live
    have may : u.mayGoLive ch = true := by rw [State.mayGoLive, valid, withheld, ready]; rfl
    have wentLive : ((u.setViewState ch .live 0).takeBuffer ch).view.get ch =
        { u.view.get ch with state := .live, holdTimer := 0 } := Pair.get_set _ ch _
    have taken := State.decideFrame_takes (State.decide_goes_live live may) (congrArg ViewControl.state wentLive)
      (Pair.get_set _ ch _) hr hb hp
    rw [wentLive] at taken
    rw [if_neg live]
    exact taken

/-- R62, step 3: the frame at which the hold timer reaches HOLD_LIMIT, with no line in progress. -/
theorem State.decideFrame_at_limit (hr : ((u.decideFrame ch).view.get ch).record = some r)
    (hl : (u.link.get ch).frame.lineInProgress = none) (hm : u.mayGoLive ch = false)
    (hv : (u.view.get ch).state = .hold) (ht : (u.params.get ch).holdLimit ≤ (u.view.get ch).holdTimer + 1) :
    ((u.decideFrame ch).view.get ch).state = .fallback ∧ ((u.decideFrame ch).view.get ch).holdTimer = 0 ∧
      r.buffer = none ∧ r.fresh = false ∧ (∀ x ∈ ((u.decideFrame ch).glare.get ch).tiles, x = Tile.reset) ∧
      ∀ a, (((u.decideFrame ch).store.get ch).get a).isShown = false := by
  have falls := State.decide_falls_back hv hm ht
  obtain ⟨store, -, tiles, -⟩ := State.decideFrame_leaves u ch falls
  obtain ⟨entered, zero, reset, -, ⟨hidden, freed, -⟩, -⟩ :=
    State.enterFallback_fellBack (s := u) (w := u) (ch := ch) rfl rfl rfl
  obtain ⟨state, timer, buffer, fresh⟩ := State.decideFrame_shows_none falls (by rw [entered]; rfl) hr
  rw [store, tiles]
  refine ⟨state.trans entered, timer.trans zero, buffer, fresh, reset, fun a => ?_⟩
  cases shown : ((u.store.get ch).get a).isShown with
  | false => rw [hidden a shown, shown]
  | true => rw [((freed a shown).1 hl).1]; rfl

/-- R62: the frame of a view that is LIVE without a READY buffer, or in HOLD short of HOLD_LIMIT. -/
theorem State.decideFrame_of_shown {b : BufferId} {p : Picture} {n : BitVec 16} {times : Nat}
    (hr : ((u.decideFrame ch).view.get ch).record = some r)
    (hb : (u.store.get ch).find Buffer.isShown = some b) (hp : (u.store.get ch).get b = .shown p n times)
    (hv : ((u.view.get ch).state = .live ∧ (u.store.get ch).hasReady = false) ∨
      ((u.view.get ch).state = .hold ∧ u.mayGoLive ch = false ∧
        (u.view.get ch).holdTimer + 1 < (u.params.get ch).holdLimit)) :
    ((u.decideFrame ch).view.get ch).state = (u.view.get ch).state ∧
      ((u.decideFrame ch).store.get ch).get b = .shown p n (min 255 (times + 1)) ∧
      (∀ a, a ≠ b → ((u.decideFrame ch).store.get ch).get a = (u.store.get ch).get a) ∧ r.buffer = some b ∧
      r.fresh = false ∧ ((u.decideFrame ch).view.get ch).holdTimer =
        (if (u.view.get ch).state = .hold then (u.view.get ch).holdTimer + 1 else (u.view.get ch).holdTimer) := by
  rcases hv with ⟨live, noReady⟩ | ⟨hold, stays, short⟩
  · rw [if_neg (by rw [live]; exact nofun)]
    have repeated := State.decideFrame_repeats (State.decide_live_repeats live noReady)
      (congrArg ViewState.showsBuffer live) (Pair.get_set _ ch _) hr hb hp
    exact repeated
  · have held : ((u.setViewState ch .hold ((u.view.get ch).holdTimer + 1)).repeatBuffer ch).view.get ch =
        { u.view.get ch with state := .hold, holdTimer := (u.view.get ch).holdTimer + 1 } := Pair.get_set _ ch _
    have repeated := State.decideFrame_repeats (State.decide_hold_repeats hold stays short) (by rw [held]; rfl)
      (Pair.get_set _ ch _) hr hb hp
    rw [held] at repeated
    rw [if_pos hold, hold]
    exact repeated

/-- R62: the frame of a view in START or FALLBACK that may not go LIVE. -/
theorem State.decideFrame_of_blank (hr : ((u.decideFrame ch).view.get ch).record = some r) (hm : u.mayGoLive ch = false)
    (hv : (u.view.get ch).state = .start ∨ (u.view.get ch).state = .fallback) :
    ((u.decideFrame ch).view.get ch).state = (u.view.get ch).state ∧ (u.decideFrame ch).store = u.store ∧
      r.buffer = none ∧ r.fresh = false := by
  have shows := State.decide_shows_none hv hm
  obtain ⟨store, -⟩ := State.decideFrame_leaves u ch shows
  obtain ⟨state, -, buffer, fresh⟩ :=
    State.decideFrame_shows_none shows (by rcases hv with hv | hv <;> rw [hv] <;> rfl) hr
  exact ⟨state, store, buffer, fresh⟩

end

/-- Settles O40: the frame is decided on a state that differs in the link's numbers and the timing alone, by the step of
R62 that takes it. -/
theorem frameIsDecidedInFourSteps : Obligations.FrameIsDecidedInFourSteps := by
  intro s ch hh hd hoff hw hp hr
  obtain ⟨x, y, started, hx⟩ := State.startFrame_eq hoff hw hp hr
  obtain ⟨u, hu⟩ : ∃ u, u = (s.setLink ch x).setTiming ch y := ⟨_, rfl⟩
  have view : u.view = s.view := by rw [hu]; rfl
  have store : u.store = s.store := by rw [hu]; rfl
  have may : u.mayGoLive ch = s.mayGoLive ch := by rw [hu]; rfl
  have params : u.params = s.params := by rw [hu]; rfl
  have valid : u.meshValid ch = s.meshValid ch := by rw [hu]; rfl
  have withheld : u.withheld ch = s.withheld ch := by rw [hu]; rfl
  have mesh : u.chooseMesh ch = s.chooseMesh ch := by rw [hu]; rfl
  have line : (u.link.get ch).frame.lineInProgress = none := by
    rw [hu, State.setTiming_link, State.setLink_link, Pair.get_set]; exact hx
  rw [← hu] at started
  obtain ⟨-, entries, -, r, leftView, viewed, -⟩ := State.decideFrame_leaves u ch (u := (u.decide ch).1)
    (fresh := (u.decide ch).2) rfl
  have record : ((u.decideFrame ch).view.get ch).record = some r := congrArg ViewControl.record leftView
  refine ⟨u.decideFrame ch, r, ?_, record, ?_, ?_, fun b p n hb hbp hv => ?_, fun hm hv => ?_, fun hm hv hl => ?_,
    fun b p n times hb hbp hv => ?_⟩
  · rw [exec_displayFrameStart, execDisplayFrameStart, whenRunning_eq hh, if_pos hd, started]
  · rw [viewed, leftView]
  · rw [entries, State.decide_entries, hu]; rfl
  · rw [← store, ← view, ← valid, ← withheld] at *
    have taken := State.decideFrame_of_ready record hb hbp hv
    rw [mesh] at taken
    exact taken
  · rw [← view] at hv ⊢
    rw [← store]
    exact State.decideFrame_of_blank record (may.trans hm) hv
  · rw [← view] at hv hl
    rw [← params] at hl
    exact State.decideFrame_at_limit record line (may.trans hm) hv hl
  · rw [← store, ← view, ← params, ← may] at *
    exact State.decideFrame_of_shown record hb hbp hv

end Sys2Proof.Machine
end

section
/-! An active line (R67, R77, R97, R129 to R131). -/

namespace Sys2Proof.Machine

/-! ## The composited line -/

section

variable {s : State} {ch : Channel} {r : FrameRecord} {y : Nat}

theorem compositeLine_start {items : FrameItems} {base : List Rgb} (hv : r.view = .start) :
    compositeLine items r base y = base := by
  simp only [compositeLine, hv]

/-- R123: but in START the layers are drawn over each pixel of the base. -/
theorem compositeLine_layers {items : FrameItems} {base : List Rgb} (hv : r.view ≠ .start) :
    compositeLine items r base y = base.mapIdx fun x c => drawLayers items.overlay r.conditions x y c := by
  cases h : r.view with
  | start => exact absurd h hv
  | live | hold | fallback => simp only [compositeLine, h]

@[simp] theorem compositeLine_length {items : FrameItems} {base : List Rgb} :
    (compositeLine items r base y).length = base.length := by
  by_cases hv : r.view = .start
  · rw [compositeLine_start hv]
  · rw [compositeLine_layers hv, List.length_mapIdx]

@[simp] theorem remapLine_length {p : ChannelParams} {items : FrameItems} {pic : Picture} :
    (remapLine p items pic y).length = p.dispWidth := by
  rw [remapLine, List.length_map, List.length_range]

@[simp] theorem tonedLine_length {p : ChannelParams} {items : FrameItems} {tiles : List Tile} {xs : List Rgb} :
    (tonedLine p items tiles xs y).length = xs.length := List.length_mapIdx

theorem State.recordPicture_shown {b : BufferId} {p : Picture} (hv : r.view = .live ∨ r.view = .hold)
    (hb : r.buffer = some b) (hp : ((s.store.get ch).get b).picture = some p) : s.recordPicture ch r = some p := by
  have shows : r.view.showsBuffer = true := by rcases hv with hv | hv <;> rw [hv] <;> rfl
  simp only [State.recordPicture, shows, if_true, hb, hp]

theorem State.recordPicture_hidden (hv : r.view = .start ∨ r.view = .fallback) : s.recordPicture ch r = none := by
  have hides : r.view.showsBuffer = false := by rcases hv with hv | hv <;> rw [hv] <;> rfl
  rw [State.recordPicture, hides, if_neg Bool.false_ne_true]

/-- R77, R97: the line of a record that shows a picture. -/
theorem State.renderLine_shown {pic : Picture} (h : s.recordPicture ch r = some pic) : s.renderLine ch r y =
    (compositeLine (s.link.get ch).frame.items r (tonedLine (s.params.get ch) (s.link.get ch).frame.items
        (s.glare.get ch).tiles (remapLine (s.params.get ch) (s.link.get ch).frame.items pic y) y) y,
      countHot (s.params.get ch).hotLevel (s.params.get ch).cellWidth (s.params.get ch).cellHeight y (s.glare.get ch).hot
        ((remapLine (s.params.get ch) (s.link.get ch).frame.items pic y).map luminance)) := by
  simp only [State.renderLine, h]

/-- R130, R131: the line of a record that shows none is made of the field, and counts no hot pixel. -/
theorem State.renderLine_field (h : s.recordPicture ch r = none) : s.renderLine ch r y =
    (compositeLine (s.link.get ch).frame.items r (fieldLine (s.params.get ch)) y, (s.glare.get ch).hot) := by
  simp only [State.renderLine, h]

theorem State.renderLine_length : (s.renderLine ch r y).1.length = (s.params.get ch).dispWidth := by
  cases h : s.recordPicture ch r with
  | none => rw [State.renderLine_field h, compositeLine_length, fieldLine, List.length_replicate]
  | some pic => rw [State.renderLine_shown h, compositeLine_length, tonedLine_length, remapLine_length]

end

/-! ## Its pixels -/

section

variable {p : ChannelParams} {items : FrameItems} {pic : Picture} {x y : Nat}

theorem remapLine_getElem? (hx : x < p.dispWidth) :
    (remapLine p items pic y)[x]? = some (remapPixel items.mesh p.cellWidth p.cellHeight pic p.borderColour x y) := by
  rw [remapLine, List.getElem?_map, List.getElem?_range hx, Option.map_some]

/-- R77, R111: remap, gain and tone, in that order. -/
theorem tonedLine_getElem? {tiles : List Tile} (hx : x < p.dispWidth) :
    (tonedLine p items tiles (remapLine p items pic y) y)[x]? = some (tonePixel items.knots
      (gainPixel (pixelGain tiles p.cellWidth p.cellHeight x y)
        (remapPixel items.mesh p.cellWidth p.cellHeight pic p.borderColour x y))) := by
  rw [tonedLine, List.getElem?_mapIdx, remapLine_getElem? hx, Option.map_some]

theorem fieldLine_getElem? (hx : x < p.dispWidth) : (fieldLine p)[x]? = some p.fieldColour := by
  rw [fieldLine, List.getElem?_replicate, if_pos hx]

theorem compositeLine_getElem? {r : FrameRecord} {base : List Rgb} {c : Rgb} (hv : r.view ≠ .start)
    (hc : base[x]? = some c) :
    (compositeLine items r base y)[x]? = some (drawLayers items.overlay r.conditions x y c) := by
  rw [compositeLine_layers hv, List.getElem?_mapIdx, hc, Option.map_some]

/-! ## Its hot counts (R97) -/

/-- A run of columns that lies in the line is the run of a range mapped to its pixels. -/
theorem take_drop_map_range {α : Type} (f : Nat → α) {a n w : Nat} (h : a + n ≤ w) :
    (((List.range w).map f).drop a).take n = (List.range n).map fun k => f (a + k) := by
  refine List.ext_getElem? fun k => ?_
  rw [List.getElem?_take, List.getElem?_drop, List.getElem?_map, List.getElem?_map]
  by_cases hk : k < n
  · rw [if_pos hk, List.getElem?_range (by omega), List.getElem?_range hk]; rfl
  · rw [if_neg hk, List.getElem?_eq_none (by simpa using hk)]; rfl

/-- R75: the columns of a tile lie in the line. -/
theorem tile_columns_le (p : ChannelParams) (n : Nat) : n % 8 * p.cellWidth + p.cellWidth ≤ p.dispWidth := by
  have column : n % 8 + 1 ≤ 8 := Nat.mod_lt n (by decide)
  calc n % 8 * p.cellWidth + p.cellWidth = (n % 8 + 1) * p.cellWidth := by rw [Nat.add_mul, Nat.one_mul]
    _ ≤ 8 * p.cellWidth := Nat.mul_le_mul_right _ column
    _ ≤ p.dispWidth := Nat.mul_div_le p.dispWidth 8

/-- R97: a line adds to the tiles of its row the hot pixels of their columns. -/
theorem countHot_getElem? {hot : List Nat} {n count : Nat} (hn : hot[n]? = some count) :
    (countHot p.hotLevel p.cellWidth p.cellHeight y hot ((remapLine p items pic y).map luminance))[n]? =
      some (if n / 8 = y / p.cellHeight then
        count + (List.range p.cellWidth).countP (fun k => decide (p.hotLevel ≤ luminance
          (remapPixel items.mesh p.cellWidth p.cellHeight pic p.borderColour (n % 8 * p.cellWidth + k) y)))
        else count) := by
  rw [countHot, List.getElem?_mapIdx, hn, Option.map_some, remapLine, List.map_map,
    take_drop_map_range _ (tile_columns_le p n), List.countP_map]
  rfl

end

/-- R67, R139, R149: what the start of an active line writes. -/
theorem State.startLine_eq {s : State} {ch : Channel} {r : FrameRecord} (hr : (s.view.get ch).record = some r) :
    s.startLine ch = { s with
      link := s.link.set ch { s.link.get ch with
        frame := { (s.link.get ch).frame with
          nextLine := (s.link.get ch).frame.nextLine + 1, lineInProgress := some (s.link.get ch).frame.nextLine
          signature := (s.link.get ch).frame.signature.over (windowBytes (s.params.get ch).checkWindow
            (s.renderLine ch r (s.link.get ch).frame.nextLine).1 (s.link.get ch).frame.nextLine) } }
      glare := s.glare.set ch { s.glare.get ch with hot := (s.renderLine ch r (s.link.get ch).frame.nextLine).2 }
      outputs := s.outputs.set ch
        { s.outputs.get ch with lineOut := (s.renderLine ch r (s.link.get ch).frame.nextLine).1 } } := by
  simp only [State.startLine, hr]
  rfl

/-- Settles O42: the line is `renderLine`'s, by the record's view. -/
theorem activeLineShowsWhatRecordSays : Obligations.ActiveLineShowsWhatRecordSays := by
  rintro s ch r y hh hl hr rfl
  have started := State.startLine_eq hr
  have out : ((s.startLine ch).outputs.get ch).lineOut = (s.renderLine ch r (s.link.get ch).frame.nextLine).1 := by
    rw [started]; exact congrArg _ (Pair.get_set _ ch _)
  have hot : ((s.startLine ch).glare.get ch).hot = (s.renderLine ch r (s.link.get ch).frame.nextLine).2 := by
    rw [started]; exact congrArg _ (Pair.get_set _ ch _)
  have layered (h : r.view = .live ∨ r.view = .hold) : r.view ≠ .start := by rcases h with h | h <;> rw [h] <;> exact nofun
  refine ⟨s.startLine ch, ?_, ?_, ?_, fun hv => ?_, fun hv => ?_, fun b p hv hb hp x hx => ?_,
    fun b p hv hb hp n count tw th hn htw hth => ?_⟩
  · rw [exec_activeLineStart, execActiveLineStart, whenRunning_eq hh, if_pos hl]
  · rw [out, hot]; exact started
  · rw [out, State.renderLine_length]
  · rw [out, hot, State.renderLine_field (State.recordPicture_hidden (.inl hv)), compositeLine_start hv]
    exact ⟨rfl, rfl⟩
  · rw [out, hot, State.renderLine_field (State.recordPicture_hidden (.inr hv))]
    exact ⟨rfl, fun x hx => compositeLine_getElem? (by rw [hv]; exact nofun) (fieldLine_getElem? hx)⟩
  · rw [out, State.renderLine_shown (State.recordPicture_shown hv hb hp)]
    exact compositeLine_getElem? (layered hv) (tonedLine_getElem? hx)
  · subst htw hth
    rw [hot, State.renderLine_shown (State.recordPicture_shown hv hb hp)]
    exact countHot_getElem? hn

end Sys2Proof.Machine
end

section
/-! The display frame end (R68, R69, R98, R101, R107, R150). -/

namespace Sys2Proof.Machine

/-! ## An evaluation that may not be due -/

/-- R177: an evaluation of a kind with its outcome, where one is due. -/
def State.evaluateWhere (s : State) (ch : Channel) (k : FaultKind) (due : Option (Option Nat)) : State :=
  due.elim s (s.evaluate ch k)

/-- R177: the entry that it leaves. -/
def State.judgedWhere (s : State) (ch : Channel) (k : FaultKind) (due : Option (Option Nat)) : FaultEntry :=
  due.elim (s.entry ch k) (s.judged ch k)

section

variable (s : State) (ch : Channel) (k : FaultKind) (due : Option (Option Nat))

theorem State.evaluateWhere_evalFrame : State.EvalFrame ch s (s.evaluateWhere ch k due) := by
  cases due with
  | none => exact .refl ch s
  | some o => exact s.evaluate_evalFrame ch k o

theorem State.evaluateWhere_entry : (s.evaluateWhere ch k due).entry ch k = s.judgedWhere ch k due := by
  cases due with
  | none => rfl
  | some o => exact s.evaluate_entry ch k o

theorem State.evaluateWhere_entry_other {j : FaultKind} (h : j ≠ k) :
    (s.evaluateWhere ch k due).entry ch j = s.entry ch j := by
  cases due with
  | none => rfl
  | some o => exact s.evaluate_entry_other ch o (.inl h)

variable {s ch k}

theorem State.judgedWhere_congr {t : State} (hk : t.entry ch k = s.entry ch k) (h : State.EvalFrame ch s t) :
    t.judgedWhere ch k due = s.judgedWhere ch k due := by
  cases due with
  | none => exact hk
  | some o => exact State.judged_congr o hk h.tables h.counter h.link

end

/-- R63, R180: evaluations write the channel's own entries, view, buffers and glare unit, and the fault history. -/
theorem State.EvalFrame.channel {s t : State} {ch : Channel} (h : State.EvalFrame ch s t) : t = { s with
    entries := s.entries.set ch (t.entries.get ch), history := t.history, historyCount := t.historyCount
    view := s.view.set ch (t.view.get ch), store := s.store.set ch (t.store.get ch)
    glare := s.glare.set ch (t.glare.get ch) } := by
  rw [← Pair.eq_set_of_other fun c hc => (h.other c hc).1, ← Pair.eq_set_of_other fun c hc => (h.other c hc).2.1,
    ← Pair.eq_set_of_other fun c hc => (h.other c hc).2.2.1, ← Pair.eq_set_of_other fun c hc => (h.other c hc).2.2.2]
  exact h.frame

/-! ## The tile map under evaluations (R65, R108) -/

/-- From `s` to `t` the glare unit stands, but for the tiles that an entry to FALLBACK resets. -/
structure State.TilesMoved (ch : Channel) (s t : State) : Prop where
  fallback : (s.view.get ch).state = .fallback → (t.view.get ch).state = .fallback
  stands : (s.view.get ch).state = .fallback ∨ (t.view.get ch).state ≠ .fallback → t.glare.get ch = s.glare.get ch
  enters : (s.view.get ch).state ≠ .fallback → (t.view.get ch).state = .fallback →
    ∀ x ∈ (t.glare.get ch).tiles, x = Tile.reset

section

variable {ch : Channel} {s t u : State}

theorem State.TilesMoved.of_eq (hv : (t.view.get ch).state = .fallback ↔ (s.view.get ch).state = .fallback)
    (hg : t.glare.get ch = s.glare.get ch) : State.TilesMoved ch s t :=
  ⟨hv.mpr, fun _ => hg, fun hn hf => absurd (hv.mp hf) hn⟩

theorem State.TilesMoved.refl (ch : Channel) (s : State) : State.TilesMoved ch s s := .of_eq Iff.rfl rfl

theorem State.TilesMoved.trans (h : State.TilesMoved ch s t) (k : State.TilesMoved ch t u) :
    State.TilesMoved ch s u := by
  refine ⟨fun hs => k.fallback (h.fallback hs), fun hsu => ?_, fun hs hu => ?_⟩
  · rcases hsu with hs | hu
    · exact (k.stands (.inl (h.fallback hs))).trans (h.stands (.inl hs))
    · exact (k.stands (.inr hu)).trans (h.stands (.inr fun ht => hu (k.fallback ht)))
  · by_cases ht : (t.view.get ch).state = .fallback
    · rw [k.stands (.inl ht)]
      exact h.enters hs ht
    · exact k.enters ht hu

theorem State.tellView_tilesMoved (w : State) (a : Option Action) : State.TilesMoved ch w (w.tellView ch a) := by
  by_cases ha : a = some .fallback
  · subst ha
    by_cases hv : (w.view.get ch).state = .fallback
    · have stays : w.tellView ch (some .fallback) = w := if_pos hv
      rw [stays]
      exact .refl ch w
    · rw [State.tellView_fallback hv]
      obtain ⟨entered, -, reset, -⟩ := State.enterFallback_fellBack (s := w) (w := w) (ch := ch) rfl rfl rfl
      exact ⟨fun _ => entered, fun h => h.elim (absurd · hv) (absurd entered), fun _ _ => reset⟩
  · rcases State.tellView_eq_of_ne_fallback (w := w) (ch := ch) ha with hw | ⟨hlive, hw⟩
    · rw [hw]
      exact .refl ch w
    · have held : ((w.setViewState ch .hold 0).view.get ch).state = .hold :=
        congrArg ViewControl.state (Pair.get_set _ ch _)
      rw [hw]
      refine .of_eq ?_ rfl
      rw [held, hlive]
      exact ⟨nofun, nofun⟩

theorem State.evaluate_tilesMoved (s : State) (ch : Channel) (k : FaultKind) (o : Option Nat) :
    State.TilesMoved ch s (s.evaluate ch k o) := by
  obtain ⟨w, heq, hview, -, hglare, -⟩ := s.evaluate_eq_tellView ch k o
  have before : State.TilesMoved ch s w := .of_eq (by rw [hview]) (by rw [hglare])
  rw [heq]
  exact before.trans (w.tellView_tilesMoved _)

theorem State.evaluateWhere_tilesMoved (s : State) (ch : Channel) (k : FaultKind) (due : Option (Option Nat)) :
    State.TilesMoved ch s (s.evaluateWhere ch k due) := by
  cases due with
  | none => exact .refl ch s
  | some o => exact s.evaluate_tilesMoved ch k o

end

/-! ## The three evaluations of a frame end -/

/-- R68: the evaluation of LATENCY that is due. -/
def State.latencyDue (s : State) (ch : Channel) (r : FrameRecord) : Option (Option Nat) :=
  match r.fresh, (s.store.get ch).shownPicture with
  | true, some (pic, _) => some (latencyOutcome (s.params.get ch).latencyLimit r.start pic.arrival)
  | _, _ => none

/-- R69: the evaluation of VIEW_STALE that is due. -/
def State.staleDue (s : State) (ch : Channel) (r : FrameRecord) : Option (Option Nat) :=
  staleOutcome (s.params.get ch).repeatLimit r.view (s.store.get ch).hasReady
    ((s.store.get ch).shownPicture.map Prod.snd)

/-- R107: the evaluation of GLARE_SATURATED that is due. -/
def State.glareDue (s : State) (ch : Channel) (r : FrameRecord) : Option (Option Nat) :=
  if r.fresh then
    some (if (s.params.get ch).glareTileLimit ≤ (s.glare.get ch).tilesInGlare then some (s.glare.get ch).tilesInGlare
      else none)
  else none

section

variable (s : State) (ch : Channel) (r : FrameRecord)

theorem State.evaluateFrameEnd_eq : s.evaluateFrameEnd ch r =
    ((s.evaluateWhere ch .latency (s.latencyDue ch r)).evaluateWhere ch .viewStale (s.staleDue ch r)).evaluateWhere ch
      .glareSaturated (s.glareDue ch r) := by
  simp only [State.evaluateFrameEnd, State.latencyDue, State.staleDue, State.glareDue]
  generalize staleOutcome _ _ _ _ = stale
  cases r.fresh with
  | false => cases stale <;> rfl
  | true => cases (s.store.get ch).shownPicture <;> cases stale <;> rfl

theorem State.evaluateFrameEnd_evalFrame : State.EvalFrame ch s (s.evaluateFrameEnd ch r) := by
  rw [State.evaluateFrameEnd_eq]
  exact ((s.evaluateWhere_evalFrame ch _ _).trans (State.evaluateWhere_evalFrame _ ch _ _)).trans
    (State.evaluateWhere_evalFrame _ ch _ _)

theorem State.evaluateFrameEnd_tilesMoved : State.TilesMoved ch s (s.evaluateFrameEnd ch r) := by
  rw [State.evaluateFrameEnd_eq]
  exact ((s.evaluateWhere_tilesMoved ch _ _).trans (State.evaluateWhere_tilesMoved _ ch _ _)).trans
    (State.evaluateWhere_tilesMoved _ ch _ _)

/-- R68: each entry is judged as if its evaluation were the only one. -/
theorem State.evaluateFrameEnd_latency :
    (s.evaluateFrameEnd ch r).entry ch .latency = s.judgedWhere ch .latency (s.latencyDue ch r) := by
  simp [State.evaluateFrameEnd_eq, State.evaluateWhere_entry_other, State.evaluateWhere_entry]

theorem State.evaluateFrameEnd_viewStale :
    (s.evaluateFrameEnd ch r).entry ch .viewStale = s.judgedWhere ch .viewStale (s.staleDue ch r) := by
  rw [State.evaluateFrameEnd_eq]
  refine (State.evaluateWhere_entry_other _ ch _ _ (by decide)).trans ((State.evaluateWhere_entry _ ch _ _).trans ?_)
  exact State.judgedWhere_congr _ (State.evaluateWhere_entry_other _ ch _ _ (by decide)) (s.evaluateWhere_evalFrame ch _ _)

theorem State.evaluateFrameEnd_glareSaturated :
    (s.evaluateFrameEnd ch r).entry ch .glareSaturated = s.judgedWhere ch .glareSaturated (s.glareDue ch r) := by
  rw [State.evaluateFrameEnd_eq, State.evaluateWhere_entry]
  refine State.judgedWhere_congr _ ?_
    ((s.evaluateWhere_evalFrame ch _ _).trans (State.evaluateWhere_evalFrame _ ch _ _))
  simp [State.evaluateWhere_entry_other]

end

/-! ## What the frame end writes before them (R98, R101, R150) -/

/-- R98: the last counts that a frame end leaves. -/
def State.lastCounts (s : State) (ch : Channel) (r : FrameRecord) : List Nat :=
  if r.buffer.isSome then (s.glare.get ch).hot else (s.glare.get ch).last

/-- R101: the tiles that it leaves. -/
def State.updatedTiles (s : State) (ch : Channel) (r : FrameRecord) : List Tile :=
  if r.fresh then
    (List.zip (s.glare.get ch).tiles (s.lastCounts ch r)).map
      fun x => x.1.update (s.params.get ch) (s.link.get ch).frame.items.response r.night x.2
  else (s.glare.get ch).tiles

section

variable (s : State) (ch : Channel) (r : FrameRecord)

theorem State.closeLines_eq : s.closeLines ch r = { s with
    link := s.link.set ch { s.link.get ch with
      expected := pushExpected (s.link.get ch).expected (r.seq, (s.link.get ch).frame.signature.value)
      frame := { (s.link.get ch).frame with stage := .ended } }
    glare := s.glare.set ch { s.glare.get ch with tiles := s.updatedTiles ch r, last := s.lastCounts ch r } } := by
  simp only [State.closeLines, State.updatedTiles, State.lastCounts]
  cases r.fresh <;> cases r.buffer.isSome <;> rfl

theorem State.closeLines_glare : (s.closeLines ch r).glare.get ch =
    { s.glare.get ch with tiles := s.updatedTiles ch r, last := s.lastCounts ch r } := by
  rw [State.closeLines_eq, Pair.get_set]

theorem State.closeLines_judged (k : FaultKind) (o : Option Nat) :
    (s.closeLines ch r).judged ch k o = s.judged ch k o := by
  have seq : ((s.closeLines ch r).link.get ch).frameSeq = (s.link.get ch).frameSeq := by
    rw [State.closeLines_eq, Pair.get_set]
  rw [State.judged, seq]
  rfl

theorem State.closeLines_judgedWhere (k : FaultKind) (due : Option (Option Nat)) :
    (s.closeLines ch r).judgedWhere ch k due = s.judgedWhere ch k due := by
  cases due with
  | none => rfl
  | some o => exact s.closeLines_judged ch r k o

theorem State.endFrame_eq (hr : (s.view.get ch).record = some r) :
    s.endFrame ch = (s.closeLines ch r).evaluateFrameEnd ch r := by
  simp only [State.endFrame, hr]

end

/-! ## What is due (R68, R69, R107) -/

section

variable {s : State} {ch : Channel} {r : FrameRecord}

theorem State.latencyDue_of_fresh {p : Picture} {times : Nat} (hf : r.fresh = true)
    (hp : (s.store.get ch).shownPicture = some (p, times)) :
    s.latencyDue ch r = some (latencyOutcome (s.params.get ch).latencyLimit r.start p.arrival) := by
  simp only [State.latencyDue, hf, hp]

theorem State.latencyDue_of_not_fresh (hf : r.fresh = false) : s.latencyDue ch r = none := by
  simp only [State.latencyDue, hf]

theorem State.staleDue_of_ready (h : (s.store.get ch).hasReady = true) : s.staleDue ch r = some none := by
  rw [State.staleDue, h]; rfl

theorem State.staleDue_of_shown {p : Picture} {times : Nat} (h : (s.store.get ch).hasReady = false)
    (hp : (s.store.get ch).shownPicture = some (p, times)) (hv : r.view = .live ∨ r.view = .hold) :
    s.staleDue ch r = if (s.params.get ch).repeatLimit ≤ times then some (some times) else none := by
  rw [State.staleDue, h, hp]
  rcases hv with hv | hv <;> rw [hv] <;> rfl

theorem State.staleDue_of_hidden (h : (s.store.get ch).hasReady = false) (hv : r.view = .start ∨ r.view = .fallback) :
    s.staleDue ch r = none := by
  rw [State.staleDue, h]
  rcases hv with hv | hv <;> rw [hv] <;> rfl

end

/-- Settles O43: the evaluations judge the entries as the frame ended, and none but an entry to FALLBACK moves a tile. -/
theorem frameEndPushesAndEvaluates : Obligations.FrameEndPushesAndEvaluates := by
  intro s ch r hh he hr
  obtain ⟨w, hw⟩ : ∃ w, w = s.closeLines ch r := ⟨_, rfl⟩
  obtain ⟨t, ht⟩ : ∃ t, t = w.evaluateFrameEnd ch r := ⟨_, rfl⟩
  have ended : s.endFrame ch = t := by rw [s.endFrame_eq ch r hr, ht, hw]
  have frame : State.EvalFrame ch w t := ht ▸ w.evaluateFrameEnd_evalFrame ch r
  have moved : State.TilesMoved ch w t := ht ▸ w.evaluateFrameEnd_tilesMoved ch r
  have view : w.view = s.view := by rw [hw]; rfl
  have glare : w.glare.get ch = { s.glare.get ch with tiles := s.updatedTiles ch r, last := s.lastCounts ch r } := by
    rw [hw, s.closeLines_glare ch r]
  have due {k : FaultKind} {q : Option (Option Nat)} (h : t.entry ch k = w.judgedWhere ch k q) :
      t.entry ch k = s.judgedWhere ch k q := by rw [h, hw, s.closeLines_judgedWhere]
  have latencyDue : w.latencyDue ch r = s.latencyDue ch r := by rw [hw]; rfl
  have staleDue : w.staleDue ch r = s.staleDue ch r := by rw [hw]; rfl
  have latency := due (ht ▸ w.evaluateFrameEnd_latency ch r)
  have stale := due (ht ▸ w.evaluateFrameEnd_viewStale ch r)
  have saturated := due (ht ▸ w.evaluateFrameEnd_glareSaturated ch r)
  rw [latencyDue] at latency
  rw [staleDue] at stale
  have inGlare : (w.glare.get ch).tilesInGlare =
      ((s.updatedTiles ch r).filter fun x => x.state == .glare).length := by
    rw [glare, Glare.tilesInGlare, List.countP_eq_length_filter]
  have params : w.params = s.params := by rw [hw]; rfl
  refine ⟨t, s.updatedTiles ch r, (w.glare.get ch).tilesInGlare, ?_, ?_, rfl, fun hv => ?_, fun hs hv => ?_, inGlare,
    fun hf => ?_, fun hf => ⟨?_, ?_⟩, fun p times hf hp => ?_, fun hready => ?_,
    fun p times hready hp hv => ⟨fun hn => ?_, fun hn => ?_⟩, fun hready hv => ?_⟩
  · rw [exec_displayFrameEnd, execDisplayFrameEnd, whenRunning_eq hh, if_pos he, ended]
  · refine frame.channel.trans ?_
    rw [hw, s.closeLines_eq ch r, Pair.set_set]
    rfl
  · rw [moved.stands (by rw [view]; exact hv), glare]
    exact ⟨rfl, rfl⟩
  · exact moved.enters (by rw [view]; exact hs) hv
  · rw [saturated, State.glareDue, if_pos hf, params]; rfl
  · rw [latency, State.latencyDue_of_not_fresh hf]; rfl
  · rw [saturated, State.glareDue, hf]; rfl
  · rw [latency, State.latencyDue_of_fresh hf hp]; rfl
  · rw [stale, State.staleDue_of_ready hready]; rfl
  · rw [stale, State.staleDue_of_shown hready hp hv, if_pos hn]; rfl
  · rw [stale, State.staleDue_of_shown hready hp hv, if_neg (Nat.not_le.mpr hn)]; rfl
  · rw [stale, State.staleDue_of_hidden hready hv]; rfl

end Sys2Proof.Machine
end

section
/-! The invariants at the reset state (R208). -/

namespace Sys2Proof.Machine

/-! ## The reset state's tables and channels -/

@[simp] theorem State.reset_table (t : TableId) : State.reset.table t = .reset := TableStore.reset_get t

theorem State.reset_isValid (t : TableId) : State.reset.isValid t = false := by rw [State.isValid, State.reset_table]; rfl

@[simp] theorem FaultEntries.reset_get (k : FaultKind) : FaultEntries.reset.get k = .reset k := by cases k <;> rfl

@[simp] theorem State.reset_entry (ch : Channel) (k : FaultKind) : State.reset.entry ch k = .reset k := by
  rw [State.entry, State.reset, Pair.get_both, FaultEntries.reset_get]

theorem State.reset_paramValue (ch : Channel) (p : Param) :
    State.reset.paramValue ch p = State.reset.paramValue .left p := by cases ch <;> rfl

/-- R206: every default lies in its range, on its step. -/
theorem Param.legal_default (p : Param) : p.Legal (State.reset.paramValue .left p) := by
  cases p <;> exact ⟨rfl, by decide⟩

/-! ## The invariants, one by one -/

theorem blankMapsReset_reset : State.reset.BlankMapsReset := by
  intro ch _
  rw [State.reset, Pair.get_both, Pair.get_both]
  exact ⟨fun t ht => List.eq_of_mem_replicate ht, nofun⟩

theorem sourcesSound_reset : State.reset.SourcesSound := by
  intro ch
  rw [State.reset, Pair.get_both]
  exact ⟨nofun, nofun⟩

theorem requestsOwned_reset : State.reset.RequestsOwned := by
  intro ch
  rw [State.reset, Pair.get_both]
  exact nofun

theorem slotsSound_reset : State.reset.SlotsSound := by
  intro ch
  cases ch <;> decide

theorem expectedSound_reset : State.reset.ExpectedSound := by
  intro ch
  rw [State.reset, Pair.get_both]
  exact Nat.zero_le 4

theorem engineSound_reset : State.reset.EngineSound := by
  refine ⟨List.nodup_nil, fun t => ?_, nofun, nofun⟩
  rw [State.reset_table]
  exact ⟨nofun, nofun⟩

theorem meshesCovered_reset : State.reset.MeshesCovered := by
  intro ch rect hr
  rw [State.reset, Pair.get_both] at hr
  cases hr

theorem loadsBounded_reset : State.reset.LoadsBounded := by
  intro t
  rw [State.reset_table]
  trivial

theorem faultsSound_reset : State.reset.FaultsSound := by
  refine ⟨fun ch k => ?_, by decide⟩
  rw [State.reset_entry]
  exact ⟨Nat.zero_le 255, Nat.zero_le 255, fun _ => rfl⟩

theorem paramsSound_reset : State.reset.ParamsSound := by
  have none (ch : Channel) : State.reset.pendingParams.get ch = [] := by rw [State.reset, Pair.get_both]
  refine fun ch => ⟨fun p => ?_, ?_, ?_⟩
  · rw [State.reset_paramValue ch]
    exact p.legal_default
  · rw [none]; exact nofun
  · rw [none]; exact List.nodup_nil

theorem gainsSound_reset : State.reset.GainsSound := by
  refine fun ch => ⟨fun t ht => ?_, ?_, ?_, ?_⟩
  · rw [State.reset, Pair.get_both] at ht
    rw [State.reset, Pair.get_both, List.eq_of_mem_replicate ht]
    decide
  · rw [State.reset, Pair.get_both]
    exact nofun
  · rw [State.responseInUse, State.reset_isValid]
    exact fun v hv => (List.eq_of_mem_replicate hv).le
  · rw [State.reset_table]
    exact nofun

/-- Settles O4: the conjunction of the lemmas above. -/
theorem resetMeetsInvariants : Obligations.ResetMeetsInvariants :=
  ⟨buffersSound_reset, viewsSound_of_reset rfl, blankMapsReset_reset, sourcesSound_reset, requestsOwned_reset,
    slotsSound_reset, expectedSound_reset, engineSound_reset, meshesCovered_reset, loadsBounded_reset, faultsSound_reset,
    paramsSound_reset, gainsSound_reset⟩

end Sys2Proof.Machine
end

section
/-! The stages of a pixel (R81 to R85, R87, R89, R112 to R114): positions, samples, gains and tones as weighted means. -/

namespace Sys2Proof.Machine

/-! ## Weighted means

The rules round a mean of two or four values by adding half of the weights' sum before they divide. The bounds are stated on
the sum itself, so that one lemma serves the signed positions and the unsigned gains. -/

section

variable {R : Type} [CommSemiring R] [PartialOrder R] [IsOrderedRing R]

theorem weighted_sum_between {lo hi a b w z : R} (ha : lo ≤ a ∧ a ≤ hi) (hb : lo ≤ b ∧ b ≤ hi) (hw : 0 ≤ w) (hz : 0 ≤ z) :
    lo * (w + z) ≤ a * w + b * z ∧ a * w + b * z ≤ hi * (w + z) := by
  obtain ⟨loa, ahi⟩ := ha
  obtain ⟨lob, bhi⟩ := hb
  rw [mul_add, mul_add]
  constructor <;> gcongr

/-- The bilinear sum of a cell's corners is a weighted sum of the weighted sums along its two rows. -/
theorem bilinear_sum_between {lo hi a b c d w z m n : R} (ha : lo ≤ a ∧ a ≤ hi) (hb : lo ≤ b ∧ b ≤ hi)
    (hc : lo ≤ c ∧ c ≤ hi) (hd : lo ≤ d ∧ d ≤ hi) (hw : 0 ≤ w) (hz : 0 ≤ z) (hm : 0 ≤ m) (hn : 0 ≤ n) :
    lo * ((w + z) * (m + n)) ≤ a * (w * m) + b * (z * m) + c * (w * n) + d * (z * n) ∧
      a * (w * m) + b * (z * m) + c * (w * n) + d * (z * n) ≤ hi * ((w + z) * (m + n)) := by
  have rows : a * (w * m) + b * (z * m) + c * (w * n) + d * (z * n) = (a * w + b * z) * m + (c * w + d * z) * n := by ring
  rw [rows, ← mul_assoc, ← mul_assoc]
  exact weighted_sum_between (weighted_sum_between ha hb hw hz) (weighted_sum_between hc hd hw hz) hm hn

end

theorem rounded_div_between {lo hi sum total half : Int} (h : lo * total ≤ sum ∧ sum ≤ hi * total) (h0 : 0 ≤ half)
    (hhalf : half < total) : lo ≤ (sum + half) / total ∧ (sum + half) / total ≤ hi := by
  obtain ⟨below, above⟩ := h
  have pos : 0 < total := h0.trans_lt hhalf
  have next : sum + half < (hi + 1) * total := by rw [add_mul, one_mul]; omega
  exact ⟨(Int.le_ediv_iff_mul_le pos).mpr (by omega), Int.lt_add_one_iff.mp ((Int.ediv_lt_iff_lt_mul pos).mpr next)⟩

/-! ## The source position (R81, R82) -/

section

variable {cw ch u v : Nat}

theorem interpolate_between {lo hi p00 p10 p01 p11 : Int} (hu : u < cw) (hv : v < ch) (h00 : lo ≤ p00 ∧ p00 ≤ hi)
    (h10 : lo ≤ p10 ∧ p10 ≤ hi) (h01 : lo ≤ p01 ∧ p01 ≤ hi) (h11 : lo ≤ p11 ∧ p11 ≤ hi) :
    lo ≤ interpolate cw ch u v p00 p10 p01 p11 ∧ interpolate cw ch u v p00 p10 p01 p11 ≤ hi := by
  have area : 0 < cw * ch := Nat.mul_pos (by omega) (by omega)
  have weights : ((cw * ch : Nat) : Int) = ((cw - u : Nat) + u) * ((ch - v : Nat) + v) := by
    rw [← Nat.cast_add, ← Nat.cast_add, Nat.sub_add_cancel hu.le, Nat.sub_add_cancel hv.le, Nat.cast_mul]
  have sum := bilinear_sum_between h00 h10 h01 h11 (Nat.cast_nonneg (cw - u)) (Nat.cast_nonneg u)
    (Nat.cast_nonneg (ch - v)) (Nat.cast_nonneg v)
  rw [← weights] at sum
  simp only [interpolate, Nat.cast_mul (cw - u), Nat.cast_mul u]
  exact rounded_div_between sum (Nat.cast_nonneg _) (by omega)

theorem interpolate_corner (hcw : 0 < cw) (hch : 0 < ch) (p00 p10 p01 p11 : Int) :
    interpolate cw ch 0 0 p00 p10 p01 p11 = p00 := by
  have area : 0 < cw * ch := Nat.mul_pos hcw hch
  have half : ((cw * ch / 2 : Nat) : Int) / (cw * ch : Nat) = 0 := Int.ediv_eq_zero_of_lt (by omega) (by omega)
  simp only [interpolate, Nat.sub_zero, Nat.zero_mul, Nat.cast_zero, mul_zero, add_zero]
  rw [add_comm, Int.add_mul_ediv_right _ _ (by omega), half, zero_add]

/-- R82 with the corners' weights written as signed differences. -/
theorem interpolate_eq (hu : u < cw) (hv : v < ch) (p00 p10 p01 p11 : Int) :
    interpolate cw ch u v p00 p10 p01 p11 =
      (((cw : Int) - u) * (ch - v) * p00 + u * (ch - v) * p10 + (cw - u) * v * p01 + u * v * p11 +
        (cw * ch / 2 : Nat)) / (cw * ch) := by
  simp only [interpolate, Nat.cast_mul, Nat.cast_sub hu.le, Nat.cast_sub hv.le]
  congr 2
  ring

/-- R81: a pixel's cell, and its place in the cell. -/
theorem sourcePosition_eq (mesh : List MeshPoint) (x y : Nat) :
    sourcePosition mesh cw ch x y =
      { sx := interpolate cw ch (x % cw) (y % ch) (meshAt mesh (x / cw) (y / ch)).sx (meshAt mesh (x / cw + 1) (y / ch)).sx
          (meshAt mesh (x / cw) (y / ch + 1)).sx (meshAt mesh (x / cw + 1) (y / ch + 1)).sx
        sy := interpolate cw ch (x % cw) (y % ch) (meshAt mesh (x / cw) (y / ch)).sy (meshAt mesh (x / cw + 1) (y / ch)).sy
          (meshAt mesh (x / cw) (y / ch + 1)).sy (meshAt mesh (x / cw + 1) (y / ch + 1)).sy } := by
  simp only [sourcePosition, ← Nat.mod_eq_sub_div_mul]

/-- The four corner points of the pixel's cell bound each coordinate of its position. -/
theorem interpolate_corners_between {mesh : List MeshPoint} (coordinate : MeshPoint → Int) {lo hi : Int} {x y : Nat}
    (hcw : 0 < cw) (hch : 0 < ch) (h : ∀ c r, c = x / cw ∨ c = x / cw + 1 → r = y / ch ∨ r = y / ch + 1 →
      lo ≤ coordinate (meshAt mesh c r) ∧ coordinate (meshAt mesh c r) ≤ hi) {position : Int}
    (hposition : position = interpolate cw ch (x % cw) (y % ch) (coordinate (meshAt mesh (x / cw) (y / ch)))
      (coordinate (meshAt mesh (x / cw + 1) (y / ch))) (coordinate (meshAt mesh (x / cw) (y / ch + 1)))
      (coordinate (meshAt mesh (x / cw + 1) (y / ch + 1)))) : lo ≤ position ∧ position ≤ hi :=
  hposition ▸ interpolate_between (Nat.mod_lt x hcw) (Nat.mod_lt y hch) (h _ _ (.inl rfl) (.inl rfl))
    (h _ _ (.inr rfl) (.inl rfl)) (h _ _ (.inl rfl) (.inr rfl)) (h _ _ (.inr rfl) (.inr rfl))

theorem sourcePosition_of_place (mesh : List MeshPoint) (i j : Nat) (hu : u < cw) (hv : v < ch) :
    sourcePosition mesh cw ch (i * cw + u) (j * ch + v) =
      { sx := interpolate cw ch u v (meshAt mesh i j).sx (meshAt mesh (i + 1) j).sx (meshAt mesh i (j + 1)).sx
          (meshAt mesh (i + 1) (j + 1)).sx
        sy := interpolate cw ch u v (meshAt mesh i j).sy (meshAt mesh (i + 1) j).sy (meshAt mesh i (j + 1)).sy
          (meshAt mesh (i + 1) (j + 1)).sy } := by
  have column : (i * cw + u) / cw = i ∧ (i * cw + u) % cw = u :=
    (Nat.div_mod_unique (by omega)).mpr ⟨by rw [Nat.mul_comm cw, Nat.add_comm], hu⟩
  have row : (j * ch + v) / ch = j ∧ (j * ch + v) % ch = v :=
    (Nat.div_mod_unique (by omega)).mpr ⟨by rw [Nat.mul_comm ch, Nat.add_comm], hv⟩
  rw [sourcePosition_eq, column.1, column.2, row.1, row.2]

theorem sourcePosition_corner (mesh : List MeshPoint) (i j : Nat) (hcw : 0 < cw) (hch : 0 < ch) :
    sourcePosition mesh cw ch (i * cw) (j * ch) = meshAt mesh i j := by
  have place := sourcePosition_of_place mesh i j hcw hch
  rwa [interpolate_corner hcw hch, interpolate_corner hcw hch] at place

end

theorem meshAt_of_getElem? {mesh : List MeshPoint} {c r : Nat} {p : MeshPoint} (h : mesh[9 * r + c]? = some p) :
    meshAt mesh c r = p := by
  rw [meshAt, List.getD_eq_getElem?_getD, h, Option.getD_some]

/-! ## The sample and the luminance (R83 to R85, R87) -/

theorem Picture.at_of_getElem? {p : Picture} {row : List Rgb} {c r : Nat} {a : Rgb} (hrow : p.rows[r]? = some row)
    (ha : row[c]? = some a) : p.at c r = a := by
  simp only [Picture.at, List.getD_eq_getElem?_getD, hrow, Option.getD_some, ha]

section

variable (p : Picture) (border : Rgb) {fx fy : Nat}

/-- R83: a source position in sixteenths is a camera position and a fraction below 16. -/
theorem sixteenths (px : Int) {f : Nat} (hf : f ≤ 15) :
    (16 * px + f) / 16 = px ∧ (16 * px + f - 16 * px).toNat = f := by omega

theorem samplePicture_outside {px py : Int} (hx : fx ≤ 15) (hy : fy ≤ 15)
    (h : ¬(0 ≤ px ∧ px + 1 < p.width ∧ 0 ≤ py ∧ py + 1 < p.height)) :
    samplePicture p border ⟨16 * px + fx, 16 * py + fy⟩ = border := by
  simp only [samplePicture, (sixteenths px hx).1, (sixteenths py hy).1, if_neg h]

theorem samplePicture_inside {m n : Nat} (hx : fx ≤ 15) (hy : fy ≤ 15) (hm : m + 1 < p.width) (hn : n + 1 < p.height) :
    samplePicture p border ⟨16 * (m : Int) + fx, 16 * (n : Int) + fy⟩ =
      ⟨sampleComponent fx fy (p.at m n).r (p.at (m + 1) n).r (p.at m (n + 1)).r (p.at (m + 1) (n + 1)).r,
       sampleComponent fx fy (p.at m n).g (p.at (m + 1) n).g (p.at m (n + 1)).g (p.at (m + 1) (n + 1)).g,
       sampleComponent fx fy (p.at m n).b (p.at (m + 1) n).b (p.at m (n + 1)).b (p.at (m + 1) (n + 1)).b⟩ := by
  have inside : (0 : Int) ≤ m ∧ (m : Int) + 1 < p.width ∧ (0 : Int) ≤ n ∧ (n : Int) + 1 < p.height := by omega
  simp only [samplePicture, (sixteenths m hx).1, (sixteenths n hy).1, (sixteenths m hx).2, (sixteenths n hy).2,
    if_pos inside, Int.toNat_natCast]

end

/-- R87: the three weights sum to 256. -/
theorem luminance_between {p : Rgb} {lo hi : Nat} (hr : lo ≤ p.r ∧ p.r ≤ hi) (hg : lo ≤ p.g ∧ p.g ≤ hi)
    (hb : lo ≤ p.b ∧ p.b ≤ hi) : lo ≤ luminance p ∧ luminance p ≤ hi := by
  rw [luminance]
  omega

/-! ## The gain field (R112 to R114) -/

/-- R112: the lower of two neighbouring centres is at most the last but one. -/
theorem centrePlace_fst (size last x : Nat) :
    (centrePlace size (last + 2) x).1 = min last (min (x - size / 2) ((last + 1) * size) / size) := Nat.min_comm _ _

/-- R112: beyond the last centre but one the distance is cut at the last, one size away. -/
theorem centrePlace_snd_le {size : Nat} (hsize : 0 < size) (last x : Nat) : (centrePlace size (last + 2) x).2 ≤ 64 := by
  have cut : min (x - size / 2) ((last + 1) * size) ≤ (last + 1) * size := Nat.min_le_right _ _
  change 64 * (min (x - size / 2) ((last + 1) * size) -
    min (min (x - size / 2) ((last + 1) * size) / size) last * size) / size ≤ 64
  generalize min (x - size / 2) ((last + 1) * size) = u at cut
  have distance : u - min (u / size) last * size ≤ size := by
    rcases Nat.le_total (u / size) last with h | h
    · rw [Nat.min_eq_left h, ← Nat.mod_eq_sub_div_mul]
      exact (Nat.mod_lt u hsize).le
    · rw [Nat.min_eq_right h]
      rw [Nat.add_mul, Nat.one_mul] at cut
      omega
  exact Nat.div_le_of_le_mul (by rw [Nat.mul_comm size]; exact Nat.mul_le_mul_left 64 distance)

theorem tileGain_of_getElem? {tiles : List Tile} {c r : Nat} {t : Tile} (h : tiles[8 * r + c]? = some t) :
    tileGain tiles c r = t.gain := by
  rw [tileGain, List.getD_eq_getElem?_getD, h, Option.getD_some]

theorem tileGain_between {tiles : List Tile} {c r lo hi : Nat} (hlt : 8 * r + c < tiles.length)
    (h : ∀ t, tiles[8 * r + c]? = some t → lo ≤ t.gain ∧ t.gain ≤ hi) :
    lo ≤ tileGain tiles c r ∧ tileGain tiles c r ≤ hi := by
  have held := List.getElem?_eq_getElem hlt
  rw [tileGain_of_getElem? held]
  exact h _ held

theorem pixelGain_between {tiles : List Tile} {tw th x y lo hi : Nat} (hw : 0 < tw) (hh : 0 < th)
    (h : ∀ c r, c = (centrePlace tw 8 x).1 ∨ c = (centrePlace tw 8 x).1 + 1 → r = (centrePlace th 10 y).1 ∨
      r = (centrePlace th 10 y).1 + 1 → lo ≤ tileGain tiles c r ∧ tileGain tiles c r ≤ hi) :
    lo ≤ pixelGain tiles tw th x y ∧ pixelGain tiles tw th x y ≤ hi := by
  have fx := centrePlace_snd_le hw 6 x
  have fy := centrePlace_snd_le hh 8 y
  have sum := bilinear_sum_between (h _ _ (.inl rfl) (.inl rfl)) (h _ _ (.inr rfl) (.inl rfl)) (h _ _ (.inl rfl) (.inr rfl))
    (h _ _ (.inr rfl) (.inr rfl)) (Nat.zero_le (64 - (centrePlace tw 8 x).2)) (Nat.zero_le (centrePlace tw 8 x).2)
    (Nat.zero_le (64 - (centrePlace th 10 y).2)) (Nat.zero_le (centrePlace th 10 y).2)
  rw [Nat.sub_add_cancel fx, Nat.sub_add_cancel fy] at sum
  simp only [pixelGain]
  omega

theorem gainComponent_eq {gain c : Nat} (hgain : gain ≤ 256) (hc : c ≤ 4095) :
    gainComponent gain c = (c * gain + 128) / 256 ∧ gainComponent gain c ≤ c := by
  have product : c * gain ≤ c * 256 := Nat.mul_le_mul_left c hgain
  rw [gainComponent]
  omega

theorem gainComponent_256 {c : Nat} (hc : c ≤ 4095) : gainComponent 256 c = c := by
  rw [gainComponent]
  omega

/-! ## The tone curve (R89) -/

section

variable (knots : List Nat) (c : Nat)

theorem toneComponent_eq_toNat :
    toneComponent knots c = (knotAt knots (c / 64) +
      ((knotAt knots (c / 64 + 1) - knotAt knots (c / 64)) * (c % 64 : Nat) + 32) / 64).toNat := by
  have place : c - 64 * (c / 64) = c % 64 := by omega
  rw [toneComponent, place]

/-- Between two knots that are no less than 0 the interpolated value is not negative, so a falling curve loses nothing. -/
theorem toneComponent_eq :
    (toneComponent knots c : Int) = knotAt knots (c / 64) +
      ((knotAt knots (c / 64 + 1) - knotAt knots (c / 64)) * (c % 64 : Nat) + 32) / 64 := by
  have lower : 0 ≤ knotAt knots (c / 64) := Nat.cast_nonneg _
  have upper : 0 ≤ knotAt knots (c / 64 + 1) * (c % 64 : Nat) := mul_nonneg (Nat.cast_nonneg _) (Nat.cast_nonneg _)
  have fraction : knotAt knots (c / 64) * (c % 64 : Nat) ≤ knotAt knots (c / 64) * 64 :=
    mul_le_mul_of_nonneg_left (by omega) lower
  rw [toneComponent_eq_toNat]
  refine Int.toNat_of_nonneg ?_
  rw [sub_mul]
  omega

theorem toneComponent_at_knot (h : c % 64 = 0) : toneComponent knots c = knots.getD (c / 64) 0 := by
  rw [toneComponent_eq_toNat, h]
  simp [knotAt]

variable {knots c}

theorem toneComponent_between (h : knots.getD (c / 64) 0 ≤ knots.getD (c / 64 + 1) 0) :
    knots.getD (c / 64) 0 ≤ toneComponent knots c ∧ toneComponent knots c ≤ knots.getD (c / 64 + 1) 0 := by
  have formula := toneComponent_eq knots c
  simp only [knotAt] at formula
  have rise : 0 ≤ (knots.getD (c / 64 + 1) 0 : Int) - knots.getD (c / 64) 0 := by omega
  have product := mul_nonneg rise (Nat.cast_nonneg (α := Int) (c % 64))
  have fraction := mul_le_mul_of_nonneg_left (show ((c % 64 : Nat) : Int) ≤ 64 by omega) rise
  omega

theorem knot_le {bound i : Nat} (h : ∀ v ∈ knots, v ≤ bound) (hi : i < knots.length) : knots.getD i 0 ≤ bound := by
  rw [List.getD_eq_getElem knots 0 hi]
  exact h _ (List.getElem_mem hi)

end

/-! ## The stages together -/

/-- Settles O46, stage by stage by the lemmas above. -/
theorem pixelStagesFollowTheirFormulas : Obligations.PixelStagesFollowTheirFormulas := by
  refine ⟨fun mesh cw ch hcw hch => ⟨?corner, ?place, ?horizontal, ?vertical⟩,
    fun p border px py fx fy hx hy => ⟨samplePicture_outside p border hx hy, ?sample⟩, ?luminance, ?gainField,
    fun _ _ => gainComponent_eq, toneComponent_eq, ?risingTone⟩
  case corner => exact fun i j _ _ => sourcePosition_corner mesh i j (by omega) (by omega)
  case place =>
    intro i j u v p00 p10 p01 p11 hu hv h00 h10 h01 h11
    rw [sourcePosition_of_place mesh i j hu hv, meshAt_of_getElem? h00, meshAt_of_getElem? h10, meshAt_of_getElem? h01,
      meshAt_of_getElem? h11, interpolate_eq hu hv, interpolate_eq hu hv]
  case horizontal =>
    exact fun lo hi x y h => interpolate_corners_between MeshPoint.sx (by omega) (by omega) h (by rw [sourcePosition_eq])
  case vertical =>
    exact fun lo hi x y h => interpolate_corners_between MeshPoint.sy (by omega) (by omega) h (by rw [sourcePosition_eq])
  case sample =>
    rintro m n upper lower a b c d weigh rfl rfl hm hn hupper hlower ha hb hc hd rfl
    rw [samplePicture_inside p border hx hy (by omega) (by omega), Picture.at_of_getElem? hupper ha,
      Picture.at_of_getElem? hupper hb, Picture.at_of_getElem? hlower hc, Picture.at_of_getElem? hlower hd]
    rfl
  case luminance =>
    intro p lo hi rlo glo blo rhi ghi bhi
    obtain ⟨below, above⟩ := luminance_between ⟨rlo, rhi⟩ ⟨glo, ghi⟩ ⟨blo, bhi⟩
    refine ⟨rfl, below, above, fun h => ?_⟩
    rw [gainPixel, gainComponent_256 (rhi.trans h), gainComponent_256 (ghi.trans h), gainComponent_256 (bhi.trans h)]
  case gainField =>
    rintro tiles cw ch x y c0 r0 u v hcw hch - - rfl rfl hc hr hlen
    have hc6 : c0 ≤ 6 := by omega
    have hr8 : r0 ≤ 8 := by omega
    replace hc : (centrePlace cw 8 x).1 = c0 := (centrePlace_fst cw 6 x).trans hc.symm
    replace hr : (centrePlace ch 10 y).1 = r0 := (centrePlace_fst ch 8 y).trans hr.symm
    refine ⟨fun lo hi h => pixelGain_between (by omega) (by omega) fun c r hc' hr' => ?_, ?_⟩
    · rw [hc] at hc'
      rw [hr] at hr'
      exact tileGain_between (by omega) fun t ht => h _ t (by omega) ht
    · intro g00 g10 g01 g11 fx fy h00 h10 h01 h11 hfx hfy
      replace hfx : (centrePlace cw 8 x).2 = fx := by rw [hfx, ← hc]; rfl
      replace hfy : (centrePlace ch 10 y).2 = fy := by rw [hfy, ← hr]; rfl
      refine ⟨hfx ▸ centrePlace_snd_le (by omega) 6 x, hfy ▸ centrePlace_snd_le (by omega) 8 y, ?_⟩
      simp only [pixelGain, hc, hr, hfx, hfy, tileGain_of_getElem? h00, tileGain_of_getElem? (c := c0 + 1) h10,
        tileGain_of_getElem? h01, tileGain_of_getElem? (c := c0 + 1) h11]
  case risingTone =>
    intro knots c hlen hc hmax hmono
    obtain ⟨below, above⟩ := toneComponent_between (hmono (c / 64) (by omega))
    exact ⟨below, above, above.trans (knot_le hmax (by omega)), toneComponent_at_knot knots c⟩

end Sys2Proof.Machine
end

section
/-! The tile maps under the effects of the part (R65, R76, R106, R109): what leaves them as they are or reset, what puts a
GAIN_FLOOR in force, and the induction over the commands for promises about them. -/

namespace Sys2Proof.Machine

/-! ## The GAIN_FLOOR in force and pending (R106, R204) -/

/-- R204, R206: no GAIN_FLOOR in force or pending is above 256. -/
def State.FloorsBounded (s : State) : Prop :=
  ∀ ch, (s.params.get ch).gainFloor ≤ 256 ∧ ∀ v, (Param.gainFloor, v) ∈ s.pendingParams.get ch → v.getD 0 0 ≤ 256

theorem Param.Legal.gainFloor_le {v : List Nat} (h : Param.gainFloor.Legal v) : v.getD 0 0 ≤ 256 := by
  obtain ⟨hlen, hrange⟩ := h
  obtain ⟨a, rfl⟩ := List.length_eq_one_iff.mp hlen
  exact (hrange (a, (64, 256)) (List.mem_singleton.mpr rfl)).2.1

/-- R204: a GAIN_FLOOR taken by a SET is clamped to 256. -/
theorem Param.taken_gainFloor_le (v : List Nat) : (Param.gainFloor.taken v).getD 0 0 ≤ 256 := by
  cases v with
  | nil => exact Nat.zero_le 256
  | cons a v =>
    simp only [Param.taken, Param.ranges, Param.step, clampNat, List.zip_cons_cons, List.map_cons, List.getD_cons_zero]
    split
    · decide
    · split <;> omega

theorem State.ParamsSound.floorsBounded {s : State} (h : s.ParamsSound) : s.FloorsBounded := by
  intro ch
  obtain ⟨inForce, pending, -⟩ := h ch
  exact ⟨(inForce .gainFloor).gainFloor_le, fun v hv => (pending _ hv).gainFloor_le⟩

theorem ChannelParams.put_gainFloor_other (c : ChannelParams) {p : Param} (v : List Nat) (hp : p ≠ .gainFloor) :
    (c.put p v).gainFloor = c.gainFloor := by
  cases p
  case gainFloor => exact absurd rfl hp
  all_goals rfl

/-- R205: values put in force leave the floor, or one of them is the floor. -/
theorem ChannelParams.foldl_put_gainFloor (c : ChannelParams) (ps : List PendingValue) :
    (ps.foldl (fun c pv => c.put pv.1 pv.2) c).gainFloor = c.gainFloor ∨
      ∃ v, (Param.gainFloor, v) ∈ ps ∧ (ps.foldl (fun c pv => c.put pv.1 pv.2) c).gainFloor = v.getD 0 0 := by
  induction ps generalizing c with
  | nil => exact .inl rfl
  | cons x ps ih =>
    obtain ⟨p, v⟩ := x
    rcases ih (c.put p v) with stood | ⟨w, hw, put⟩
    · by_cases hp : p = .gainFloor
      · subst hp
        exact .inr ⟨v, List.mem_cons_self, stood⟩
      · exact .inl (stood.trans (c.put_gainFloor_other v hp))
    · exact .inr ⟨w, List.mem_cons_of_mem _ hw, put⟩

section

variable {s : State} (h : s.FloorsBounded)
include h

theorem State.FloorsBounded.congr {t : State} (hp : t.params = s.params) (hq : t.pendingParams = s.pendingParams) :
    t.FloorsBounded := by
  intro ch
  rw [hp, hq]
  exact h ch

/-- R205: a boundary puts in force a floor that was pending. -/
theorem State.FloorsBounded.applyPending (ch : Channel) (cls : ParamClass) : (s.applyPending ch cls).FloorsBounded := by
  intro c
  by_cases hc : c = ch
  · subst hc
    obtain ⟨inForce, pending⟩ := h c
    simp only [State.applyPending, State.setPending_params, State.setParams_params, State.setPending_pendingParams,
      Pair.get_set]
    refine ⟨?_, fun v hv => pending v (List.mem_of_mem_filter hv)⟩
    rcases (s.params.get c).foldl_put_gainFloor ((s.pendingParams.get c).filter fun pv => pv.1.cls == cls) with
      stood | ⟨v, hv, put⟩
    · exact stood ▸ inForce
    · exact put ▸ pending v (List.mem_of_mem_filter hv)
  · obtain ⟨-, -, -, -, params, pending⟩ := (s.applyPending_swapFrame ch cls).other c hc
    rw [params, pending]
    exact h c

/-- R204, R205: a value taken by a SET may wait. -/
theorem State.FloorsBounded.addPending (ch : Channel) (p : Param) (v : List Nat) :
    (s.setPending ch (addPending (s.pendingParams.get ch) p (p.taken v))).FloorsBounded := by
  intro c
  rw [State.setPending_pendingParams, Pair.get_set_eq]
  split
  · subst_vars
    refine ⟨(h c).1, fun w hw => ?_⟩
    rcases List.mem_append.mp hw with old | new
    · exact (h c).2 w (List.mem_of_mem_filter old)
    · obtain ⟨rfl, rfl⟩ := Prod.mk.inj (List.mem_singleton.mp new)
      exact Param.taken_gainFloor_le v
  · exact h c

end

theorem floorsBounded_of_reset {s : State} (hp : s.params = State.reset.params)
    (hq : s.pendingParams = State.reset.pendingParams) : s.FloorsBounded :=
  paramsSound_reset.floorsBounded.congr hp hq

/-! ## Tile maps that stand or are reset (R65, R76, R109) -/

/-- R109: a channel's tile map is reset and its frame in progress not fresh. -/
def State.Dark (s : State) (ch : Channel) : Prop :=
  (∀ x ∈ (s.glare.get ch).tiles, x = Tile.reset) ∧ ∀ r, (s.view.get ch).record = some r → r.fresh = false

/-- R109: the promise of R109 for one channel. -/
def State.DarkWhenBlank (s : State) (ch : Channel) : Prop := (s.view.get ch).state.isBlank → s.Dark ch

/-- From `s` to `t` no tile has changed but to a reset one, the floors in force and the items of the frames in progress
stand, no floor has come to wait, and each channel keeps the promise of R109. -/
structure State.MapsStand (s t : State) : Prop where
  floor : ∀ ch, (t.params.get ch).gainFloor = (s.params.get ch).gainFloor
  pending : ∀ ch v, (Param.gainFloor, v) ∈ t.pendingParams.get ch → (Param.gainFloor, v) ∈ s.pendingParams.get ch
  items : ∀ ch, (t.link.get ch).frame.items = (s.link.get ch).frame.items
  tiles : ∀ ch, ∀ x ∈ (t.glare.get ch).tiles, x ∈ (s.glare.get ch).tiles ∨ x = Tile.reset
  dark : ∀ ch, s.DarkWhenBlank ch → t.DarkWhenBlank ch

section

variable {s t u : State} {ch : Channel}

theorem State.FloorsBounded.stands (h : s.FloorsBounded) (k : s.MapsStand t) : t.FloorsBounded :=
  fun ch => ⟨k.floor ch ▸ (h ch).1, fun v hv => (h ch).2 v (k.pending ch v hv)⟩

theorem State.DarkWhenBlank.congr (h : s.DarkWhenBlank ch) (hv : t.view.get ch = s.view.get ch)
    (hg : (t.glare.get ch).tiles = (s.glare.get ch).tiles) : t.DarkWhenBlank ch := by
  rw [State.DarkWhenBlank, State.Dark, hv, hg]
  exact h

/-- What leaves the views and the tiles. -/
theorem State.MapsStand.of_eq (hv : t.view = s.view) (hg : ∀ c, (t.glare.get c).tiles = (s.glare.get c).tiles)
    (hp : ∀ c, (t.params.get c).gainFloor = (s.params.get c).gainFloor) (hq : t.pendingParams = s.pendingParams)
    (hl : ∀ c, (t.link.get c).frame.items = (s.link.get c).frame.items) : s.MapsStand t :=
  ⟨hp, fun _ _ hw => hq ▸ hw, hl, fun c _ hx => .inl (hg c ▸ hx), fun c hd => hd.congr (by rw [hv]) (hg c)⟩

/-- What leaves the views, the glare units, the values and the links. -/
theorem State.MapsStand.of_same (hv : t.view = s.view) (hg : t.glare = s.glare) (hp : t.params = s.params)
    (hq : t.pendingParams = s.pendingParams) (hl : t.link = s.link) : s.MapsStand t :=
  .of_eq hv (fun _ => by rw [hg]) (fun _ => by rw [hp]) hq fun _ => by rw [hl]

theorem State.MapsStand.refl (s : State) : s.MapsStand s := .of_same rfl rfl rfl rfl rfl

theorem State.MapsStand.trans (h : s.MapsStand t) (k : t.MapsStand u) : s.MapsStand u where
  floor ch := (k.floor ch).trans (h.floor ch)
  pending ch v hv := h.pending ch v (k.pending ch v hv)
  items ch := (k.items ch).trans (h.items ch)
  tiles ch x hx := (k.tiles ch x hx).elim (h.tiles ch x) .inr
  dark ch hd := k.dark ch (h.dark ch hd)

/-- What touches one channel's view and map, and leaves a blank view dark. -/
theorem State.MapsStand.of_channel (hp : t.params = s.params) (hq : t.pendingParams = s.pendingParams)
    (hl : ∀ c, (t.link.get c).frame.items = (s.link.get c).frame.items)
    (ht : ∀ x ∈ (t.glare.get ch).tiles, x ∈ (s.glare.get ch).tiles ∨ x = Tile.reset)
    (hd : s.DarkWhenBlank ch → t.DarkWhenBlank ch)
    (ho : ∀ c, c ≠ ch → t.view.get c = s.view.get c ∧ t.glare.get c = s.glare.get c) : s.MapsStand t := by
  refine ⟨fun _ => by rw [hp], fun _ _ hw => hq ▸ hw, hl, fun c x hx => ?_, fun c hs => ?_⟩
  · by_cases hc : c = ch
    · subst hc; exact ht x hx
    · rw [(ho c hc).2] at hx; exact .inl hx
  · by_cases hc : c = ch
    · subst hc; exact hd hs
    · exact hs.congr (ho c hc).1 (by rw [(ho c hc).2])

/-- What leaves one channel dark, and the others as they are. -/
theorem State.MapsStand.of_dark (hp : t.params = s.params) (hq : t.pendingParams = s.pendingParams)
    (hl : ∀ c, (t.link.get c).frame.items = (s.link.get c).frame.items) (hd : t.Dark ch)
    (ho : ∀ c, c ≠ ch → t.view.get c = s.view.get c ∧ t.glare.get c = s.glare.get c) : s.MapsStand t :=
  .of_channel hp hq hl (fun x hx => .inr (hd.1 x hx)) (fun _ _ => hd) ho

end

/-! ## Entries to FALLBACK and evaluations (R63, R65) -/

section

variable (s : State) (ch : Channel)

/-- R65: an entry to FALLBACK resets the map and amends the record. -/
theorem State.enterFallback_dark : (s.enterFallback ch).Dark ch := by
  obtain ⟨-, -, reset, -, -, noRecord, record⟩ :=
    State.enterFallback_fellBack (s := s) (w := s) (ch := ch) rfl rfl rfl
  refine ⟨reset, fun r hr => ?_⟩
  cases before : (s.view.get ch).record with
  | none => exact absurd hr (by rw [noRecord before]; exact nofun)
  | some r' =>
    obtain ⟨c, after⟩ := record r' before
    obtain rfl := Option.some.inj (hr.symm.trans after)
    rfl

theorem State.enterFallback_mapsStand : s.MapsStand (s.enterFallback ch) := by
  have frame := s.enterFallback_evalFrame ch
  refine .of_dark (ch := ch) frame.params frame.pendingParams (fun _ => by rw [frame.link]) (s.enterFallback_dark ch)
    fun c hc => ?_
  obtain ⟨-, view, -, glare⟩ := frame.other c hc
  exact ⟨view, glare⟩

/-- A view moved to a state that shows a buffer. -/
theorem State.setViewState_mapsStand {v : ViewState} (hv : ¬v.isBlank) (n : Nat) :
    s.MapsStand (s.setViewState ch v n) := by
  refine .of_channel (ch := ch) rfl rfl (fun _ => rfl) (fun _ hx => .inl hx) (fun _ hb => absurd ?_ hv)
    fun c hc => ⟨Pair.get_set_other _ _ hc, rfl⟩
  have state : ((s.setViewState ch v n).view.get ch).state = v := congrArg ViewControl.state (Pair.get_set _ ch _)
  exact state ▸ hb

theorem State.tellView_mapsStand (a : Option Action) : s.MapsStand (s.tellView ch a) := by
  by_cases ha : a = some .fallback
  · subst ha
    rw [State.tellView, State.onDriveFallback]
    split
    · exact .refl s
    · exact s.enterFallback_mapsStand ch
  · rcases State.tellView_eq_of_ne_fallback (w := s) (ch := ch) ha with hw | ⟨-, hw⟩
    · rw [hw]
      exact .refl s
    · rw [hw]
      exact s.setViewState_mapsStand ch (by simp [ViewState.isBlank]) 0

theorem State.evaluate_mapsStand (k : FaultKind) (o : Option Nat) : s.MapsStand (s.evaluate ch k o) := by
  simp only [State.evaluate]
  refine .trans ?_ (State.tellView_mapsStand _ ch _)
  split <;> exact .of_same rfl rfl rfl rfl rfl

end

/-! ## What may follow -/

section

variable {s t : State} {ch : Channel} (h : s.MapsStand t)
include h

theorem State.MapsStand.same {u : State} (hv : u.view = t.view) (hg : u.glare = t.glare) (hp : u.params = t.params)
    (hq : u.pendingParams = t.pendingParams) (hl : u.link = t.link) : s.MapsStand u :=
  h.trans (.of_same hv hg hp hq hl)

theorem State.MapsStand.setReceiver {x : Receiver} : s.MapsStand (t.setReceiver ch x) := h.same rfl rfl rfl rfl rfl
theorem State.MapsStand.setStore {x : FrameStore} : s.MapsStand (t.setStore ch x) := h.same rfl rfl rfl rfl rfl
theorem State.MapsStand.setTiming {x : LinkTiming} : s.MapsStand (t.setTiming ch x) := h.same rfl rfl rfl rfl rfl
theorem State.MapsStand.setEntries {x : FaultEntries} : s.MapsStand (t.setEntries ch x) := h.same rfl rfl rfl rfl rfl
theorem State.MapsStand.setOutputs {x : Outputs} : s.MapsStand (t.setOutputs ch x) := h.same rfl rfl rfl rfl rfl
theorem State.MapsStand.setTables {x : TableStore} : s.MapsStand (t.setTables x) := h.same rfl rfl rfl rfl rfl
theorem State.MapsStand.setAgent {x : Agent} : s.MapsStand (t.setAgent x) := h.same rfl rfl rfl rfl rfl

theorem State.MapsStand.setLink {x : LinkUnit} (hx : x.frame.items = (t.link.get ch).frame.items := by rfl) :
    s.MapsStand (t.setLink ch x) := by
  refine h.trans (.of_eq rfl (fun _ => rfl) (fun _ => rfl) rfl fun c => ?_)
  rw [State.setLink_link, Pair.get_set_eq]
  split
  · subst_vars; exact hx
  · rfl

theorem State.MapsStand.setGlare {x : Glare} (hx : x.tiles = (t.glare.get ch).tiles := by rfl) :
    s.MapsStand (t.setGlare ch x) := by
  refine h.trans (.of_eq rfl (fun c => ?_) (fun _ => rfl) rfl fun _ => rfl)
  rw [State.setGlare_glare, Pair.get_set_eq]
  split
  · subst_vars; exact hx
  · rfl

theorem State.MapsStand.setParams {x : ChannelParams} (hx : x.gainFloor = (t.params.get ch).gainFloor) :
    s.MapsStand (t.setParams ch x) := by
  refine h.trans (.of_eq rfl (fun _ => rfl) (fun c => ?_) rfl fun _ => rfl)
  rw [State.setParams_params, Pair.get_set_eq]
  split
  · subst_vars; exact hx
  · rfl

theorem State.MapsStand.evaluate {k : FaultKind} {o : Option Nat} : s.MapsStand (t.evaluate ch k o) :=
  h.trans (t.evaluate_mapsStand ch k o)

theorem State.MapsStand.evaluateEach {k : FaultKind} {o : Channel → Option Nat} {chs : List Channel} :
    s.MapsStand (t.evaluateEach k o chs) :=
  List.foldlRecOn chs _ h fun _ hu _ _ => State.MapsStand.evaluate hu

theorem State.MapsStand.swapIfWaiting {x : TableId} : s.MapsStand (t.swapIfWaiting x) := by
  rw [State.swapIfWaiting]
  split
  · rw [State.swapIn_eq]
    split
    · rw [State.evaluateTableCorruptFor_eq]
      exact h.setTables.evaluateEach
    · exact h.setTables
  · exact h

/-- R205: the camera-side values hold no floor. -/
theorem State.MapsStand.applyCamera : s.MapsStand (t.applyPending ch .camera) := by
  have params : s.MapsStand (t.setParams ch (((t.pendingParams.get ch).filter fun pv => pv.1.cls == .camera).foldl
      (fun c pv => c.put pv.1 pv.2) (t.params.get ch))) := by
    refine h.setParams (((t.params.get ch).foldl_put_gainFloor _).resolve_right ?_)
    rintro ⟨v, hv, -⟩
    exact Bool.false_ne_true (List.mem_filter.mp hv).2
  refine params.trans ⟨fun _ => rfl, fun c v hv => ?_, fun _ => rfl, fun _ _ hx => .inl hx, fun _ hd => hd⟩
  rw [State.applyPending, State.setPending_pendingParams, Pair.get_set_eq] at hv
  split at hv
  · subst_vars; exact List.mem_of_mem_filter hv
  · exact hv

theorem State.MapsStand.cameraBoundary : s.MapsStand (t.cameraBoundary ch) :=
  h.applyCamera.swapIfWaiting.swapIfWaiting

theorem State.MapsStand.cameraBoundaryIfIdle : s.MapsStand (t.cameraBoundaryIfIdle ch) := by
  rw [State.cameraBoundaryIfIdle]
  split
  · exact h
  · exact h.cameraBoundary

theorem State.MapsStand.tellMeshLost {x : TableId} : s.MapsStand (t.tellMeshLost x) := by
  cases x
  case warpMesh ch =>
    rw [State.tellMeshLost, State.onMeshLost]
    split
    · exact h.trans (t.enterFallback_mapsStand ch)
    · exact h
  all_goals exact h

theorem State.MapsStand.leaveQueue {x : TableId} : s.MapsStand (t.leaveQueue x) := by
  rw [State.leaveQueue_eq]
  exact h.setTables

theorem State.MapsStand.swapAtVerifyEnd {x : TableId} : s.MapsStand (t.swapAtVerifyEnd x) := by
  cases x with
  | faultActions => exact h.swapIfWaiting
  | develop | defectList => exact h.cameraBoundaryIfIdle
  | warpMesh | toneCurves | glareResponse | overlaySet => exact h

theorem State.MapsStand.evaluateWhere {k : FaultKind} {due : Option (Option Nat)} :
    s.MapsStand (t.evaluateWhere ch k due) := by
  cases due with
  | none => exact h
  | some o => exact h.evaluate

theorem State.MapsStand.evaluateFrameEnd {r : FrameRecord} : s.MapsStand (t.evaluateFrameEnd ch r) := by
  rw [State.evaluateFrameEnd_eq]
  exact h.evaluateWhere.evaluateWhere.evaluateWhere

theorem State.MapsStand.evaluateGenlock : s.MapsStand (t.evaluateGenlock ch) := by
  simp only [State.evaluateGenlock]
  split
  · exact h
  · exact h.evaluate

theorem State.MapsStand.endPass {x : Result} {p : List Byte} : s.MapsStand (t.endPass ch x p) := by
  rw [State.endPass]
  split
  · exact h
  · exact h.setReceiver.setLink

theorem State.MapsStand.tickPass : s.MapsStand (t.tickPass ch) := by
  rw [State.tickPass]
  split
  · exact h
  · split
    · exact h.setReceiver
    · exact h.endPass

theorem State.MapsStand.tickCamera : s.MapsStand (t.tickCamera ch) := by
  simp only [State.tickCamera]
  split
  · exact h.setReceiver.evaluate
  · exact h.setReceiver.evaluate

theorem State.MapsStand.tickDisplay : s.MapsStand (t.tickDisplay ch) := by
  simp only [State.tickDisplay]
  split
  · exact h.setLink.evaluate
  · exact h.setLink.evaluate

theorem State.MapsStand.tickScrub : s.MapsStand t.tickScrub := by
  rw [State.tickScrub]
  split
  · exact h
  · split
    · exact h
    · exact h.setTables

theorem State.MapsStand.malformed {d : Nat} {a : Assembly} : s.MapsStand (t.malformed ch d a) :=
  h.evaluate.setStore.setReceiver.cameraBoundary

theorem State.MapsStand.countChecked {v : Option Nat × Option (Option Nat) × Bool} :
    s.MapsStand (t.countChecked ch v) := by
  simp only [State.countChecked]
  split
  · exact h.evaluate.evaluate
  · exact h.evaluate

theorem State.MapsStand.goodFrame {f : FrameFacts} {counter : BitVec 16} {status : Byte} :
    s.MapsStand (t.goodFrame ch f counter status) := by
  have completed : s.MapsStand (t.completed ch f) := h.evaluate.setStore
  have checked : s.MapsStand (t.goodChecked ch f counter status) := completed.countChecked.setReceiver.evaluate
  rw [State.goodFrame_eq]
  exact checked.setStore.setReceiver.cameraBoundary

theorem State.MapsStand.frameEndTime : s.MapsStand (t.frameEndTime ch) := by
  rw [State.frameEndTime]
  split
  · exact h
  · exact h.setTiming

end

/-! ## The effects, one by one -/

section

variable (s : State) (ch : Channel)

theorem State.takeFrameStart_mapsStand : s.MapsStand (s.takeFrameStart ch) := by
  rw [State.takeFrameStart]
  split
  · exact (State.MapsStand.refl s).malformed.setStore.setReceiver
  · exact (State.MapsStand.refl s).setStore.setReceiver

theorem State.takeEmbedded_mapsStand (f : Option (BitVec 16 × Byte)) : s.MapsStand (s.takeEmbedded ch f) := by
  have refl := State.MapsStand.refl s
  unfold State.takeEmbedded
  split
  case h_1 => exact refl.setReceiver
  case h_5 | h_6 => exact refl
  all_goals exact refl.malformed

theorem State.takeLine_mapsStand (f : Option (Nat × List Nat)) : s.MapsStand (s.takeLine ch f) := by
  have refl := State.MapsStand.refl s
  unfold State.takeLine
  split
  case h_4 =>
    split
    · exact refl.malformed
    · exact refl.setStore.setReceiver
  case h_5 | h_6 => exact refl
  all_goals exact refl.malformed

theorem State.takeFrameEnd_mapsStand (f : Option Nat) : s.MapsStand (s.takeFrameEnd ch f) := by
  have timed := (State.MapsStand.refl s).frameEndTime (ch := ch)
  unfold State.takeFrameEnd
  split
  case h_4 =>
    split
    · exact timed.goodFrame
    · exact timed.malformed
  case h_5 => exact timed.setReceiver
  case h_6 => exact .refl s
  all_goals exact timed.malformed

/-- R95: a reading leaves the tiles. -/
theorem Glare.reading_tiles (g : Glare) (p : ChannelParams) (lux : Nat) : (g.reading p lux).tiles = g.tiles := by
  simp only [Glare.reading, apply_ite Glare.tiles, ite_self]

theorem State.takeStatus_mapsStand (lux : BitVec 16) (f : Bool) : s.MapsStand (s.takeStatus ch lux f) := by
  have seen : s.MapsStand (s.seeStatus ch lux f) := (State.MapsStand.refl s).setLink
  rw [State.takeStatus, State.nightReading]
  split
  · exact (seen.setGlare (Glare.reading_tiles _ _ _)).evaluate
  · exact seen.evaluate

theorem State.takeSignature_mapsStand (q : Seq) (v : Check) : s.MapsStand (s.takeSignature ch q v) := by
  rw [State.takeSignature]
  split
  · exact (State.MapsStand.refl s).evaluate
  · exact (State.MapsStand.refl s).setLink.evaluate

theorem State.acceptRequest_mapsStand (r : Request) : s.MapsStand (s.acceptRequest r) := by
  rw [State.acceptRequest]
  split
  · exact (State.MapsStand.refl s).setLink
  · exact (State.MapsStand.refl s).setLink

theorem State.serve_mapsStand : s.MapsStand (s.serve ch) := by
  rw [State.serve]
  split
  · exact .refl s
  · exact (State.MapsStand.refl s).setLink.setAgent

theorem State.finish_mapsStand (r : Request) (x : Result) (p : List Byte) : s.MapsStand (s.finish r x p) :=
  (State.MapsStand.refl s).setLink.setAgent

theorem State.setTickSchedule_mapsStand (x : PartParams) : s.MapsStand (s.setTickSchedule x) := by
  rw [State.setTickSchedule]
  split
  · exact .refl s
  · exact .of_same rfl rfl rfl rfl rfl

theorem Glare.changeMode_tiles (g : Glare) (before after : NightMode) : (g.changeMode before after).tiles = g.tiles := by
  unfold Glare.changeMode
  split
  · rfl
  · cases after <;> rfl

/-- R205: a part-wide value is no floor. -/
theorem State.putPartWide_mapsStand {p : Param} (hp : p ≠ .gainFloor) (v : List Nat) :
    s.MapsStand (s.putPartWide ch p v) := by
  have refl := State.MapsStand.refl s
  unfold State.putPartWide
  split
  · exact s.setTickSchedule_mapsStand _
  · exact s.setTickSchedule_mapsStand _
  · exact (refl.setGlare (Glare.changeMode_tiles _ _ _)).setParams rfl
  · exact refl.setParams (ChannelParams.put_gainFloor_other _ v hp)

theorem State.sendPass_mapsStand (r : Request) : s.MapsStand (s.sendPass r ch) :=
  (State.MapsStand.refl s).setReceiver.setOutputs.setAgent

theorem State.superviseTick_mapsStand : s.MapsStand s.superviseTick :=
  (State.MapsStand.of_same rfl rfl rfl rfl rfl : s.MapsStand { s with lastTick := some s.counter }).tickCamera.tickCamera
    |>.tickDisplay.tickDisplay.tickScrub.tickPass.tickPass

theorem State.endVerify_mapsStand (t : TableId) (load : Load) (supplied : Check) (tag : Byte) :
    s.MapsStand (s.endVerify t load supplied tag) := by
  have verified : s.MapsStand (s.verified t load supplied tag) := (State.MapsStand.refl s).setLink.setTables
  rw [State.endVerify_eq]
  split
  · exact verified.swapAtVerifyEnd.leaveQueue
  · exact verified.leaveQueue

theorem State.endScrub_mapsStand (st : ScrubStep) : s.MapsStand (s.endScrub st) := by
  have done : s.MapsStand s.scrubDone := (State.MapsStand.refl s).setTables
  by_cases hm : st.finish (s.table st.table) = (s.table st.table).active.checksum
  · rw [State.endScrub_of_match hm]
    exact done.evaluateEach
  · rw [State.endScrub_of_mismatch hm]
    exact State.MapsStand.tellMeshLost (.evaluateEach done.setTables)

/-- R70: a restart resets the map and amends the record. -/
theorem State.restart_mapsStand : s.MapsStand (s.restart ch) := by
  have received : s.MapsStand (s.restartReceiver ch) := (State.MapsStand.refl s).setReceiver.cameraBoundary
  refine received.trans (.of_dark (ch := ch) (s.restart_params ch) (s.restart_pendingParams ch) (fun c => ?_) ?_
    fun c hc => ⟨s.restart_view_other ch hc, by rw [s.restart_glare ch, Pair.get_set_other _ _ hc]⟩)
  · obtain ⟨u, hu, heq⟩ := s.restart_eq ch
    rw [heq, (State.amendRecord_evalFrame _ ch _).link, State.setTiming_link, hu, State.endPass_link,
      State.begunAfresh_link, Pair.get_set_eq]
    split
    · subst_vars; rfl
    · rfl
  · obtain ⟨conditions, view⟩ := s.restart_view ch
    refine ⟨fun x hx => ?_, fun r hr => ?_⟩
    · rw [s.restart_glare ch, Pair.get_set] at hx
      exact List.eq_of_mem_replicate hx
    · rw [view] at hr
      obtain ⟨r', -, rfl⟩ := Option.map_eq_some_iff.mp hr
      rfl

theorem State.startLine_mapsStand : s.MapsStand (s.startLine ch) := by
  simp only [State.startLine]
  split
  · exact .refl s
  · exact (State.MapsStand.refl s).setLink.setGlare.setOutputs

theorem State.endLine_mapsStand : s.MapsStand (s.endLine ch) := (State.MapsStand.refl s).setLink.setStore

theorem State.sendHeader_mapsStand : s.MapsStand (s.sendHeader ch) := by
  rw [State.sendHeader]
  split
  · exact .refl s
  · exact (State.MapsStand.refl s).setLink.setOutputs

theorem State.sendAnswer_mapsStand (n : Nat) (b : Bool) : s.MapsStand (s.sendAnswer ch n b) := by
  simp only [State.sendAnswer]
  split
  · exact .refl s
  · exact (State.MapsStand.refl s).setLink.setOutputs

/-! ## The display frame start (R62, R76, R106) -/

theorem State.decide_mapsStand : s.MapsStand (s.decide ch).1 := by
  have refl := State.MapsStand.refl s
  have shows (v : ViewState) (hv : v = .live ∨ v = .hold) (n : Nat) : s.MapsStand (s.setViewState ch v n) :=
    s.setViewState_mapsStand ch (by rcases hv with rfl | rfl <;> simp [ViewState.isBlank]) n
  simp only [State.decide]
  split
  · split
    · exact refl.setStore
    · exact refl.setStore
  · split
    · exact (shows .live (.inl rfl) 0).setStore
    · split
      · exact s.enterFallback_mapsStand ch
      · exact (shows .hold (.inr rfl) _).setStore
  · split
    · exact (shows .live (.inl rfl) 0).setStore
    · exact refl
  · split
    · exact (shows .live (.inl rfl) 0).setStore
    · exact refl

/-- R60: a blank view's record names no buffer, so its frame is not fresh. -/
theorem State.fillRecord_mapsStand (fresh : Bool) : s.MapsStand (s.fillRecord ch fresh) := by
  have view : (s.fillRecord ch fresh).view.get ch =
      { s.view.get ch with record := ((s.fillRecord ch fresh).view.get ch).record } := by
    rw [State.fillRecord, State.setView_view, Pair.get_set]
  refine .of_channel (ch := ch) rfl rfl (fun _ => rfl) (fun _ hx => .inl hx) (fun hd hb => ?_)
    fun c hc => ⟨Pair.get_set_other _ _ hc, rfl⟩
  have blank : (s.view.get ch).state.isBlank := by rw [view] at hb; exact hb
  refine ⟨(hd blank).1, fun r hr => ?_⟩
  have hidden : (s.view.get ch).state.showsBuffer = false := by rcases blank with hv | hv <;> rw [hv] <;> rfl
  rw [State.fillRecord, State.setView_view, Pair.get_set, hidden] at hr
  obtain rfl := Option.some.inj hr
  exact Bool.and_false fresh

/-- R106: a tile with its gain and target raised to a floor. -/
def Tile.raised (x : Tile) (floor : Nat) : Tile := { x with gain := max x.gain floor, target := max x.target floor }

/-- From `s` to `t` the display-side values of a channel have taken effect: the views and the links stand, and each tile is
one of its map or a reset one, raised to the floor where that is new. -/
structure State.FloorTaken (s t : State) : Prop where
  view : t.view = s.view
  link : t.link = s.link
  tiles : ∀ ch, ∀ x ∈ (t.glare.get ch).tiles, ∃ y, (y ∈ (s.glare.get ch).tiles ∨ y = Tile.reset) ∧
    (x = y.raised (t.params.get ch).gainFloor ∨
      x = y ∧ (t.params.get ch).gainFloor = (s.params.get ch).gainFloor)

/-- R19: the swaps of a display frame start. -/
def State.displaySwaps (s : State) (ch : Channel) : State :=
  (((s.swapIfWaiting (.warpMesh ch)).swapIfWaiting (.toneCurves ch)).swapIfWaiting (.glareResponse ch)).swapIfWaiting
    (.overlaySet ch)

theorem State.displaySwaps_mapsStand : s.MapsStand (s.displaySwaps ch) :=
  (State.MapsStand.refl s).swapIfWaiting.swapIfWaiting.swapIfWaiting.swapIfWaiting

/-- R76: the part with the display-side values of a channel in force, and its map reset at a size change. -/
def State.displayValues (s : State) (ch : Channel) : State :=
  if (s.params.get ch).dispWidth = ((s.applyPending ch .display).params.get ch).dispWidth ∧
      (s.params.get ch).dispHeight = ((s.applyPending ch .display).params.get ch).dispHeight then
    s.applyPending ch .display
  else (s.applyPending ch .display).mapReset ch

/-- R106: a boundary is the swaps, the values and then a new floor. -/
theorem State.displayBoundary_eq : s.displayBoundary ch =
    if ((s.displaySwaps ch).params.get ch).gainFloor =
        (((s.displaySwaps ch).applyPending ch .display).params.get ch).gainFloor then
      (s.displaySwaps ch).displayValues ch
    else ((s.displaySwaps ch).displayValues ch).setGlare ch
      ((((s.displaySwaps ch).displayValues ch).glare.get ch).raiseFloor
        (((s.displaySwaps ch).applyPending ch .display).params.get ch).gainFloor) := rfl

theorem State.displayValues_frame : ∃ g, s.displayValues ch = { s.applyPending ch .display with glare := g } := by
  rw [State.displayValues]
  split
  · exact ⟨_, rfl⟩
  · exact ⟨_, rfl⟩

theorem State.displayValues_tiles (c : Channel) :
    ∀ x ∈ ((s.displayValues ch).glare.get c).tiles, x ∈ (s.glare.get c).tiles ∨ x = Tile.reset := by
  intro x hx
  rw [State.displayValues] at hx
  split at hx
  · exact .inl hx
  · rw [State.mapReset, State.setGlare_glare, Pair.get_set_eq] at hx
    split at hx
    · exact .inr (List.eq_of_mem_replicate hx)
    · exact .inl hx

theorem State.applyPending_params_other (cls : ParamClass) {c : Channel} (hc : c ≠ ch) :
    (s.applyPending ch cls).params.get c = s.params.get c := Pair.get_set_other _ _ hc

theorem State.displayBoundary_floorTaken : (s.displaySwaps ch).FloorTaken (s.displayBoundary ch) := by
  rw [State.displayBoundary_eq]
  generalize s.displaySwaps ch = u
  obtain ⟨g, hg⟩ := u.displayValues_frame ch
  have tiles := u.displayValues_tiles ch
  split
  case isTrue hfloor =>
    refine ⟨by rw [hg]; rfl, by rw [hg]; rfl, fun c x hx => ⟨x, tiles c x hx, .inr ⟨rfl, ?_⟩⟩⟩
    rw [hg]
    by_cases hc : c = ch
    · subst hc; exact hfloor.symm
    · exact congrArg ChannelParams.gainFloor (u.applyPending_params_other ch .display hc)
  case isFalse =>
    refine ⟨by rw [hg]; rfl, by rw [hg]; rfl, fun c x hx => ?_⟩
    rw [State.setGlare_glare, Pair.get_set_eq] at hx
    split at hx
    case isTrue hc =>
      subst hc
      obtain ⟨y, hy, rfl⟩ := List.mem_map.mp hx
      exact ⟨y, tiles c y hy, .inl (by rw [State.setGlare_params, hg]; rfl)⟩
    case isFalse hc =>
      refine ⟨x, tiles c x hx, .inr ⟨rfl, ?_⟩⟩
      rw [State.setGlare_params, hg]
      exact congrArg ChannelParams.gainFloor (u.applyPending_params_other ch .display hc)

theorem State.FloorsBounded.displayBoundary {s : State} (h : s.FloorsBounded) (ch : Channel) :
    (s.displayBoundary ch).FloorsBounded := by
  have applied := (h.stands (s.displaySwaps_mapsStand ch)).applyPending ch .display
  obtain ⟨g, hg⟩ := (s.displaySwaps ch).displayValues_frame ch
  rw [State.displayBoundary_eq]
  split
  · exact applied.congr (by rw [hg]) (by rw [hg])
  · exact applied.congr (by rw [State.setGlare_params, hg]) (by rw [State.setGlare_pendingParams, hg])

theorem State.beginLines_params : (s.beginLines ch).params = s.params := by
  simp only [State.beginLines]
  split
  · rfl
  · split <;> rfl

theorem State.beginLines_pendingParams : (s.beginLines ch).pendingParams = s.pendingParams := by
  simp only [State.beginLines]
  split
  · rfl
  · split <;> rfl

/-- R98: the lines that begin leave every channel's tile map. -/
theorem State.beginLines_tiles_all (c : Channel) : ((s.beginLines ch).glare.get c).tiles = (s.glare.get c).tiles := by
  by_cases hc : c = ch
  · subst hc; exact s.beginLines_tiles c
  · simp only [State.beginLines]
    split
    · rfl
    · split
      · rw [State.setGlare_glare, Pair.get_set_other _ _ hc]; rfl
      · rfl

end

end Sys2Proof.Machine
end

section
/-! The induction over the commands for promises about the tile maps, and the step lemma of R109. -/

namespace Sys2Proof.Machine

/-! ## The induction -/

/-- A promise about the views, the tile maps, the floors and the frames in progress, kept by the effects on them. `Store` is
a promise about the tables, which a frame's lines read at their start. -/
structure State.MapsKept (Store Inv : State → Prop) : Prop where
  stands : ∀ {s t : State}, s.FloorsBounded → Inv s → s.MapsStand t → Inv t
  setPending : ∀ (s : State) (ch : Channel) (x : List PendingValue), Inv s → Inv (s.setPending ch x)
  floorTaken : ∀ {s t : State}, t.FloorsBounded → Inv s → s.FloorTaken t → Inv t
  beginLines : ∀ (s : State) (ch : Channel), Store s → Inv s → Inv (s.beginLines ch)
  closeLines : ∀ (s : State) (ch : Channel) (r : FrameRecord), s.FloorsBounded → Inv s →
    (s.view.get ch).record = some r → Inv (s.closeLines ch r)
  reset : ∀ s : State, s.view = State.reset.view → s.glare = State.reset.glare → s.params = State.reset.params →
    s.link = State.reset.link → Inv s

/-- The promise about the maps with the two it rests on. -/
structure State.MapsInv (Store Inv : State → Prop) (s : State) : Prop where
  store : Store s
  floors : s.FloorsBounded
  maps : Inv s

section

variable {Store Inv : State → Prop} (k : State.MapsKept Store Inv) {s t : State}
include k

theorem State.MapsKept.stand (h : State.MapsInv Store Inv s) (hs : Store t) (m : s.MapsStand t) :
    State.MapsInv Store Inv t := ⟨hs, h.floors.stands m, k.stands h.floors h.maps m⟩

theorem State.MapsKept.of_reset (hs : Store s) (hv : s.view = State.reset.view) (hg : s.glare = State.reset.glare)
    (hp : s.params = State.reset.params) (hq : s.pendingParams = State.reset.pendingParams)
    (hl : s.link = State.reset.link) : State.MapsInv Store Inv s :=
  ⟨hs, floorsBounded_of_reset hp hq, k.reset s hv hg hp hl⟩

end

section

variable {Store Inv : State → Prop} (st : State.StoreKept Store) (k : State.MapsKept Store Inv) {s : State}
  (h : State.MapsInv Store Inv s)
include st k h

/-- R205: a value taken by a SET waits, or takes effect at once and is no floor. -/
theorem State.MapsKept.stageValue (ch : Channel) (p : Param) (v : List Nat) :
    State.MapsInv Store Inv (s.stageValue ch p (p.taken v)) := by
  have store : Store (s.stageValue ch p (p.taken v)) := st.swapsOnly h.store (s.stageValue_swapsOnly ch p _)
  have waits : State.MapsInv Store Inv
      (s.setPending ch (addPending (s.pendingParams.get ch) p (p.taken v))) :=
    ⟨st.same _ _ h.store rfl rfl, h.floors.addPending ch p v, k.setPending s ch _ h.maps⟩
  revert store
  rw [State.stageValue]
  split
  case h_1 hp => exact fun store => k.stand h store (s.putPartWide_mapsStand ch (by rintro rfl; cases hp) _)
  case h_2 => exact fun store => k.stand waits store (State.MapsStand.refl _).cameraBoundaryIfIdle
  case h_3 => exact fun _ => waits

theorem State.MapsKept.decideFrame (ch : Channel) : State.MapsInv Store Inv (s.decideFrame ch) := by
  have filled : s.MapsStand ((s.decide ch).1.fillRecord ch (s.decide ch).2) :=
    (s.decide_mapsStand ch).trans (State.fillRecord_mapsStand _ ch _)
  have store : Store ((s.decide ch).1.fillRecord ch (s.decide ch).2) :=
    st.swapsOnly h.store (s.decide_swapsOnly ch).setView
  obtain ⟨store, floors, maps⟩ := k.stand h store filled
  exact ⟨st.swapsOnly store (State.beginLines_swapsOnly _ ch),
    floors.congr (State.beginLines_params _ ch) (State.beginLines_pendingParams _ ch), k.beginLines _ ch store maps⟩

/-- R62: a display frame start opens the frame, puts the display-side values in force and decides. -/
theorem State.MapsKept.startFrame (ch : Channel) : State.MapsInv Store Inv (s.startFrame ch) := by
  unfold State.startFrame State.decideAndEvaluate
  extract_lets opened timed first drawn
  have ended : s.MapsStand ((s.endLine ch).giveSequence ch) := (s.endLine_mapsStand ch).setLink
  have begun : State.MapsInv Store Inv ((s.endLine ch).giveSequence ch) :=
    k.stand h (st.swapsOnly h.store (s.endLine_swapsOnly ch).setLink) ended
  have swapped : ((s.endLine ch).giveSequence ch).MapsStand (((s.endLine ch).giveSequence ch).displaySwaps ch) :=
    State.displaySwaps_mapsStand _ ch
  have floors : opened.FloorsBounded := begun.floors.displayBoundary ch
  have opens : State.MapsInv Store Inv opened :=
    ⟨st.swapsOnly begun.store (State.SwapsOnly.refl _).displayBoundary, floors,
      k.floorTaken floors (k.stands begun.floors begun.maps swapped) (State.displayBoundary_floorTaken _ ch)⟩
  have times : State.MapsInv Store Inv timed :=
    k.stand opens (st.same _ _ opens.store rfl rfl) (State.MapsStand.refl _).setTiming
  have draws : State.MapsInv Store Inv drawn :=
    k.stand times (st.same _ _ times.store rfl rfl) (.of_same rfl rfl rfl rfl rfl)
  have genlock {u : State} (hu : State.MapsInv Store Inv u) : State.MapsInv Store Inv (u.evaluateGenlock ch) :=
    k.stand hu (st.swapsOnly hu.store (u.evaluateGenlock_swapsOnly ch)) (State.MapsStand.refl u).evaluateGenlock
  split
  · exact State.MapsKept.decideFrame st k times ch
  · split
    · exact State.MapsKept.decideFrame st k (genlock draws) ch
    · exact genlock (State.MapsKept.decideFrame st k draws ch)

theorem State.MapsKept.endFrame (ch : Channel) : State.MapsInv Store Inv (s.endFrame ch) := by
  have store : Store (s.endFrame ch) := st.swapsOnly h.store (s.endFrame_swapsOnly ch)
  cases hr : (s.view.get ch).record with
  | none =>
    have stays : s.endFrame ch = s := by rw [State.endFrame, hr]
    rw [stays]
    exact h
  | some r =>
    rw [s.endFrame_eq ch r hr] at store ⊢
    have closed : State.MapsInv Store Inv (s.closeLines ch r) :=
      ⟨st.same _ _ h.store rfl rfl, h.floors.congr rfl rfl, k.closeLines s ch r h.floors h.maps hr⟩
    exact k.stand closed store (State.MapsStand.refl _).evaluateFrameEnd

end

/-- Every command and step keeps a promise about the maps that the effects on them keep. -/
theorem State.MapsKept.kept {Store Inv : State → Prop} (st : State.StoreKept Store) (k : State.MapsKept Store Inv) :
    State.Kept (State.MapsInv Store Inv) where
  frameStart s ch h := k.stand h (st.kept.frameStart s ch h.store) (s.takeFrameStart_mapsStand ch)
  embedded s ch f h := k.stand h (st.kept.embedded s ch f h.store) (s.takeEmbedded_mapsStand ch f)
  line s ch f h := k.stand h (st.kept.line s ch f h.store) (s.takeLine_mapsStand ch f)
  frameEnd s ch f h := k.stand h (st.kept.frameEnd s ch f h.store) (s.takeFrameEnd_mapsStand ch f)
  endPass s ch x p h := k.stand h (st.kept.endPass s ch x p h.store) (State.MapsStand.refl s).endPass
  status s ch lux f h := k.stand h (st.kept.status s ch lux f h.store) (s.takeStatus_mapsStand ch lux f)
  signature s ch q v h := k.stand h (st.kept.signature s ch q v h.store) (s.takeSignature_mapsStand ch q v)
  accept s r h := k.stand h (st.kept.accept s r h.store) (s.acceptRequest_mapsStand r)
  discard s ch h := k.stand h (st.kept.discard s ch h.store) (State.MapsStand.refl s).setLink
  serve s ch h hx := k.stand h (st.kept.serve s ch h.store hx) (s.serve_mapsStand ch)
  finish s r x p h hr := k.stand h (st.kept.finish s r x p h.store hr) (s.finish_mapsStand r x p)
  stage _ _ ch p h _ _ := State.MapsKept.stageValue st k h ch p _
  setStaged s r t h hr hi := k.stand h (st.kept.setStaged s r t h.store hr hi) (State.MapsStand.refl s).setTables
  loadData s r t load h hr hl hb :=
    k.stand h (st.kept.loadData s r t load h.store hr hl hb) (State.MapsStand.refl s).setTables
  commit s r t load h hr hl ho :=
    k.stand h (st.kept.commit s r t load h.store hr hl ho) (State.MapsStand.refl s).setTables.setTables.setAgent
  abandonVerify s t load supplied tag h hv := k.stand h (st.kept.abandonVerify s t load supplied tag h.store hv)
    (State.MapsStand.refl s).setLink.setTables.leaveQueue
  abandon s t h hv := k.stand h (st.kept.abandon s t h.store hv) (State.MapsStand.refl s).setTables
  lock s t l h := k.stand h (st.kept.lock s t l h.store) (State.MapsStand.refl s).setTables
  acknowledge s h := k.stand h (st.kept.acknowledge s h.store) (State.MapsStand.refl s).setEntries.setEntries
  clear s ch h := k.stand h (st.kept.clear s ch h.store) (State.MapsStand.refl s).setEntries
  restart s ch h := k.stand h (st.kept.restart s ch h.store) (s.restart_mapsStand ch)
  trackerOff s ch h hi := k.stand h (st.kept.trackerOff s ch h.store hi) (State.MapsStand.refl s).setTiming
  trackerOn s ch h := k.stand h (st.kept.trackerOn s ch h.store) (State.MapsStand.refl s).setTiming
  bandwidth s ch m h := k.stand h (st.kept.bandwidth s ch m h.store) (State.MapsStand.refl s).setTiming
  selectTracked s ch h hl := k.stand h (st.kept.selectTracked s ch h.store hl) (State.MapsStand.refl s).setTiming
  selectInternal s ch h := k.stand h (st.kept.selectInternal s ch h.store) (State.MapsStand.refl s).setTiming
  sendPass s r ch h hr hp := k.stand h (st.kept.sendPass s r ch h.store hr hp) (s.sendPass_mapsStand ch r)
  writeCoverage s ch q h hf hc hm :=
    k.stand h (st.kept.writeCoverage s ch q h.store hf hc hm) (.of_same rfl rfl rfl rfl rfl)
  fixCoverage s ch q h hw := k.stand h (st.kept.fixCoverage s ch q h.store hw) (.of_same rfl rfl rfl rfl rfl)
  requestReset s ch h := k.stand h (st.kept.requestReset s ch h.store) (State.MapsStand.refl s).setLink
  tick s h := k.stand h (st.kept.tick s h.store) s.superviseTick_mapsStand
  verifyStart s t rest h hv hq :=
    k.stand h (st.kept.verifyStart s t rest h.store hv hq) (State.MapsStand.refl s).setTables
  verifyEnd s t load supplied tag h hv hs :=
    k.stand h (st.kept.verifyEnd s t load supplied tag h.store hv hs) (s.endVerify_mapsStand t load supplied tag)
  scrubEnd s x h hx := k.stand h (st.kept.scrubEnd s x h.store hx) (s.endScrub_mapsStand x)
  startFrame _ ch h := State.MapsKept.startFrame st k h ch
  holdLimit s ch h := k.stand h (st.kept.holdLimit s ch h.store) (s.enterFallback_mapsStand ch)
  startLine s ch h := k.stand h (st.kept.startLine s ch h.store) (s.startLine_mapsStand ch)
  endLine s ch h := k.stand h (st.kept.endLine s ch h.store) (s.endLine_mapsStand ch)
  endFrame _ ch h := State.MapsKept.endFrame st k h ch
  header s ch h := k.stand h (st.kept.header s ch h.store) (s.sendHeader_mapsStand ch)
  sendAnswer s ch n b h := k.stand h (st.kept.sendAnswer s ch n b h.store) (s.sendAnswer_mapsStand ch n b)
  areaEnd s ch h := k.stand h (st.kept.areaEnd s ch h.store) (State.MapsStand.refl s).setLink
  referenceStart s ch h := k.stand h (st.kept.referenceStart s ch h.store) (State.MapsStand.refl s).setTiming
  holdover s ch h := k.stand h (st.kept.holdover s ch h.store) (State.MapsStand.refl s).setTiming
  manageReset s h := k.of_reset (st.kept.manageReset s h.store) rfl rfl rfl rfl rfl
  queue s q n h := k.stand h (st.kept.queue s q n h.store) (.of_same rfl rfl rfl rfl rfl)
  passTime s h := k.stand h (st.kept.passTime s h.store) (.of_same rfl rfl rfl rfl rfl)
  beginReset s x h := k.of_reset (st.kept.beginReset s x h.store) rfl rfl rfl rfl rfl
  completeReset s x c h := k.of_reset (st.kept.completeReset s x c h.store) rfl rfl rfl rfl rfl
  hold s x h := k.stand h (st.kept.hold s x h.store) (.of_same rfl rfl rfl rfl rfl)

/-! ## START and FALLBACK (R109) -/

/-- Where a promise asks nothing of the tables. -/
theorem anyStore_kept : State.StoreKept fun _ => True := by
  constructor <;> intros <;> trivial

/-- R106: a reset tile's gain and target are at least any floor. -/
theorem Tile.reset_raised {floor : Nat} (h : floor ≤ 256) : Tile.reset.raised floor = Tile.reset := by
  rw [Tile.raised, Tile.reset, max_eq_left h]

/-- R109: the effects on the maps keep those of START and FALLBACK reset. -/
theorem blankMapsReset_mapsKept : State.MapsKept (fun _ => True) State.BlankMapsReset where
  stands _ h k := fun ch => k.dark ch (h ch)
  setPending _ _ _ h := h
  floorTaken {s t} hf h k := by
    intro ch hb
    rw [k.view] at hb ⊢
    obtain ⟨reset, stale⟩ := h ch hb
    refine ⟨fun x hx => ?_, stale⟩
    obtain ⟨y, hy, hxy⟩ := k.tiles ch x hx
    obtain rfl : y = Tile.reset := hy.elim (reset y) id
    rcases hxy with rfl | ⟨rfl, -⟩
    · exact Tile.reset_raised (hf ch).1
    · rfl
  beginLines s ch _ h := by
    intro c hb
    rw [State.beginLines_view] at hb ⊢
    rw [State.beginLines_tiles_all]
    exact h c hb
  closeLines s ch r _ h hr := by
    intro c hb
    obtain ⟨reset, stale⟩ := h c hb
    refine ⟨fun x hx => reset x ?_, stale⟩
    rw [State.closeLines_eq, Pair.get_set_eq] at hx
    split at hx
    · subst_vars
      rw [State.updatedTiles, stale r hr] at hx
      exact hx
    · exact hx
  reset s hv hg _ _ := by
    intro ch hb
    rw [hv] at hb ⊢
    rw [hg]
    exact blankMapsReset_reset ch hb

/-- Settles O52: by the induction over the effects on the tile maps. -/
theorem stepKeepsBlankMapsReset : Obligations.StepKeepsBlankMapsReset := fun _ _ hp h hs =>
  ((blankMapsReset_mapsKept.kept anyStore_kept).step ⟨trivial, hp.floorsBounded, h⟩ hs).maps

end Sys2Proof.Machine
end

section
/-! One tile's update (R99 to R105), the Glare Responses that may come in force (R7, R104), and the step lemma of R106. -/

namespace Sys2Proof.Machine

/-! ## One tile's update (R99 to R105) -/

section

variable (t : Tile) (p : ChannelParams) (response : List Nat) (night : Bool)

/-- R105: a ramp step falls by ATTACK_STEP, not below the target. -/
theorem rampGain_of_le {gain target : Nat} (h : target ≤ gain) :
    rampGain p gain target = max target (gain - p.attackStep) := by
  rw [rampGain]
  split
  · rfl
  · rw [if_neg (Nat.not_lt.mpr h)]
    omega

/-- R105: a ramp step rises by RELEASE_STEP, not above the target. -/
theorem rampGain_of_ge {gain target : Nat} (h : gain ≤ target) :
    rampGain p gain target = min target (gain + p.releaseStep) := by
  rw [rampGain, if_neg (Nat.not_lt.mpr h)]
  split
  · rfl
  · omega

/-- R105: a ramp step stays between what the gain and the target stay between. -/
theorem rampGain_between {gain target lo hi : Nat} (hg : lo ≤ gain ∧ gain ≤ hi) (ht : lo ≤ target ∧ target ≤ hi) :
    lo ≤ rampGain p gain target ∧ rampGain p gain target ≤ hi := by
  rcases le_total target gain with h | h
  · rw [rampGain_of_le p h]
    omega
  · rw [rampGain_of_ge p h]
    omega

theorem qualifies_eq_true {q : Nat} : qualifies p night q = true ↔ night = true ∧ p.glareOn ≤ q := by
  rw [qualifies, Bool.and_eq_true, decide_eq_true_eq]

/-- R102: a tile moves by its table. -/
theorem Tile.move_eq (q : Nat) : t.move p night q =
    match t.state with
    | .clear =>
      if night = true ∧ p.glareOn ≤ q then (if p.onsetFrames ≤ 1 then (.glare, 0) else (.onset, 1)) else (.clear, 0)
    | .onset =>
      if night = true ∧ p.glareOn ≤ q then
        (if p.onsetFrames ≤ t.run + 1 then (.glare, 0) else (.onset, t.run + 1)) else (.clear, 0)
    | .glare =>
      if night = false ∨ q < p.glareOffInUse then (if p.releaseFrames ≤ 1 then (.clear, 0) else (.release, 1))
      else (.glare, 0)
    | .release =>
      if night = true ∧ p.glareOn ≤ q then (.glare, 0)
      else if p.releaseFrames ≤ t.run + 1 then (.clear, 0) else (.release, t.run + 1) := by
  rw [Tile.move]
  cases t.state with
  | glare => simp only [Bool.or_eq_true, Bool.not_eq_true', decide_eq_true_eq]
  | clear | onset | release => simp only [qualifies_eq_true]

end

/-- Settles O45: the fields of the update, with the move's table and the two directions of the ramp. -/
theorem tileMovesByItsTable : Obligations.TileMovesByItsTable := by
  rintro t p response night count q off u rfl rfl rfl
  exact ⟨rfl, t.move_eq p night _, rfl, rampGain_of_le p, rampGain_of_ge p⟩

/-! ## Glare Responses (R7, R104) -/

/-- R216: the entries of a Glare Response table's bytes. -/
def responseOf (bs : List Byte) : List Nat := (List.range 16).map fun k => le16 bs (2 * k)

/-- R7: the VALID contents of a Glare Response table are bounded, and so are the contents that wait to be swapped. -/
def TableEntry.ResponseSound (e : TableEntry) : Prop :=
  (e.active.state = .valid → ResponseBounded (responseOf e.active.bytes)) ∧
  ∀ load supplied, e.staged = .swapWait load supplied → ResponseBounded (responseOf load.bytes)

/-- R10, R7: a table's load is bounded, and so are a Glare Response's contents. -/
def TableId.EntrySound (t : TableId) (e : TableEntry) : Prop :=
  e.staged.Bounded ∧ ((∃ ch, t = .glareResponse ch) → e.ResponseSound)

/-- R10, R7: every load is bounded, and every Glare Response. -/
def State.ResponsesSound (s : State) : Prop := ∀ t : TableId, t.EntrySound (s.table t)

/-- R29, R104: a Glare Response in use is bounded when the VALID one is; the default is. -/
theorem State.responseInUse_bounded_iff (s : State) (ch : Channel) : ResponseBounded (s.responseInUse ch) ↔
    ((s.table (.glareResponse ch)).active.state = .valid →
      ResponseBounded (responseOf (s.table (.glareResponse ch)).active.bytes)) := by
  rw [State.responseInUse]
  split
  case isTrue hvalid => exact ⟨fun h _ => h, fun h => h (beq_iff_eq.mp hvalid)⟩
  case isFalse hn =>
    exact ⟨fun _ hvalid => absurd (beq_iff_eq.mpr hvalid) hn, fun _ v hv => (List.eq_of_mem_replicate hv).le⟩

/-- R7: contents that pass the validity check are bounded. -/
theorem responseBounded_of_valid {ch : Channel} {bs : List Byte}
    (h : (TableId.glareResponse ch).offendingItem bs = none) : ResponseBounded (responseOf bs) := by
  intro v hv
  obtain ⟨k, hk, rfl⟩ := List.mem_map.mp hv
  exact (TableId.offendingItem_eq_none.mp h k (List.mem_range.mp hk)).1

section

variable {s u : State} (h : s.ResponsesSound)
include h

theorem State.ResponsesSound.congr (ht : ∀ x, u.table x = s.table x) : u.ResponsesSound :=
  fun x => by rw [ht]; exact h x

/-- A sound entry may take its place in the directory. -/
theorem State.ResponsesSound.update {t : TableId} {e : TableEntry} (ht : ∀ x, u.table x = if x = t then e else s.table x)
    (he : t.EntrySound e) : u.ResponsesSound := by
  intro x
  rw [ht]
  split
  · subst_vars; exact he
  · exact h x

/-- A staged bank that waits for no swap. -/
theorem State.ResponsesSound.setStaged {t : TableId} {x : Staged} (hb : x.Bounded)
    (hx : ∀ load supplied, x ≠ .swapWait load supplied) : (s.setStaged t x).ResponsesSound :=
  h.update (s.setStaged_table t · _) ⟨hb, fun hg =>
    ⟨((h t).2 hg).1, fun load supplied hw => absurd hw (hx load supplied)⟩⟩

theorem State.ResponsesSound.swap {t : TableId} {load : Load} {supplied : Check}
    (hw : (s.table t).staged = .swapWait load supplied) :
    (s.setTables (s.tables.swapIn t load supplied)).ResponsesSound :=
  h.update (fun x => s.tables.swapIn_get t x load supplied)
    ⟨trivial, fun hg => ⟨fun _ => ((h t).2 hg).2 load supplied hw, nofun⟩⟩

/-- R17: contents that pass every check wait for their swap. -/
theorem State.ResponsesSound.passVerify {t : TableId} {load : Load} {supplied : Check} {tag : Byte}
    (hv : (s.table t).staged = .verifying load supplied tag) (hok : s.verifyOutcome t load supplied = .ok) :
    (s.setStaged t (.swapWait load supplied)).ResponsesSound := by
  have bounded : load.bytes.length ≤ load.declared := by
    have hb := (h t).1
    rw [hv] at hb
    exact hb
  obtain ⟨-, legal, -⟩ := State.verifyOutcome_eq_ok.mp hok
  rw [List.take_of_length_le bounded] at legal
  refine h.update (s.setStaged_table t · _) ⟨bounded, fun hg => ⟨((h t).2 hg).1, fun load' supplied' hw => ?_⟩⟩
  obtain ⟨ch, rfl⟩ := hg
  obtain ⟨rfl, rfl⟩ := Staged.swapWait.inj hw
  exact responseBounded_of_valid legal

end

/-- R7, R10, R13: the effects on the store keep the responses bounded. -/
theorem responsesSound_storeKept : State.StoreKept State.ResponsesSound where
  same s t h ht _ := h.congr fun x => by rw [State.table, State.table, ht]
  swap s t load supplied h hw := h.swap hw
  beginLoad s t declared owner h _ := h.setStaged (Nat.zero_le _) nofun
  appendData s t load data h _ hb := h.setStaged (List.length_append.trans_le hb) nofun
  commit s t load supplied tag h hl := by
    have bounded := (h t).1
    rw [hl] at bounded
    exact (h.setStaged (x := .verifying load supplied tag) bounded nofun).congr (State.setVerifyQueue_table _ · _)
  endLoad s t h _ := h.setStaged trivial nofun
  dropVerify s t h _ := (h.setStaged (x := .idle) trivial nofun).congr (State.leaveQueue_table _ t ·)
  passVerify s t load supplied tag h hv hok := by
    have swapped := (State.swapAtVerifyEnd_swapsOnly _ t).kept (Inv := State.ResponsesSound)
      (fun s t h ht _ => h.congr fun x => by rw [State.table, State.table, ht])
      (fun s t load supplied h hw => h.swap hw) (h.passVerify hv hok)
    exact swapped.congr (State.leaveQueue_table _ t ·)
  lock s t l h := h.update (s.setTable_table t · _) (h t)
  writeCoverage s ch q h _ _ _ := h.congr fun _ => rfl
  fixCoverage s ch q h _ := h.congr fun _ => rfl
  verifyStart s t rest h _ := h.congr (TableStore.get_engine _ _ _ _ _)
  scrubStart s t p h := h.congr (TableStore.get_engine _ _ _ _ _)
  scrubRead s n h := h.congr (TableStore.get_engine _ _ _ _ _)
  scrubEnd s h := h.congr (TableStore.get_engine _ _ _ _ _)
  markCorrupt s t h := h.update (s.setTable_table t · _) ⟨(h t).1, fun hg => ⟨nofun, ((h t).2 hg).2⟩⟩
  reset s _ := fun t => by
    rw [State.setTables_table, TableStore.reset_get]
    exact ⟨trivial, fun _ => ⟨nofun, nofun⟩⟩

/-! ## Gains and targets (R106) -/

/-- R106: a tile's gain and target lie between a floor and 256. -/
def Tile.Within (x : Tile) (floor : Nat) : Prop :=
  floor ≤ x.gain ∧ x.gain ≤ 256 ∧ floor ≤ x.target ∧ x.target ≤ 256

theorem Tile.reset_within {floor : Nat} (h : floor ≤ 256) : Tile.reset.Within floor := ⟨h, le_rfl, h, le_rfl⟩

/-- R106: a tile raised to a floor is within it. -/
theorem Tile.Within.raised {x : Tile} {old floor : Nat} (h : x.Within old) (hf : floor ≤ 256) :
    (x.raised floor).Within floor := by
  obtain ⟨-, gain, -, target⟩ := h
  exact ⟨le_max_right _ _, max_le gain hf, le_max_right _ _, max_le target hf⟩

theorem ResponseBounded.getD_le {response : List Nat} (h : ResponseBounded response) (k : Nat) :
    response.getD k 256 ≤ 256 := by
  rw [List.getD_eq_getElem?_getD]
  cases hk : response[k]? with
  | none => exact le_rfl
  | some v => exact h v (List.mem_of_getElem? hk)

/-- R104, R105: an update with a bounded response keeps a tile within the floor. -/
theorem Tile.Within.update {x : Tile} {p : ChannelParams} {response : List Nat} (h : x.Within p.gainFloor)
    (hf : p.gainFloor ≤ 256) (hr : ResponseBounded response) (night : Bool) (count : Nat) :
    (x.update p response night count).Within p.gainFloor := by
  obtain ⟨gainLow, gainHigh, targetLow, targetHigh⟩ := h
  have target (after : TileState) (q : Nat) :
      p.gainFloor ≤ x.nextTarget p response after q ∧ x.nextTarget p response after q ≤ 256 := by
    cases after with
    | clear | onset => exact ⟨hf, le_rfl⟩
    | glare => exact ⟨le_max_left _ _, max_le hf (hr.getD_le _)⟩
    | release => exact ⟨targetLow, targetHigh⟩
  obtain ⟨rampLow, rampHigh⟩ := rampGain_between p ⟨gainLow, gainHigh⟩ (target _ _)
  exact ⟨rampLow, rampHigh, target _ _⟩

/-- R106: every tile lies within the floor in force, and the response of each frame in progress is bounded. -/
def State.MapsWithin (s : State) : Prop :=
  ∀ ch, (∀ x ∈ (s.glare.get ch).tiles, x.Within (s.params.get ch).gainFloor) ∧
    ResponseBounded (s.link.get ch).frame.items.response

/-- R106: the promise is one about the maps and one about the responses. -/
theorem State.gainsSound_iff (s : State) (hb : s.LoadsBounded) :
    s.GainsSound ↔ s.MapsWithin ∧ s.ResponsesSound := by
  constructor
  · intro h
    refine ⟨fun ch => ?_, fun t => ⟨hb t, ?_⟩⟩
    · obtain ⟨tiles, items, -⟩ := h ch
      exact ⟨tiles, items⟩
    · rintro ⟨ch, rfl⟩
      obtain ⟨-, -, inUse, waits⟩ := h ch
      exact ⟨(s.responseInUse_bounded_iff ch).mp inUse, waits⟩
  · rintro ⟨maps, responses⟩ ch
    obtain ⟨tiles, items⟩ := maps ch
    obtain ⟨active, waits⟩ := (responses (.glareResponse ch)).2 ⟨ch, rfl⟩
    exact ⟨tiles, items, (s.responseInUse_bounded_iff ch).mpr active, waits⟩

/-- R104: the frame that begins holds the response in use, and every other frame its own. -/
theorem State.beginLines_response (s : State) (ch c : Channel) :
    ((s.beginLines ch).link.get c).frame.items.response = (s.link.get c).frame.items.response ∨
      ((s.beginLines ch).link.get c).frame.items.response = s.responseInUse c := by
  simp only [State.beginLines]
  split
  · exact .inl rfl
  · by_cases hc : c = ch
    · subst hc
      right
      split
      · rw [State.setGlare_link, State.setLink_link, Pair.get_set]; rfl
      · rw [State.setLink_link, Pair.get_set]; rfl
    · left
      split
      · rw [State.setGlare_link, State.setLink_link, Pair.get_set_other _ _ hc]
      · rw [State.setLink_link, Pair.get_set_other _ _ hc]

/-- R106: the effects on the maps keep every gain and target within the floor. -/
theorem mapsWithin_mapsKept : State.MapsKept State.ResponsesSound State.MapsWithin where
  stands {s t} hf h k := by
    intro ch
    obtain ⟨tiles, items⟩ := h ch
    rw [k.floor, k.items]
    exact ⟨fun x hx => (k.tiles ch x hx).elim (tiles x) fun hr => hr ▸ Tile.reset_within (hf ch).1, items⟩
  setPending _ _ _ h := h
  floorTaken {s t} hf h k := by
    intro ch
    obtain ⟨tiles, items⟩ := h ch
    rw [k.link]
    refine ⟨fun x hx => ?_, items⟩
    obtain ⟨y, hy, hxy⟩ := k.tiles ch x hx
    rcases hxy with rfl | ⟨rfl, hfloor⟩
    · rcases hy with old | rfl
      · exact (tiles y old).raised (hf ch).1
      · exact (Tile.reset_within le_rfl).raised (hf ch).1
    · rcases hy with old | rfl
      · rw [hfloor]
        exact tiles x old
      · exact Tile.reset_within (hf ch).1
  beginLines s ch hs h := by
    intro c
    obtain ⟨tiles, items⟩ := h c
    rw [State.beginLines_tiles_all, State.beginLines_params]
    refine ⟨tiles, ?_⟩
    rcases s.beginLines_response ch c with stood | taken
    · exact stood ▸ items
    · rw [taken, State.responseInUse_bounded_iff]
      exact ((hs (.glareResponse c)).2 ⟨c, rfl⟩).1
  closeLines s ch r hf h _ := by
    intro c
    obtain ⟨tiles, items⟩ := h c
    rw [State.closeLines_eq, Pair.get_set_eq, Pair.get_set_eq]
    split
    case isFalse => exact ⟨tiles, items⟩
    case isTrue hc =>
      subst hc
      refine ⟨fun x hx => ?_, items⟩
      simp only [State.updatedTiles] at hx
      split at hx
      · obtain ⟨⟨y, count⟩, hy, rfl⟩ := List.mem_map.mp hx
        exact (tiles y (List.of_mem_zip hy).1).update (hf c).1 items r.night count
      · exact tiles x hx
  reset s hv hg hp hl := by
    intro ch
    rw [hg, hp, hl]
    obtain ⟨tiles, items, -⟩ := gainsSound_reset ch
    exact ⟨tiles, items⟩

/-- Settles O53: by the induction over the effects on the tile maps, with the responses bounded. -/
theorem stepKeepsGainsBetweenFloorAndUnity : Obligations.StepKeepsGainsBetweenFloorAndUnity := by
  intro s t hp hb h hs
  obtain ⟨maps, responses⟩ := (s.gainsSound_iff hb).mp h
  have stepped : State.MapsInv State.ResponsesSound State.MapsWithin t :=
    (mapsWithin_mapsKept.kept responsesSound_storeKept).step ⟨responses, hp.floorsBounded, maps⟩ hs
  exact (t.gainsSound_iff fun x => (stepped.store x).1).mpr ⟨stepped.maps, stepped.store⟩

end Sys2Proof.Machine
end

section
/-! The layers of a pixel (R120 to R125), and the bytes of a line that are signed (R148, R149). -/

namespace Sys2Proof.Machine

/-! ## Bits of a list of truths -/

/-- Bit k of the number is the k-th truth, and 0 past the end. -/
theorem testBit_bitsOf (bs : List Bool) (k : Nat) : (bitsOf bs).testBit k = bs.getD k false := by
  induction bs generalizing k with
  | nil => exact Nat.zero_testBit k
  | cons b bs ih =>
    cases k with
    | zero =>
      rw [bitsOf, Nat.testBit_zero, List.getD_cons_zero]
      cases b <;> simp
    | succ k =>
      have half : (b.toNat + 2 * bitsOf bs) / 2 = bitsOf bs := by
        have bit := b.toNat_lt
        omega
      rw [bitsOf, Nat.testBit_succ, half, List.getD_cons_succ, ih]

/-! ## One layer over a pixel (R120 to R122, R125) -/

theorem combineComponent_testBit (code : Byte) (mask : Bool) (a b k : Nat) :
    (combineComponent code mask a b).testBit k = (decide (k < 8) &&
      code.getLsbD ((if mask then 4 else 0) + (if b.testBit k then 2 else 0) + (if a.testBit k then 1 else 0))) := by
  have weight (n : Nat) (x : Bool) : n * x.toNat = if x then n else 0 := by cases x <;> simp
  rw [combineComponent, testBit_bitsOf, List.getD_eq_getElem?_getD, List.getElem?_map]
  by_cases hk : k < 8
  · have unit := weight 1 (a.testBit k)
    rw [Nat.one_mul] at unit
    rw [List.getElem?_range hk, Option.map_some, Option.getD_some, weight, weight, unit, decide_eq_true hk, Bool.true_and]
  · rw [List.getElem?_eq_none (by simpa using hk), decide_eq_false hk, Bool.false_and]
    rfl

/-- R120, R122: a layer covers the positions of its own rectangle. -/
theorem Layer.covers_iff (l : Layer) (x y : Nat) : l.covers x y = true ↔
    (l.x ≤ x ∧ (x : Int) < l.x + l.width) ∧ l.y ≤ y ∧ (y : Int) < l.y + l.height := by
  simp only [Layer.covers, Bool.and_eq_true, decide_eq_true_eq, Int.le_sub_one_iff, and_assoc]

/-- R121: the mask bit of a layer's column and row. -/
theorem Layer.maskBit_eq {l : Layer} {pool : List Byte} {x y col row : Nat} {byte : Byte} (hx : (x : Int) = l.x + col)
    (hy : (y : Int) = l.y + row) (hb : pool[l.offset + row * ((l.width + 7) / 8) + col / 8]? = some byte) :
    l.maskBit pool x y = byte.getLsbD (7 - col % 8) := by
  have column : ((x : Int) - l.x).toNat = col := by omega
  have line : ((y : Int) - l.y).toNat = row := by omega
  simp only [Layer.maskBit, column, line, Layer.rowBytes, List.getD_eq_getElem?_getD, hb, Option.getD_some]

/-! ## The layers in list order (R123, R124) -/

section

variable {pool : List Byte} {conditions : BitVec 16} {x y : Nat} {base : Rgb} {l : Layer}

/-- R123: the last layer of a list is drawn over what the layers before it leave. -/
theorem drawLayers_concat (under : List Layer) (l : Layer) :
    drawLayers { layers := under ++ [l], pool := pool } conditions x y base =
      if l.visible conditions && l.covers x y then
        l.combine (l.maskBit pool x y) (drawLayers { layers := under, pool := pool } conditions x y base)
      else drawLayers { layers := under, pool := pool } conditions x y base := by
  rw [drawLayers, List.foldl_append]
  rfl

/-- R120, R124: a layer whose condition is false, or that lies beside the position, is not drawn. -/
theorem Layer.not_drawn (h : conditions.getLsbD l.condition = false ∨ (x : Int) < l.x ∨ l.x + l.width ≤ x ∨
    (y : Int) < l.y ∨ l.y + l.height ≤ y) : ¬(l.visible conditions && l.covers x y) = true := by
  rw [Bool.and_eq_true, Layer.covers_iff, Layer.visible]
  rintro ⟨visible, columns, rows⟩
  rcases h with hidden | beside
  · rw [hidden] at visible
    cases visible
  · omega

theorem Layer.drawn {col row : Nat} (hc : conditions.getLsbD l.condition = true) (hx : (x : Int) = l.x + col)
    (hy : (y : Int) = l.y + row) (hcol : col < l.width) (hrow : row < l.height) :
    (l.visible conditions && l.covers x y) = true := by
  rw [Bool.and_eq_true, Layer.covers_iff]
  exact ⟨hc, by omega, by omega⟩

end

/-! ## The signed bytes (R148, R149) -/

/-- R139, R149: a pixel's bytes in the order R, G, B. -/
theorem pixelBytes_eq (p : Rgb) : pixelBytes p = [BitVec.ofNat 8 p.r, BitVec.ofNat 8 p.g, BitVec.ofNat 8 p.b] := rfl

/-- Of pixels numbered from `i` on, those numbered from `a` up to `b` give their bytes. -/
theorem flatten_numbered_between (f : Rgb → List Byte) (a b i : Nat) (line : List Rgb) :
    ((List.zip (List.range' i line.length) line).map fun xp => if a ≤ xp.1 ∧ xp.1 < b then f xp.2 else []).flatten =
      (((line.take (b - i)).drop (a - i)).map f).flatten := by
  induction line generalizing i with
  | nil => simp
  | cons p line ih =>
    rw [List.length_cons, List.range'_succ, List.zip_cons_cons, List.map_cons, List.flatten_cons, ih (i + 1)]
    by_cases hb : i < b
    · have left : b - i = b - (i + 1) + 1 := by omega
      rw [left, List.take_succ_cons]
      by_cases ha : a ≤ i
      · have begun : a - i = 0 ∧ a - (i + 1) = 0 := by omega
        rw [if_pos ⟨ha, hb⟩, begun.1, begun.2, List.drop_zero, List.drop_zero, List.map_cons, List.flatten_cons]
      · have ahead : a - i = a - (i + 1) + 1 := by omega
        rw [if_neg fun h => ha h.1, ahead, List.drop_succ_cons, List.nil_append]
    · have past : b - i = 0 ∧ b - (i + 1) = 0 := by omega
      rw [if_neg fun h => hb h.2, past.1, past.2, List.take_zero, List.take_zero, List.drop_nil, List.drop_nil]
      rfl

/-- R148: no pixel of a line above or below the window lies in it. -/
theorem windowBytes_outside {w : Window} {y : Nat} (line : List Rgb) (h : y < w.y ∨ w.y + w.h ≤ y) :
    windowBytes w line y = [] := by
  have outside (x : Nat) : ¬w.holds x y = true := by
    simp only [Window.holds, Bool.and_eq_true, decide_eq_true_eq]
    omega
  simp only [windowBytes, if_neg (outside _), List.map_const', List.flatten_replicate_nil]

/-- R148, R149: a line of the window gives the bytes of the window's columns. -/
theorem windowBytes_inside {w : Window} {y : Nat} (line : List Rgb) (hy : w.y ≤ y) (hh : y < w.y + w.h) :
    windowBytes w line y = (((line.take (w.x + w.w)).drop w.x).map pixelBytes).flatten := by
  have columns (x : Nat) : w.holds x y = true ↔ w.x ≤ x ∧ x < w.x + w.w := by
    simp only [Window.holds, Bool.and_eq_true, decide_eq_true_eq]
    omega
  simp only [windowBytes, columns, List.range_eq_range']
  exact flatten_numbered_between pixelBytes w.x (w.x + w.w) 0 line

/-- Settles O47: the combine code bit by bit, the layers by the last of the list, and the line by the window's columns. -/
theorem layersCombineInOrderAndAreSigned : Obligations.LayersCombineInOrderAndAreSigned := by
  refine ⟨combineComponent_testBit, fun pool conditions x y base => ⟨rfl, fun under l beneath hbeneath => ⟨fun h => ?_,
    fun col row byte m colour hc hx hy hcol hrow hb hm hcolour => ?_⟩⟩,
    fun w line y => ⟨windowBytes_outside line, windowBytes_inside line⟩⟩
  · rw [drawLayers_concat, if_neg (Layer.not_drawn h), hbeneath]
  · rw [drawLayers_concat, if_pos (Layer.drawn hc hx hy hcol hrow), Layer.maskBit_eq hx hy hb, ← hm, ← hbeneath, hcolour]
    rfl

end Sys2Proof.Machine
end

section
/-! The sixteen overlay conditions of a record (R126 to R128), where it is filled and where it is amended. -/

namespace Sys2Proof.Machine

/-! ## What each condition says (R126, R127) -/

/-- R107: some tile counts as in GLARE. -/
theorem Glare.tilesInGlare_pos_iff (g : Glare) : 0 < g.tilesInGlare ↔ ∃ x ∈ g.tiles, x.state = .glare := by
  simp only [Glare.tilesInGlare, List.countP_pos_iff, beq_iff_eq]

theorem FaultEntries.any_iff (es : FaultEntries) (p : FaultEntry → Bool) : es.any p = true ↔ ∃ k, p (es.get k) = true := by
  rw [FaultEntries.any, List.any_eq_true]
  exact ⟨fun ⟨k, _, hk⟩ => ⟨k, hk⟩, fun ⟨k, hk⟩ => ⟨k, mem_allKinds k, hk⟩⟩

/-- R127: what makes an entry warn. -/
theorem FaultEntry.warns_iff (e : FaultEntry) :
    e.warns = true ↔ (e.state = .active ∨ e.state = .recovering) ∧ e.applied.action = .report := by
  simp only [FaultEntry.warns, FaultEntry.isActive, Bool.and_eq_true, Bool.or_eq_true, beq_iff_eq]

/-- R187: FAULT_N is asserted while an entry of either channel holds its mark. -/
theorem State.faultN_iff (s : State) : s.faultN = true ↔ ∃ c k, (s.entry c k).unacknowledged = true := by
  simp only [State.faultN, Bool.or_eq_true, FaultEntries.any_iff]
  constructor
  · rintro (h | h)
    · exact ⟨.left, h⟩
    · exact ⟨.right, h⟩
  · rintro ⟨c, h⟩
    cases c with
    | left => exact .inl h
    | right => exact .inr h

section

variable {s t : State} {ch : Channel}

/-- R126: condition c stands in bit c. -/
theorem State.conditions_getLsbD {view : ViewState} {mesh : Option MeshChoice} {night : Bool} {c : Nat} (hc : c < 16) :
    (s.conditions ch view mesh night).getLsbD c = (s.conditionList ch view mesh night).getD c false := by
  rw [State.conditions, BitVec.getLsbD_ofNat, decide_eq_true hc, Bool.true_and, testBit_bitsOf]

/-- R126: the conditions read the tile map, the lines and the entries alone. -/
theorem State.conditions_congr (tiles : (t.glare.get ch).tiles = (s.glare.get ch).tiles) (pins : t.pins = s.pins)
    (entries : t.entries = s.entries) : t.conditions ch = s.conditions ch := by
  funext view mesh night
  have inGlare : (t.glare.get ch).tilesInGlare = (s.glare.get ch).tilesInGlare := by
    rw [Glare.tilesInGlare, Glare.tilesInGlare, tiles]
  simp only [State.conditions, State.conditionList, State.faultN, inGlare, pins, entries]

/-- R126, R128: the channel holds a record whose conditions are those that the state evaluates for it. -/
structure State.Evaluates (s : State) (ch : Channel) (r : FrameRecord) : Prop where
  record : (s.view.get ch).record = some r
  conditions : r.conditions = s.conditions ch r.view r.mesh r.night

section

variable {r : FrameRecord} (h : s.Evaluates ch r)
include h

theorem State.Evaluates.getLsbD {c : Nat} (hc : c < 16) :
    r.conditions.getLsbD c = (s.conditionList ch r.view r.mesh r.night).getD c false := by
  rw [h.conditions, State.conditions_getLsbD hc]

theorem State.Evaluates.told : s.ConditionsTold ch r := by
  have bit {c : Nat} (hc : c < 16) := h.getLsbD hc
  have glare : r.conditions.getLsbD 3 = Decidable.decide (0 < (s.glare.get ch).tilesInGlare) := bit (by decide)
  have noGlare : r.conditions.getLsbD 4 = ((s.glare.get ch).tilesInGlare == 0) := bit (by decide)
  have hold : r.conditions.getLsbD 7 = (r.view == .hold) := bit (by decide)
  have fallback : r.conditions.getLsbD 8 = (r.view == .fallback) := bit (by decide)
  have degraded : r.conditions.getLsbD 9 = (r.view == .hold || r.view == .fallback) := bit (by decide)
  have live : r.conditions.getLsbD 10 = (r.view == .live) := bit (by decide)
  have panned : r.conditions.getLsbD 12 = (r.mesh == some .turn) := bit (by decide)
  refine ⟨bit (by decide), bit (by decide), bit (by decide), ?_, ?_, bit (by decide), bit (by decide), ?_, ?_, ?_, ?_, ?_,
    bit (by decide), bit (by decide)⟩
  · rw [glare, decide_eq_true_eq, Glare.tilesInGlare_pos_iff]
  · rw [glare, noGlare]
    cases (s.glare.get ch).tilesInGlare with
    | zero => rfl
    | succ n => rfl
  · rw [hold, beq_iff_eq]
  · rw [fallback, beq_iff_eq]
  · rw [degraded, Bool.or_eq_true, beq_iff_eq, beq_iff_eq]
  · rw [live, beq_iff_eq]
  · rw [panned, beq_iff_eq]

theorem State.Evaluates.entriesTold : s.EntryConditionsTold ch r := by
  have warn : r.conditions.getLsbD 11 = (s.entries.get ch).any FaultEntry.warns := h.getLsbD (by decide)
  have faultLine : r.conditions.getLsbD 13 = s.faultN := h.getLsbD (by decide)
  rw [State.EntryConditionsTold, warn, faultLine, FaultEntries.any_iff, s.faultN_iff]
  exact ⟨exists_congr fun k => FaultEntry.warns_iff _, Iff.rfl⟩

end

/-- Where the tile map and the lines stand, a record says what it said. -/
theorem State.ConditionsTold.congr {r : FrameRecord} (h : s.ConditionsTold ch r)
    (tiles : (t.glare.get ch).tiles = (s.glare.get ch).tiles) (pins : t.pins = s.pins) : t.ConditionsTold ch r := by
  unfold State.ConditionsTold
  rw [tiles, pins]
  exact h

end

/-! ## Amendments (R65, R70, R128) -/

section

variable {s : State} {ch : Channel} {before : FrameRecord}

/-- R128: an amended record is one that the state evaluates. -/
theorem State.amendRecord_evaluates (v : ViewState) (hr : (s.view.get ch).record = some before) :
    ∃ r, (s.amendRecord ch v).Evaluates ch r ∧ r.view = v ∧ r.night = before.night ∧ r.buffer = none := by
  have stood : (s.amendRecord ch v).conditions ch = s.conditions ch := by
    rw [State.amendRecord_frame]
    rfl
  refine ⟨{ before with
    view := v, buffer := none, fresh := false, mesh := none, conditions := s.conditions ch v none before.night },
    ⟨?_, ?_⟩, rfl, rfl, rfl⟩
  · rw [State.amendRecord_view, hr]
    rfl
  · rw [stood]

/-- R65: the record that an entry to FALLBACK amends. -/
theorem State.enterFallback_evaluates (hr : (s.view.get ch).record = some before) :
    ∃ r, (s.enterFallback ch).Evaluates ch r ∧ r.view = .fallback ∧ r.night = before.night ∧ r.buffer = none := by
  refine State.amendRecord_evaluates .fallback ?_
  have view : (((s.releaseShown ch).setViewState ch .fallback 0).mapReset ch).view.get ch =
      { s.view.get ch with state := .fallback, holdTimer := 0 } := Pair.get_set _ ch _
  rw [view, hr]

end

/-! ## Evaluations (R63, R65) -/

section

variable (s : State) (ch : Channel) (k : FaultKind) (o : Option Nat)

/-- R63: an evaluation leaves its channel's view, or takes it to HOLD, or enters FALLBACK. -/
theorem State.evaluate_cases : ∃ w : State, w.view = s.view ∧ w.glare = s.glare ∧
    (s.evaluate ch k o = w ∨ s.evaluate ch k o = w.setViewState ch .hold 0 ∨ s.evaluate ch k o = w.enterFallback ch) := by
  obtain ⟨w, heq, view, -, glare, -⟩ := s.evaluate_eq_tellView ch k o
  refine ⟨w, view, glare, ?_⟩
  rw [heq]
  by_cases ha : beginsToDrive (s.entry ch k) (s.judged ch k o) = some .fallback
  · rw [ha]
    by_cases hv : (w.view.get ch).state = .fallback
    · exact .inl (if_pos hv)
    · exact .inr (.inr (State.tellView_fallback hv))
  · rcases State.tellView_eq_of_ne_fallback (w := w) (ch := ch) ha with hw | ⟨-, hw⟩
    · exact .inl hw
    · exact .inr (.inl hw)

theorem State.setViewState_view (w : State) (v : ViewState) (n : Nat) :
    (w.setViewState ch v n).view.get ch = { w.view.get ch with state := v, holdTimer := n } := Pair.get_set _ ch _

/-- R128: the conditions of a record that read no entry stay told through an evaluation, which amends it where it enters
FALLBACK. -/
theorem State.evaluate_keeps_told {r : FrameRecord} (hr : (s.view.get ch).record = some r) (h : s.ConditionsTold ch r) :
    ∃ r', ((s.evaluate ch k o).view.get ch).record = some r' ∧ (s.evaluate ch k o).ConditionsTold ch r' := by
  obtain ⟨w, view, glare, moved⟩ := s.evaluate_cases ch k o
  have pins : (s.evaluate ch k o).pins = s.pins := (s.evaluate_evalFrame ch k o).pins
  rcases moved with heq | heq | heq <;> rw [heq] at pins ⊢
  · exact ⟨r, by rw [view, hr], h.congr (by rw [glare]) pins⟩
  · exact ⟨r, by rw [State.setViewState_view, view, hr],
      h.congr (congrArg (fun g : Pair Glare => (g.get ch).tiles) glare) pins⟩
  · obtain ⟨r', amended, -⟩ := State.enterFallback_evaluates (s := w) (ch := ch) (by rw [view, hr])
    exact ⟨r', amended.record, amended.told⟩

/-- R65, R128: the record of a view that an evaluation takes to FALLBACK. -/
theorem State.evaluate_enters_evaluates {before : FrameRecord} (hv : (s.view.get ch).state ≠ .fallback)
    (ht : ((s.evaluate ch k o).view.get ch).state = .fallback) (hr : (s.view.get ch).record = some before) :
    ∃ r, (s.evaluate ch k o).Evaluates ch r ∧ r.view = .fallback ∧ r.night = before.night ∧ r.buffer = none := by
  obtain ⟨w, view, -, moved⟩ := s.evaluate_cases ch k o
  rcases moved with heq | heq | heq <;> rw [heq] at ht ⊢
  · exact absurd (view ▸ ht) hv
  · rw [State.setViewState_view] at ht
    cases ht
  · exact State.enterFallback_evaluates (by rw [view, hr])

/-- R65: an evaluation leaves the night flags of the records. -/
theorem State.evaluate_recordNight (c : Channel) : ((s.evaluate ch k o).view.get c).record.map FrameRecord.night =
    (s.view.get c).record.map FrameRecord.night := by
  by_cases hc : c = ch
  · subst hc
    obtain ⟨w, view, -, moved⟩ := s.evaluate_cases c k o
    rw [← view]
    rcases moved with heq | heq | heq <;> rw [heq]
    · rw [State.setViewState_view]
    · cases hr : (w.view.get c).record with
      | none =>
        obtain ⟨-, -, -, -, -, none, -⟩ := State.enterFallback_fellBack (s := w) (w := w) (ch := c) rfl rfl rfl
        rw [none hr]
      | some before =>
        obtain ⟨r, amended, -, night, -⟩ := State.enterFallback_evaluates hr
        rw [amended.record, Option.map_some, Option.map_some, night]
  · rw [((s.evaluate_evalFrame ch k o).other c hc).2.1]

end

/-! ## The display frame start (R60, R62) -/

section

variable (s : State) (ch : Channel)

theorem State.beginLines_pins : (s.beginLines ch).pins = s.pins := by
  simp only [State.beginLines]
  split
  · rfl
  · split <;> rfl

theorem State.fillRecord_evaluates (fresh : Bool) : ∃ r, (s.fillRecord ch fresh).Evaluates ch r :=
  ⟨_, congrArg ViewControl.record (Pair.get_set s.view ch _), rfl⟩

/-- R60, R126: the record of a decided frame is filled from the state that the decision leaves. -/
theorem State.decideFrame_evaluates : ∃ r, (s.decideFrame ch).Evaluates ch r := by
  obtain ⟨w, hw⟩ : ∃ w, w = (s.decide ch).1.fillRecord ch (s.decide ch).2 := ⟨_, rfl⟩
  have decided : s.decideFrame ch = w.beginLines ch := by
    rw [hw]
    rfl
  obtain ⟨r, record, conditions⟩ : ∃ r, w.Evaluates ch r := hw ▸ State.fillRecord_evaluates _ ch _
  rw [decided]
  refine ⟨r, by rw [State.beginLines_view, record], conditions.trans ?_⟩
  rw [State.conditions_congr (w.beginLines_tiles ch) (w.beginLines_pins ch) (w.beginLines_entries ch)]

theorem State.evaluateGenlock_keeps_told {r : FrameRecord} (hr : (s.view.get ch).record = some r)
    (h : s.ConditionsTold ch r) : ∃ r', ((s.evaluateGenlock ch).view.get ch).record = some r' ∧
      (s.evaluateGenlock ch).ConditionsTold ch r' := by
  simp only [State.evaluateGenlock]
  split
  · exact ⟨r, hr, h⟩
  · exact s.evaluate_keeps_told ch _ _ hr h

/-- R126, R169: whichever of GENLOCK_LOST and the decision comes first, the record's own conditions are told; with the
tracker OFF nothing is evaluated after it is filled. -/
theorem State.decideAndEvaluate_told : ∃ r, ((s.decideAndEvaluate ch).view.get ch).record = some r ∧
    (s.decideAndEvaluate ch).ConditionsTold ch r ∧
    ((s.timing.get ch).tracker.state = .off → (s.decideAndEvaluate ch).EntryConditionsTold ch r) := by
  rw [State.decideAndEvaluate]
  split
  case isTrue off =>
    obtain ⟨r, filled⟩ := s.decideFrame_evaluates ch
    exact ⟨r, filled.record, filled.told, fun _ => filled.entriesTold⟩
  case isFalse on =>
    dsimp only
    split
    · obtain ⟨r, filled⟩ := State.decideFrame_evaluates _ ch
      exact ⟨r, filled.record, filled.told, fun off => absurd off on⟩
    · obtain ⟨r, filled⟩ := State.decideFrame_evaluates _ ch
      obtain ⟨r', record, told⟩ := State.evaluateGenlock_keeps_told _ ch filled.record filled.told
      exact ⟨r', record, told, fun off => absurd off on⟩

theorem State.openFrame_timing : (s.openFrame ch).timing = s.timing := (State.displayBoundary_swapFrame _ ch).timing

/-- R60, R126: the record of a display frame start. -/
theorem State.startFrame_told : ∃ r, ((s.startFrame ch).view.get ch).record = some r ∧
    (s.startFrame ch).ConditionsTold ch r ∧
    ((s.timing.get ch).tracker.state = .off → (s.startFrame ch).EntryConditionsTold ch r) := by
  obtain ⟨r, record, told, entriesTold⟩ := ((s.openFrame ch).setTiming ch (((s.openFrame ch).timing.get ch).displayStart
    ((s.openFrame ch).params.get ch) (s.openFrame ch).counter)).decideAndEvaluate_told ch
  refine ⟨r, record, told, fun off => entriesTold ?_⟩
  rw [State.setTiming_timing, Pair.get_set, State.openFrame_timing]
  exact LinkTiming.displayStart_off off _ _

end

/-! ## VIEW-RESTART (R70, R128) -/

/-- R44: the camera-side boundary at a restart leaves the record's night flag. -/
theorem State.restartReceiver_recordNight (s : State) (ch c : Channel) :
    ((s.restartReceiver ch).view.get c).record.map FrameRecord.night = (s.view.get c).record.map FrameRecord.night := by
  have swapped (u : State) (t : TableId) : ((u.swapIfWaiting t).view.get c).record.map FrameRecord.night =
      (u.view.get c).record.map FrameRecord.night :=
    State.swapIfWaiting_keeps (f := fun u => (u.view.get c).record.map FrameRecord.night) (fun _ _ => rfl)
      (fun u d => u.evaluate_recordNight d _ _ c) u t
  rw [State.restartReceiver, State.cameraBoundary, swapped, swapped]
  rfl

/-- R70: the record that a restart amends. -/
theorem State.restart_evaluates {s : State} {ch : Channel} {before : FrameRecord}
    (hr : (s.view.get ch).record = some before) :
    ∃ r, (s.restart ch).Evaluates ch r ∧ r.view = .start ∧ r.night = before.night := by
  have nights := s.restartReceiver_recordNight ch ch
  rw [hr, Option.map_some, Option.map_eq_some_iff] at nights
  obtain ⟨stood, record, night⟩ := nights
  obtain ⟨u, hu, heq⟩ := s.restart_eq ch
  have view : u.view.get ch = { (s.restartReceiver ch).view.get ch with state := .start, holdTimer := 0 } := by
    rw [hu, State.endPass_view, State.begunAfresh_view, Pair.get_set]
  obtain ⟨r, amended, start, kept, -⟩ := State.amendRecord_evaluates (ch := ch) (before := stood)
    (s := u.setTiming ch ((u.timing.get ch).restart (u.params.get ch))) .start
    (by rw [State.setTiming_view, view, record])
  rw [heq]
  exact ⟨r, amended, start, kept.trans night⟩

/-- Settles O14: a record is evaluated where it is filled and where it is amended, and nothing that a condition reads
changes after it. -/
theorem conditionsAreEvaluatedAtStartAndAmendment : Obligations.ConditionsAreEvaluatedAtStartAndAmendment := by
  refine ⟨fun s ch hh hd => ?_, fun s ch before hh hd hl hr => ?_, fun s r ch before hs hk hch hp hr => ?_,
    fun s ch k outcome before hv ht hr => ?_⟩
  · obtain ⟨r, record, told, entriesTold⟩ := s.startFrame_told ch
    refine ⟨s.startFrame ch, r, ?_, record, told, entriesTold⟩
    rw [exec_displayFrameStart, execDisplayFrameStart, whenRunning_eq hh, if_pos hd]
  · obtain ⟨r, amended, view, night, -⟩ := State.enterFallback_evaluates hr
    refine ⟨s.enterFallback ch, r, ?_, amended.record, view, night, amended.told, amended.entriesTold⟩
    rw [exec_holdLimitReached, execHoldLimitReached, whenRunning_eq hh, if_pos ⟨hd, hl⟩]
  · obtain ⟨c, amended, view, night⟩ := State.restart_evaluates hr
    exact ⟨(s.restart ch).answered r .ok [], c, (exec_viewRestart s).trans (whenExecuting_of hs (Request.isKind_of hk)
      ((State.onChannel_eq hch).trans (State.withLength_eq (congrArg List.length hp)))),
      amended.record, view, night, amended.told, amended.entriesTold⟩
  · obtain ⟨r, amended, view, night, buffer⟩ := s.evaluate_enters_evaluates ch k outcome hv ht hr
    exact ⟨r, amended.record, view, night, buffer, amended.told, amended.entriesTold⟩

end Sys2Proof.Machine
end

section
/-! The queues of the links (R141, R150, R196, R197): what the slots held are counted from, and the account of them that
every effect of the part keeps. -/

namespace Sys2Proof.Machine

/-! ## The slots held (R196) -/

/-- R14, R196: the link whose COMMIT a staged bank holds. -/
def Staged.heldFor : Staged → Option Channel
  | .verifying load _ _ => some load.owner
  | .idle | .loading _ | .swapWait _ _ => none

theorem Staged.heldFor_of_not_verifying {x : Staged} (h : x.isVerifying = false) : x.heldFor = none := by
  cases x with
  | verifying => cases h
  | idle | loading | swapWait => rfl

/-- R2: the thirteen tables. -/
def allTables : List TableId := (channelTables .left).dropLast ++ channelTables .right

theorem mem_allTables (t : TableId) : t ∈ allTables := by
  cases t with
  | faultActions => decide
  | develop ch | defectList ch | warpMesh ch | toneCurves ch | glareResponse ch | overlaySet ch => cases ch <;> decide

theorem allTables_nodup : allTables.Nodup := by decide

theorem State.heldCommits_eq (s : State) (link : Channel) :
    s.heldCommits link = allTables.countP fun t => (s.table t).staged.heldFor == some link := by
  refine List.countP_congr fun t _ => ?_
  cases (s.table t).staged with
  | verifying => simp [Staged.heldFor]
  | idle | loading | swapWait => simp [Staged.heldFor]

/-- R196: the slot that the request in execution holds. -/
def Agent.heldOn (a : Agent) (link : Channel) : Nat :=
  match a.executing with
  | some r => if r.link = link then 1 else 0
  | none => 0

theorem Agent.heldOn_some {a : Agent} {r : Request} (h : a.executing = some r) (link : Channel) :
    a.heldOn link = if r.link = link then 1 else 0 := by rw [Agent.heldOn, h]

theorem Agent.heldOn_none {a : Agent} (h : a.executing = none) (link : Channel) : a.heldOn link = 0 := by
  rw [Agent.heldOn, h]

theorem PassRecord.heldOn_waiting (l : Channel) (tag : Byte) (n : Nat) (link : Channel) :
    (PassRecord.waiting l tag n).heldOn link = if l = link then 1 else 0 := rfl

theorem PassRecord.heldOn_idle (link : Channel) : PassRecord.idle.heldOn link = 0 := rfl

/-- R196: the slots that the WAITING passes of both channels hold. -/
def State.heldPasses (s : State) (link : Channel) : Nat :=
  s.receiver.left.pass.heldOn link + s.receiver.right.pass.heldOn link

theorem State.slotsHeld_eq (s : State) (link : Channel) :
    s.slotsHeld link = (s.link.get link).requests.length + (s.link.get link).answers.length + s.heldCommits link
      + s.heldPasses link + s.agent.heldOn link := rfl

/-- A count over a list without repetitions after a test has changed for one element. -/
theorem countP_of_changed {α : Type} [DecidableEq α] {l : List α} (hn : l.Nodup) {a : α} (ha : a ∈ l)
    {p q : α → Bool} (h : ∀ b, b ≠ a → q b = p b) : l.countP q + (p a).toNat = l.countP p + (q a).toNat := by
  have split (f : α → Bool) : l.countP f = (l.erase a).countP f + (f a).toNat := by
    rw [(List.perm_cons_erase ha).countP_eq, List.countP_cons]
    cases f a <;> rfl
  have rest : (l.erase a).countP q = (l.erase a).countP p :=
    List.countP_congr fun b hb => by rw [h b fun hba => hn.not_mem_erase (hba ▸ hb)]
  rw [split p, split q, rest]
  omega

section

variable (s : State) (c : Channel)

/-- R196: the requests and answers of a link's queues hold its slots. -/
theorem State.setLink_slotsHeld (ch : Channel) (x : LinkUnit) {q : List Request} {a : List Answer}
    (hq : x.requests = q) (ha : x.answers = a) :
    (s.setLink ch x).slotsHeld ch + ((s.link.get ch).requests.length + (s.link.get ch).answers.length) =
      s.slotsHeld ch + (q.length + a.length) := by
  subst hq ha
  have commits : (s.setLink ch x).heldCommits ch = s.heldCommits ch := rfl
  have passes : (s.setLink ch x).heldPasses ch = s.heldPasses ch := rfl
  rw [State.slotsHeld_eq, State.slotsHeld_eq, commits, passes, State.setLink_link, State.setLink_agent, Pair.get_set]
  omega

theorem State.setLink_slotsHeld_other {ch : Channel} (x : LinkUnit) (h : c ≠ ch) :
    (s.setLink ch x).slotsHeld c = s.slotsHeld c := by
  rw [State.slotsHeld_eq, State.setLink_link, Pair.get_set_other _ _ h]
  rfl

/-- R142: an answer takes a slot on its link. -/
theorem State.answer_slotsHeld (link : Channel) (a : Answer) :
    (s.answer link a).slotsHeld c = s.slotsHeld c + if link = c then 1 else 0 := by
  by_cases h : c = link
  · subst h
    have written := s.setLink_slotsHeld c { s.link.get c with answers := (s.link.get c).answers ++ [a] }
      (q := (s.link.get c).requests) rfl rfl
    rw [List.length_append, List.length_singleton] at written
    rw [if_pos rfl, State.answer]
    omega
  · rw [if_neg (Ne.symm h)]
    exact s.setLink_slotsHeld_other c _ h

/-- R199: the agent's request holds a slot until its execution ends. -/
theorem State.setAgent_slotsHeld (a : Agent) :
    (s.setAgent a).slotsHeld c + s.agent.heldOn c = s.slotsHeld c + a.heldOn c := by
  have commits : (s.setAgent a).heldCommits c = s.heldCommits c := rfl
  have passes : (s.setAgent a).heldPasses c = s.heldPasses c := rfl
  rw [State.slotsHeld_eq, State.slotsHeld_eq, commits, passes, State.setAgent_link, State.setAgent_agent]
  omega

theorem State.freeAgent_slotsHeld {r : Request} (hr : s.agent.executing = some r) :
    s.freeAgent.slotsHeld c + (if r.link = c then 1 else 0) = s.slotsHeld c :=
  Agent.heldOn_some hr c ▸ s.setAgent_slotsHeld c { s.agent with executing := none }

/-- R50, R51: a pass record holds a slot while it is WAITING. -/
theorem State.setReceiver_slotsHeld (ch : Channel) (x : Receiver) {before after : PassRecord}
    (hb : (s.receiver.get ch).pass = before) (ha : x.pass = after) :
    (s.setReceiver ch x).slotsHeld c + before.heldOn c = s.slotsHeld c + after.heldOn c := by
  subst hb ha
  have passes : (s.setReceiver ch x).heldPasses c + (s.receiver.get ch).pass.heldOn c =
      s.heldPasses c + x.pass.heldOn c := by
    cases ch <;> simp only [State.heldPasses, State.setReceiver_receiver, Pair.set_left, Pair.set_right, Pair.get_left,
      Pair.get_right] <;> omega
  have commits : (s.setReceiver ch x).heldCommits c = s.heldCommits c := rfl
  rw [State.slotsHeld_eq, State.slotsHeld_eq, commits, State.setReceiver_link, State.setReceiver_agent]
  omega

/-- R14, R18: a staged bank holds a slot while it is VERIFYING. -/
theorem State.setStaged_slotsHeld (t : TableId) (x : Staged) :
    (s.setStaged t x).slotsHeld c + ((s.table t).staged.heldFor == some c).toNat =
      s.slotsHeld c + (x.heldFor == some c).toNat := by
  have commits : (s.setStaged t x).heldCommits c + ((s.table t).staged.heldFor == some c).toNat =
      s.heldCommits c + (x.heldFor == some c).toNat := by
    rw [State.heldCommits_eq, State.heldCommits_eq]
    have changed := countP_of_changed allTables_nodup (mem_allTables t)
      (p := fun u => (s.table u).staged.heldFor == some c)
      (q := fun u => ((s.setStaged t x).table u).staged.heldFor == some c)
      fun u hu => by rw [State.setStaged_table_staged, if_neg hu]
    rwa [State.setStaged_table_staged, if_pos rfl] at changed
  have passes : (s.setStaged t x).heldPasses c = s.heldPasses c := rfl
  have link : (s.setStaged t x).link = s.link := rfl
  have agent : (s.setStaged t x).agent = s.agent := rfl
  rw [State.slotsHeld_eq, State.slotsHeld_eq, passes, link, agent]
  omega

end

/-! ## What leaves the queues -/

/-- From `s` to `t` no request, answer or expected signature has come or gone, and no slot has changed its holder. -/
structure State.QueuesStand (s t : State) : Prop where
  requests : ∀ c, (t.link.get c).requests = (s.link.get c).requests
  answers : ∀ c, (t.link.get c).answers = (s.link.get c).answers
  expected : ∀ c, (t.link.get c).expected = (s.link.get c).expected
  passes : ∀ c link, (t.receiver.get c).pass.heldOn link = (s.receiver.get c).pass.heldOn link
  commits : ∀ x, (t.table x).staged.heldFor = (s.table x).staged.heldFor
  agent : t.agent = s.agent

/-- R19: a swap takes no table into VERIFYING or out of it. -/
theorem State.SwapsOnly.heldFor {s t : State} (h : s.SwapsOnly t) (x : TableId) :
    (t.table x).staged.heldFor = (s.table x).staged.heldFor := by
  have all (us : TableStore) (hus : s.tables.Swaps us) : (us.get x).staged.heldFor = (s.table x).staged.heldFor := by
    induction hus with
    | refl => rfl
    | swap _ hw ih =>
      rw [← ih, TableStore.swapIn_get]
      split
      · subst_vars; rw [hw]; rfl
      · rfl
  exact all _ h.tables

section

variable {s t u : State}

theorem State.QueuesStand.of_eq (hl : t.link = s.link) (hr : t.receiver = s.receiver) (ht : t.tables = s.tables)
    (ha : t.agent = s.agent) : s.QueuesStand t := by
  refine ⟨fun _ => ?_, fun _ => ?_, fun _ => ?_, fun _ _ => ?_, fun _ => ?_, ha⟩
  · rw [hl]
  · rw [hl]
  · rw [hl]
  · rw [hr]
  · rw [State.table, State.table, ht]

theorem State.QueuesStand.refl (s : State) : s.QueuesStand s := .of_eq rfl rfl rfl rfl

theorem State.QueuesStand.trans (h : s.QueuesStand t) (k : t.QueuesStand u) : s.QueuesStand u where
  requests c := (k.requests c).trans (h.requests c)
  answers c := (k.answers c).trans (h.answers c)
  expected c := (k.expected c).trans (h.expected c)
  passes c link := (k.passes c link).trans (h.passes c link)
  commits x := (k.commits x).trans (h.commits x)
  agent := k.agent.trans h.agent

theorem State.QueuesStand.slotsHeld (h : s.QueuesStand t) (c : Channel) : t.slotsHeld c = s.slotsHeld c := by
  have commits : t.heldCommits c = s.heldCommits c := by simp only [State.heldCommits_eq, h.commits]
  have passes : t.heldPasses c = s.heldPasses c := congrArg₂ (· + ·) (h.passes .left c) (h.passes .right c)
  rw [State.slotsHeld_eq, State.slotsHeld_eq, h.requests, h.answers, commits, passes, h.agent]

end

section

variable {s t u : State} {ch : Channel} (h : s.QueuesStand t)
include h

theorem State.QueuesStand.same (hl : u.link = t.link) (hr : u.receiver = t.receiver) (ht : u.tables = t.tables)
    (ha : u.agent = t.agent) : s.QueuesStand u := h.trans (.of_eq hl hr ht ha)

theorem State.QueuesStand.setStore {x : FrameStore} : s.QueuesStand (t.setStore ch x) := h.same rfl rfl rfl rfl
theorem State.QueuesStand.setView {x : ViewControl} : s.QueuesStand (t.setView ch x) := h.same rfl rfl rfl rfl
theorem State.QueuesStand.setGlare {x : Glare} : s.QueuesStand (t.setGlare ch x) := h.same rfl rfl rfl rfl
theorem State.QueuesStand.setTiming {x : LinkTiming} : s.QueuesStand (t.setTiming ch x) := h.same rfl rfl rfl rfl
theorem State.QueuesStand.setParams {x : ChannelParams} : s.QueuesStand (t.setParams ch x) := h.same rfl rfl rfl rfl
theorem State.QueuesStand.setPending {x : List PendingValue} : s.QueuesStand (t.setPending ch x) :=
  h.same rfl rfl rfl rfl
theorem State.QueuesStand.setOutputs {x : Outputs} : s.QueuesStand (t.setOutputs ch x) := h.same rfl rfl rfl rfl
theorem State.QueuesStand.setCoverage {x : Coverage} : s.QueuesStand (t.setCoverage ch x) := h.same rfl rfl rfl rfl
theorem State.QueuesStand.setEntries {x : FaultEntries} : s.QueuesStand (t.setEntries ch x) := h.same rfl rfl rfl rfl

theorem State.QueuesStand.setReceiver {x : Receiver}
    (hx : ∀ link, x.pass.heldOn link = (t.receiver.get ch).pass.heldOn link) : s.QueuesStand (t.setReceiver ch x) := by
  refine h.trans ⟨fun _ => rfl, fun _ => rfl, fun _ => rfl, fun c link => ?_, fun _ => rfl, rfl⟩
  rw [State.setReceiver_receiver, Pair.get_set_eq]
  split
  · subst_vars; exact hx link
  · rfl

theorem State.QueuesStand.setLink {x : LinkUnit} (hq : x.requests = (t.link.get ch).requests)
    (ha : x.answers = (t.link.get ch).answers) (he : x.expected = (t.link.get ch).expected) :
    s.QueuesStand (t.setLink ch x) := by
  have stands {α : Type} (f : LinkUnit → α) (hx : f x = f (t.link.get ch)) (c : Channel) :
      f ((t.setLink ch x).link.get c) = f (t.link.get c) := by
    rw [State.setLink_link, Pair.get_set_eq]
    split
    · subst_vars; exact hx
    · rfl
  exact h.trans ⟨stands _ hq, stands _ ha, stands _ he, fun _ _ => rfl, fun _ => rfl, rfl⟩

theorem State.QueuesStand.evalFrame (k : State.EvalFrame ch t u) : s.QueuesStand u :=
  h.same k.link k.receiver k.tables k.agent

theorem State.QueuesStand.swaps (k : t.SwapsOnly u) (hl : u.link = t.link) (hr : u.receiver = t.receiver)
    (ha : u.agent = t.agent) : s.QueuesStand u :=
  h.trans ⟨fun _ => by rw [hl], fun _ => by rw [hl], fun _ => by rw [hl], fun _ _ => by rw [hr], k.heldFor, ha⟩

theorem State.QueuesStand.setTables {x : TableStore}
    (hx : ∀ y, (x.get y).staged.heldFor = (t.table y).staged.heldFor) : s.QueuesStand (t.setTables x) :=
  h.trans ⟨fun _ => rfl, fun _ => rfl, fun _ => rfl, fun _ _ => rfl, hx, rfl⟩

theorem State.QueuesStand.setTable {x : TableId} {e : TableEntry} (he : e.staged.heldFor = (t.table x).staged.heldFor) :
    s.QueuesStand (t.setTable x e) := by
  refine h.setTables fun y => ?_
  rw [TableStore.get_set_eq]
  split
  · subst_vars; exact he
  · rfl

theorem State.QueuesStand.leaveQueue {x : TableId} : s.QueuesStand (t.leaveQueue x) := by
  rw [State.leaveQueue_eq]
  exact h.setTables fun y => by rw [TableStore.get_engine]; rfl

theorem State.QueuesStand.evaluate {k : FaultKind} {o : Option Nat} : s.QueuesStand (t.evaluate ch k o) :=
  h.evalFrame (t.evaluate_evalFrame ch k o)

theorem State.QueuesStand.evaluateEach {k : FaultKind} {o : Channel → Option Nat} {chs : List Channel} :
    s.QueuesStand (t.evaluateEach k o chs) :=
  List.foldlRecOn chs _ h fun _ hu _ _ => hu.evaluate

theorem State.QueuesStand.cameraBoundary : s.QueuesStand (t.cameraBoundary ch) :=
  have frame := t.cameraBoundary_swapFrame ch
  h.swaps (State.SwapsOnly.refl t).cameraBoundary frame.link frame.receiver frame.agent

theorem State.QueuesStand.cameraBoundaryIfIdle : s.QueuesStand (t.cameraBoundaryIfIdle ch) :=
  have frame := t.cameraBoundaryIfIdle_swapFrame ch
  h.swaps (State.SwapsOnly.refl t).cameraBoundaryIfIdle frame.link frame.receiver frame.agent

theorem State.QueuesStand.displayBoundary : s.QueuesStand (t.displayBoundary ch) :=
  have frame := t.displayBoundary_swapFrame ch
  h.swaps (State.SwapsOnly.refl t).displayBoundary frame.link frame.receiver frame.agent

theorem State.QueuesStand.swapAtVerifyEnd {x : TableId} : s.QueuesStand (t.swapAtVerifyEnd x) := by
  cases x with
  | faultActions =>
    exact h.swaps (State.SwapsOnly.refl t).swapIfWaiting (t.swapIfWaiting_link _)
      (State.swapIfWaiting_keeps (fun _ _ => rfl) (fun u c => (u.evaluate_evalFrame c _ _).receiver) t _)
      (t.swapIfWaiting_agent _)
  | develop | defectList => exact h.cameraBoundaryIfIdle
  | warpMesh | toneCurves | glareResponse | overlaySet => exact h

theorem State.QueuesStand.tellMeshLost {x : TableId} : s.QueuesStand (t.tellMeshLost x) := by
  cases x with
  | warpMesh ch => exact h.evalFrame (t.onMeshLost_evalFrame ch)
  | develop | defectList | toneCurves | glareResponse | overlaySet | faultActions => exact h

theorem State.QueuesStand.malformed {d : Nat} {a : Assembly} : s.QueuesStand (t.malformed ch d a) :=
  (h.evaluate.setStore.setReceiver fun _ => by rfl).cameraBoundary

theorem State.QueuesStand.tickCamera : s.QueuesStand (t.tickCamera ch) := by
  simp only [State.tickCamera]
  split
  · exact (h.setReceiver fun _ => by rfl).evaluate
  · exact (h.setReceiver fun _ => by rfl).evaluate

theorem State.QueuesStand.tickDisplay : s.QueuesStand (t.tickDisplay ch) := by
  simp only [State.tickDisplay]
  split
  · exact (h.setLink (by rfl) (by rfl) (by rfl)).evaluate
  · exact (h.setLink (by rfl) (by rfl) (by rfl)).evaluate

theorem State.QueuesStand.tickScrub : s.QueuesStand t.tickScrub := by
  rw [State.tickScrub]
  split
  · exact h
  · split
    · exact h
    · exact h.setTables fun y => by rw [TableStore.get_engine]; rfl

end

end Sys2Proof.Machine
end

section
/-! The account of the slots (R141, R197) and of the expected signatures (R150) that every step keeps. -/

namespace Sys2Proof.Machine

/-! ## The account -/

/-- From `s` to `t` the promises of R197, R141 and R150 are kept. -/
structure State.QueuesKept (s t : State) : Prop where
  owned : s.RequestsOwned → t.RequestsOwned
  slots : s.RequestsOwned → s.SlotsSound → t.SlotsSound
  expected : s.ExpectedSound → t.ExpectedSound

section

variable {s t u : State}

theorem State.QueuesKept.trans (h : s.QueuesKept t) (k : t.QueuesKept u) : s.QueuesKept u where
  owned ho := k.owned (h.owned ho)
  slots ho hs := k.slots (h.owned ho) (h.slots ho hs)
  expected he := k.expected (h.expected he)

/-- Where no request has come, no link holds more slots and no signature queue has grown. -/
theorem State.QueuesKept.of_le (hq : ∀ c, (t.link.get c).requests = (s.link.get c).requests)
    (hs : ∀ c, t.slotsHeld c ≤ s.slotsHeld c)
    (he : ∀ c, (t.link.get c).expected.length ≤ (s.link.get c).expected.length) : s.QueuesKept t where
  owned ho c r hr := ho c r (hq c ▸ hr)
  slots _ h c := (hs c).trans (h c)
  expected h c := (he c).trans (h c)

theorem State.QueuesStand.kept (h : s.QueuesStand t) : s.QueuesKept t :=
  .of_le h.requests (fun c => (h.slotsHeld c).le) fun c => (congrArg List.length (h.expected c)).le

theorem State.QueuesKept.refl (s : State) : s.QueuesKept s := (State.QueuesStand.refl s).kept

/-- R154: a part reset empties every queue. -/
theorem State.QueuesKept.of_reset (hl : t.link = State.reset.link) (hr : t.receiver = State.reset.receiver)
    (ht : t.tables = State.reset.tables) (ha : t.agent = State.reset.agent) : s.QueuesKept t := by
  have reset : State.reset.QueuesStand t := .of_eq hl hr ht ha
  exact ⟨fun _ => reset.kept.owned requestsOwned_reset,
    fun _ _ => reset.kept.slots requestsOwned_reset slotsSound_reset,
    fun _ => reset.kept.expected expectedSound_reset⟩

end

/-! ## Effects that leave the queues -/

section

variable (s : State) (ch : Channel)

theorem State.takeFrameStart_queuesStand : s.QueuesStand (s.takeFrameStart ch) := by
  have begun (u : State) (h : s.QueuesStand u) : s.QueuesStand (u.beginFrame ch) :=
    h.setStore.setReceiver fun _ => by rfl
  rw [State.takeFrameStart]
  split
  · exact begun _ (State.QueuesStand.refl s).malformed
  · exact begun _ (.refl s)

theorem State.takeEmbedded_queuesStand (f : Option (BitVec 16 × Byte)) : s.QueuesStand (s.takeEmbedded ch f) := by
  unfold State.takeEmbedded
  split
  case h_1 => exact (State.QueuesStand.refl s).setReceiver fun _ => by rfl
  case h_5 | h_6 => exact .refl s
  all_goals exact (State.QueuesStand.refl s).malformed

theorem State.takeLine_queuesStand (f : Option (Nat × List Nat)) : s.QueuesStand (s.takeLine ch f) := by
  unfold State.takeLine
  split
  case h_4 =>
    split
    · exact (State.QueuesStand.refl s).malformed
    · exact (State.QueuesStand.refl s).setStore.setReceiver fun _ => by rfl
  case h_5 | h_6 => exact .refl s
  all_goals exact (State.QueuesStand.refl s).malformed

theorem State.QueuesStand.countChecked {s t : State} {ch : Channel} (h : s.QueuesStand t)
    {verdict : Option Nat × Option (Option Nat) × Bool} : s.QueuesStand (t.countChecked ch verdict) := by
  simp only [State.countChecked]
  split
  · exact h.evaluate.evaluate
  · exact h.evaluate

theorem State.QueuesStand.goodFrame {s t : State} {ch : Channel} (h : s.QueuesStand t) {f : FrameFacts}
    {counter : BitVec 16} {status : Byte} : s.QueuesStand (t.goodFrame ch f counter status) := by
  have checked : s.QueuesStand (t.goodChecked ch f counter status) :=
    (h.evaluate.setStore.countChecked.setReceiver fun _ => by rfl).evaluate
  rw [State.goodFrame_eq]
  exact (checked.setStore.setReceiver fun _ => by rfl).cameraBoundary

theorem State.takeFrameEnd_queuesStand (f : Option Nat) : s.QueuesStand (s.takeFrameEnd ch f) := by
  have refl := State.QueuesStand.refl s
  have timed : s.QueuesStand (s.frameEndTime ch) := by
    rw [State.frameEndTime]
    split
    · exact refl
    · exact refl.setTiming
  unfold State.takeFrameEnd
  split
  case h_4 =>
    split
    · exact timed.goodFrame
    · exact timed.malformed
  case h_5 => exact timed.setReceiver fun _ => by rfl
  case h_6 => exact refl
  all_goals exact timed.malformed

theorem State.takeStatus_queuesStand (lux : BitVec 16) (f : Bool) : s.QueuesStand (s.takeStatus ch lux f) := by
  have seen : s.QueuesStand (s.seeStatus ch lux f) := (State.QueuesStand.refl s).setLink (by rfl) (by rfl) (by rfl)
  rw [State.takeStatus, State.nightReading]
  split
  · exact seen.setGlare.evaluate
  · exact seen.evaluate

theorem State.discardCell_queuesStand : s.QueuesStand (s.discardCell ch) :=
  (State.QueuesStand.refl s).setLink (by rfl) (by rfl) (by rfl)

theorem State.setTickSchedule_queuesStand (x : PartParams) : s.QueuesStand (s.setTickSchedule x) := by
  rw [State.setTickSchedule]
  split
  · exact .refl s
  · exact .of_eq rfl rfl rfl rfl

theorem State.stageValue_queuesStand (p : Param) (v : List Nat) : s.QueuesStand (s.stageValue ch p v) := by
  have refl := State.QueuesStand.refl s
  rw [State.stageValue]
  split
  · unfold State.putPartWide
    split
    · exact s.setTickSchedule_queuesStand _
    · exact s.setTickSchedule_queuesStand _
    · exact refl.setGlare.setParams
    · exact refl.setParams
  · exact refl.setPending.cameraBoundaryIfIdle
  · exact refl.setPending

theorem State.endScrub_queuesStand (st : ScrubStep) : s.QueuesStand (s.endScrub st) := by
  have done : s.QueuesStand s.scrubDone :=
    (State.QueuesStand.refl s).setTables fun y => by rw [TableStore.get_engine]; rfl
  by_cases hm : st.finish (s.table st.table) = (s.table st.table).active.checksum
  · rw [State.endScrub_of_match hm]
    exact done.evaluateEach
  · rw [State.endScrub_of_mismatch hm]
    exact (done.setTable (by rfl)).evaluateEach.tellMeshLost

theorem State.decide_evalFrame : State.EvalFrame ch s (s.decide ch).1 := by
  simp only [State.decide]
  split
  · split
    · exact s.setStore_evalFrame ch _
    · exact s.setStore_evalFrame ch _
  · split
    · exact (s.setView_evalFrame ch _).trans (State.setStore_evalFrame _ ch _)
    · split
      · exact s.enterFallback_evalFrame ch
      · exact (s.setView_evalFrame ch _).trans (State.setStore_evalFrame _ ch _)
  · split
    · exact (s.setView_evalFrame ch _).trans (State.setStore_evalFrame _ ch _)
    · exact .refl ch s
  · split
    · exact (s.setView_evalFrame ch _).trans (State.setStore_evalFrame _ ch _)
    · exact .refl ch s

theorem State.evaluateGenlock_evalFrame : State.EvalFrame ch s (s.evaluateGenlock ch) := by
  simp only [State.evaluateGenlock]
  split
  · exact .refl ch s
  · exact s.evaluate_evalFrame ch _ _

theorem State.QueuesStand.decideFrame {s t : State} {ch : Channel} (h : s.QueuesStand t) :
    s.QueuesStand (t.decideFrame ch) := by
  have filled : s.QueuesStand ((t.decide ch).1.fillRecord ch (t.decide ch).2) :=
    (h.evalFrame (t.decide_evalFrame ch)).setView
  unfold State.decideFrame State.beginLines
  extract_lets decided
  split
  · exact filled
  · split
    · exact (filled.setLink (by rfl) (by rfl) (by rfl)).setGlare
    · exact filled.setLink (by rfl) (by rfl) (by rfl)

theorem State.endLine_queuesStand : s.QueuesStand (s.endLine ch) :=
  ((State.QueuesStand.refl s).setLink (by rfl) (by rfl) (by rfl)).setStore

theorem State.startFrame_queuesStand : s.QueuesStand (s.startFrame ch) := by
  unfold State.startFrame State.decideAndEvaluate
  extract_lets opened timed first drawn
  have begun : s.QueuesStand timed :=
    ((s.endLine_queuesStand ch).setLink (by rfl) (by rfl) (by rfl)).displayBoundary.setTiming
  have counted : s.QueuesStand drawn := begun.same rfl rfl rfl rfl
  split
  · exact begun.decideFrame
  · split
    · exact (counted.evalFrame (drawn.evaluateGenlock_evalFrame ch)).decideFrame
    · exact counted.decideFrame.evalFrame (State.evaluateGenlock_evalFrame _ ch)

theorem State.startLine_queuesStand : s.QueuesStand (s.startLine ch) := by
  simp only [State.startLine]
  split
  · exact .refl s
  · exact ((State.QueuesStand.refl s).setLink (by rfl) (by rfl) (by rfl)).setGlare.setOutputs

theorem State.passTime_queuesStand : s.QueuesStand s.passTime := by
  refine ⟨fun _ => rfl, fun _ => rfl, fun _ => rfl, fun _ _ => rfl, fun x => ?_, rfl⟩
  exact congrArg (fun e : TableEntry => e.staged.heldFor) (s.tables.get_engine _ _ _ _ x)

theorem State.sendHeader_queuesStand : s.QueuesStand (s.sendHeader ch) := by
  rw [State.sendHeader]
  split
  · exact .refl s
  · exact ((State.QueuesStand.refl s).setLink (by rfl) (by rfl) (by rfl)).setOutputs

end

/-! ## Effects that move requests, answers and signatures -/

section

variable (s : State) (ch : Channel)

/-- R151: a match leaves at most the entries newer than the one matched. -/
theorem matchSignature_length {queue newer : List (Seq × Check)} {seq : Seq} {value : Check}
    (h : matchSignature queue seq = some (value, newer)) : newer.length ≤ queue.length := by
  induction queue with
  | nil => cases h
  | cons e rest ih =>
    rw [matchSignature] at h
    split at h
    · cases h; exact Nat.le_succ _
    · exact (ih h).trans (Nat.le_succ _)

/-- What one link's queues may become: no request of the other link, no more slots than are free, no signature queue of
more than 4 entries. -/
theorem State.setLink_queuesKept {x : LinkUnit} (hq : ∀ r ∈ x.requests, r ∈ (s.link.get ch).requests ∨ r.link = ch)
    (hs : s.slotsHeld ch ≤ 8 → s.slotsHeld ch + (x.requests.length + x.answers.length) ≤
      8 + ((s.link.get ch).requests.length + (s.link.get ch).answers.length))
    (he : (s.link.get ch).expected.length ≤ 4 → x.expected.length ≤ 4) : s.QueuesKept (s.setLink ch x) := by
  have other {c : Channel} (hc : c ≠ ch) : (s.setLink ch x).link.get c = s.link.get c := Pair.get_set_other _ _ hc
  have own : (s.setLink ch x).link.get ch = x := Pair.get_set _ ch _
  refine ⟨fun ho c r hr => ?_, fun _ h c => ?_, fun h c => ?_⟩
  · by_cases hc : c = ch
    · subst hc
      rw [own] at hr
      exact (hq r hr).elim (ho c r) id
    · exact ho c r (other hc ▸ hr)
  · by_cases hc : c = ch
    · subst hc
      have held := s.setLink_slotsHeld c x rfl rfl
      have free := hs (h c)
      omega
    · rw [s.setLink_slotsHeld_other c x hc]
      exact h c
  · by_cases hc : c = ch
    · subst hc
      rw [own]
      exact he (h c)
    · rw [other hc]
      exact h c

/-- Where the requests and answers stand, a signature queue of 4 entries at most may take the place of another. -/
theorem State.setLink_expected_queuesKept {x : LinkUnit} (hq : x.requests = (s.link.get ch).requests)
    (ha : x.answers = (s.link.get ch).answers)
    (he : (s.link.get ch).expected.length ≤ 4 → x.expected.length ≤ 4) : s.QueuesKept (s.setLink ch x) :=
  s.setLink_queuesKept ch (fun r hr => .inl (hq ▸ hr)) (fun h => by rw [hq, ha]; omega) he

theorem State.takeSignature_queuesKept (seq : Seq) (value : Check) : s.QueuesKept (s.takeSignature ch seq value) := by
  rw [State.takeSignature]
  split
  · exact (State.QueuesStand.refl s).evaluate.kept
  case h_2 newer hm =>
    have matched : s.QueuesKept (s.setLink ch { s.link.get ch with expected := newer }) :=
      s.setLink_expected_queuesKept ch rfl rfl (matchSignature_length hm).trans
    exact matched.trans (State.QueuesStand.refl _).evaluate.kept

/-- R150: a queue takes an entry, and at 4 it first loses its oldest. -/
theorem pushExpected_length {queue : List (Seq × Check)} (h : queue.length ≤ 4) (e : Seq × Check) :
    (pushExpected queue e).length ≤ 4 := by
  rw [pushExpected, List.length_append, List.length_singleton]
  split
  · rw [List.length_drop]; omega
  · omega

theorem State.endFrame_queuesKept : s.QueuesKept (s.endFrame ch) := by
  cases hr : (s.view.get ch).record with
  | none =>
    have stays : s.endFrame ch = s := by rw [State.endFrame, hr]
    rw [stays]
    exact .refl s
  | some r =>
    have closed : s.QueuesKept (s.closeLines ch r) :=
      (State.QueuesStand.refl s).setGlare.kept.trans
        (State.setLink_expected_queuesKept _ ch rfl rfl fun h => pushExpected_length h _)
    rw [s.endFrame_eq ch r hr]
    exact closed.trans ((State.QueuesStand.refl _).evalFrame (State.evaluateFrameEnd_evalFrame _ ch r)).kept

/-- R142: an answer joins a queue of answers alone. -/
theorem State.answer_requests (link : Channel) (a : Answer) (c : Channel) :
    ((s.answer link a).link.get c).requests = (s.link.get c).requests := by
  rw [State.answer, State.setLink_link, Pair.get_set_eq]
  split
  · subst_vars; rfl
  · rfl

theorem State.answer_expected (link : Channel) (a : Answer) (c : Channel) :
    ((s.answer link a).link.get c).expected = (s.link.get c).expected := by
  rw [State.answer, State.setLink_link, Pair.get_set_eq]
  split
  · subst_vars; rfl
  · rfl

/-- R196, R199: the slot of a request that is answered passes from the agent to the answer. -/
theorem State.finish_queuesKept {r : Request} (hr : s.agent.executing = some r) (x : Result) (p : List Byte) :
    s.QueuesKept (s.finish r x p) := by
  refine .of_le (s.answer_requests _ _) (fun c => ?_) fun c => (congrArg List.length (s.answer_expected _ _ c)).le
  have answered := s.answer_slotsHeld c r.link { tag := r.tag, kind := r.kind, result := x, payload := p }
  have freed := State.freeAgent_slotsHeld
    (s.answer r.link { tag := r.tag, kind := r.kind, result := x, payload := p }) c hr
  rw [State.finish]
  omega

/-- R51, R196: the slot of a pass that ends passes to its answer. -/
theorem State.endPass_queuesKept (x : Result) (p : List Byte) : s.QueuesKept (s.endPass ch x p) := by
  rw [State.endPass]
  split
  · exact .refl s
  case h_2 link tag ticks hp =>
    refine .of_le (State.answer_requests _ _ _) (fun c => ?_)
      fun c => (congrArg List.length (State.answer_expected _ _ _ c)).le
    have ended := s.setReceiver_slotsHeld c ch { s.receiver.get ch with pass := .idle } hp rfl
    rw [PassRecord.heldOn_waiting, PassRecord.heldOn_idle] at ended
    rw [State.answer_slotsHeld]
    omega

/-- R50, R196: the slot of a CAMERA-PASS that is taken passes from the agent to the pass record. -/
theorem State.sendPass_queuesKept {r : Request} (hr : s.agent.executing = some r)
    (hp : (s.receiver.get ch).pass = .idle) : s.QueuesKept (s.sendPass r ch) := by
  refine .of_le (fun _ => rfl) (fun c => ?_) fun _ => Nat.le_refl _
  have waits := s.setReceiver_slotsHeld c ch { s.receiver.get ch with pass := .waiting r.link r.tag 0 } hp rfl
  have freed := State.freeAgent_slotsHeld
    (s.setReceiver ch { s.receiver.get ch with pass := .waiting r.link r.tag 0 }) c hr
  have sent : (s.sendPass r ch).slotsHeld c =
      (s.setReceiver ch { s.receiver.get ch with pass := .waiting r.link r.tag 0 }).freeAgent.slotsHeld c := rfl
  rw [PassRecord.heldOn_waiting, PassRecord.heldOn_idle] at waits
  rw [sent]
  omega

/-- R14, R196: the slot of a COMMIT that is taken passes from the agent to the staged bank. -/
theorem State.commit_queuesKept {r : Request} {t : TableId} {load : Load} (hr : s.agent.executing = some r)
    (ho : load.owner = r.link) : s.QueuesKept (s.commit r t load) := by
  refine .of_le (fun _ => rfl) (fun c => ?_) fun _ => Nat.le_refl _
  have held := s.setStaged_slotsHeld c t (.verifying load (BitVec.ofNat 32 (le32 r.payload 0)) r.tag)
  have freed := State.freeAgent_slotsHeld
    (s.setStaged t (.verifying load (BitVec.ofNat 32 (le32 r.payload 0)) r.tag)) c hr
  have queued : (s.commit r t load).slotsHeld c =
      (s.setStaged t (.verifying load (BitVec.ofNat 32 (le32 r.payload 0)) r.tag)).freeAgent.slotsHeld c := by
    refine State.QueuesStand.slotsHeld ?_ c
    refine ⟨fun _ => rfl, fun _ => rfl, fun _ => rfl, fun _ _ => rfl, fun x => ?_, rfl⟩
    exact congrArg (fun e : TableEntry => e.staged.heldFor) (State.setVerifyQueue_table _ x _)
  have owner : ((Staged.verifying load (BitVec.ofNat 32 (le32 r.payload 0)) r.tag).heldFor == some c).toNat =
      if r.link = c then 1 else 0 := by
    rw [Staged.heldFor, ho]
    by_cases h : r.link = c <;> simp [h]
  omega

/-- R18, R196: the slot of a COMMIT that is answered passes from the staged bank to the answer. -/
theorem State.answerCommit_queuesKept {t : TableId} {load : Load} {supplied : Check} {tag : Byte}
    (hv : (s.table t).staged = .verifying load supplied tag) (x : Result) (p : List Byte) {y : Staged}
    (hy : y.heldFor = none) : s.QueuesKept ((s.answerCommit load tag x p).setStaged t y) := by
  refine .of_le (s.answer_requests _ _) (fun c => ?_) fun c => (congrArg List.length (s.answer_expected _ _ c)).le
  have answered := s.answer_slotsHeld c load.owner { tag := tag, kind := 5, result := x, payload := p }
  have left := (s.answerCommit load tag x p).setStaged_slotsHeld c t y
  have staged : ((s.answerCommit load tag x p).table t).staged.heldFor = some load.owner :=
    congrArg Staged.heldFor hv
  have owner : (some load.owner == some c).toNat = if load.owner = c then 1 else 0 := by
    by_cases h : load.owner = c <;> simp [h]
  have none : ((none : Option Channel) == some c).toNat = 0 := rfl
  rw [staged, hy, owner, none] at left
  rw [State.answerCommit] at left ⊢
  omega

theorem State.endVerify_queuesKept {t : TableId} {load : Load} {supplied : Check} {tag : Byte}
    (hv : (s.table t).staged = .verifying load supplied tag) : s.QueuesKept (s.endVerify t load supplied tag) := by
  have verified : s.QueuesKept (s.verified t load supplied tag) := by
    refine s.answerCommit_queuesKept hv _ _ ?_
    split <;> rfl
  rw [State.endVerify_eq]
  split
  · exact verified.trans (State.QueuesStand.refl _).swapAtVerifyEnd.leaveQueue.kept
  · exact verified.trans (State.QueuesStand.refl _).leaveQueue.kept

/-- R197: a request takes a slot where one is free. -/
theorem State.acceptRequest_queuesKept (r : Request) : s.QueuesKept (s.acceptRequest r) := by
  rw [State.acceptRequest]
  split
  · exact (s.discardCell_queuesStand r.link).kept
  case isFalse hfree =>
    refine s.setLink_queuesKept r.link (fun q hq => ?_) (fun _ => ?_) id
    · exact (List.mem_append.mp hq).imp_right fun h => congrArg Request.link (List.mem_singleton.mp h)
    · simp only [List.length_append, List.length_singleton]
      omega

/-- R198: the slot of the request taken passes from its link's queue to the agent. -/
theorem State.serve_queuesKept (hf : s.agent.executing = none) : s.QueuesKept (s.serve ch) := by
  rw [State.serve]
  split
  · exact .refl s
  case h_2 r rest hr =>
    have taken : s.QueuesKept (s.setLink ch { s.link.get ch with requests := rest }) := by
      refine s.setLink_queuesKept ch (fun q hq => .inl (hr ▸ List.mem_cons_of_mem r hq)) (fun _ => ?_) id
      rw [hr, List.length_cons]
      dsimp only
      omega
    refine ⟨taken.owned, fun ho h c => ?_, taken.expected⟩
    have owner : r.link = ch := ho ch r (hr ▸ List.mem_cons_self)
    have held := h c
    generalize hx : ({ s.link.get ch with requests := rest } : LinkUnit) = x
    have agent := (s.setLink ch x).setAgent_slotsHeld c { executing := some r, lastServed := ch }
    rw [State.setLink_agent, Agent.heldOn_none hf, Agent.heldOn_some rfl] at agent
    by_cases hc : c = ch
    · subst hc
      have left := s.setLink_slotsHeld c x (q := rest) (a := (s.link.get c).answers) (by rw [← hx]) (by rw [← hx])
      rw [hr, List.length_cons] at left
      rw [if_pos owner] at agent
      omega
    · rw [if_neg fun h => hc (h.symm.trans owner), s.setLink_slotsHeld_other c _ hc] at agent
      omega

/-- R140: an answer that is sent frees its slot. -/
theorem State.sendAnswer_queuesKept (n : Nat) (b : Bool) : s.QueuesKept (s.sendAnswer ch n b) := by
  simp only [State.sendAnswer]
  split
  · exact .refl s
  case h_2 a rest ha =>
    refine State.QueuesKept.trans (State.setLink_queuesKept s ch ?_ (fun _ => ?_) ?_)
      (State.QueuesStand.refl _).setOutputs.kept
    · exact fun r hr => .inl hr
    · rw [ha, List.length_cons]
      dsimp only
      omega
    · exact id

theorem State.tickPass_queuesKept : s.QueuesKept (s.tickPass ch) := by
  rw [State.tickPass]
  split
  · exact .refl s
  case h_2 link tag ticks hp =>
    split
    · exact ((State.QueuesStand.refl s).setReceiver fun l => by rw [hp]; rfl).kept
    · exact s.endPass_queuesKept ch _ _

theorem State.superviseTick_queuesKept : s.QueuesKept s.superviseTick := by
  have begun : s.QueuesStand { s with lastTick := some s.counter } := .of_eq rfl rfl rfl rfl
  have ticked := begun.tickCamera (ch := .left) |>.tickCamera (ch := .right) |>.tickDisplay (ch := .left)
    |>.tickDisplay (ch := .right) |>.tickScrub
  exact (ticked.kept.trans (State.tickPass_queuesKept _ .left)).trans (State.tickPass_queuesKept _ .right)

/-- R53, R71: a restart answers the WAITING pass and empties the expected signature queue. -/
theorem State.restart_queuesKept : s.QueuesKept (s.restart ch) := by
  have received : s.QueuesStand (s.restartReceiver ch) :=
    ((State.QueuesStand.refl s).setReceiver fun _ => by rfl).cameraBoundary
  have begun : s.QueuesKept ((s.restartReceiver ch).begunAfresh ch) :=
    received.setStore.setStore.setView.setGlare.setEntries.kept.trans
      (State.setLink_expected_queuesKept _ ch rfl rfl fun _ => Nat.zero_le 4)
  obtain ⟨u, hu, heq⟩ := s.restart_eq ch
  rw [heq, hu]
  exact (begun.trans (State.endPass_queuesKept _ ch _ _)).trans
    ((State.QueuesStand.refl _).setTiming.evalFrame (State.amendRecord_evalFrame _ ch _)).kept

end

/-! ## The induction -/

/-- Every effect of the part keeps the account. -/
theorem queuesKept_kept (s : State) : State.Kept s.QueuesKept where
  frameStart u ch h := h.trans (u.takeFrameStart_queuesStand ch).kept
  embedded u ch f h := h.trans (u.takeEmbedded_queuesStand ch f).kept
  line u ch f h := h.trans (u.takeLine_queuesStand ch f).kept
  frameEnd u ch f h := h.trans (u.takeFrameEnd_queuesStand ch f).kept
  endPass u ch x p h := h.trans (u.endPass_queuesKept ch x p)
  status u ch lux f h := h.trans (u.takeStatus_queuesStand ch lux f).kept
  signature u ch q v h := h.trans (u.takeSignature_queuesKept ch q v)
  accept u r h := h.trans (u.acceptRequest_queuesKept r)
  discard u ch h := h.trans (u.discardCell_queuesStand ch).kept
  serve u ch h hf := h.trans (u.serve_queuesKept ch hf)
  finish u _ x p h hr := h.trans (u.finish_queuesKept hr x p)
  stage u _ ch p h _ _ := h.trans (u.stageValue_queuesStand ch p _).kept
  setStaged u _ t h _ hi := h.trans ((State.QueuesStand.refl u).setTable (by rw [hi]; rfl)).kept
  loadData u _ t load h _ hl _ := h.trans ((State.QueuesStand.refl u).setTable (by rw [hl]; rfl)).kept
  commit u _ _ _ h hr _ ho := h.trans (u.commit_queuesKept hr ho)
  abandonVerify u _ _ _ _ h hv :=
    (h.trans (u.answerCommit_queuesKept hv _ _ rfl)).trans (State.QueuesStand.refl _).leaveQueue.kept
  abandon u t h hv := h.trans ((State.QueuesStand.refl u).setTable
    (by rw [Staged.heldFor_of_not_verifying hv]; rfl)).kept
  lock u _ _ h := h.trans ((State.QueuesStand.refl u).setTable (by rfl)).kept
  acknowledge u h := h.trans (State.QueuesStand.refl u).setEntries.setEntries.kept
  clear u _ h := h.trans (State.QueuesStand.refl u).setEntries.kept
  restart u ch h := h.trans (u.restart_queuesKept ch)
  trackerOff u _ h _ := h.trans (State.QueuesStand.refl u).setTiming.kept
  trackerOn u _ h := h.trans (State.QueuesStand.refl u).setTiming.kept
  bandwidth u _ _ h := h.trans (State.QueuesStand.refl u).setTiming.kept
  selectTracked u _ h _ := h.trans (State.QueuesStand.refl u).setTiming.kept
  selectInternal u _ h := h.trans (State.QueuesStand.refl u).setTiming.kept
  sendPass u _ ch h hr hp := h.trans (u.sendPass_queuesKept ch hr hp)
  writeCoverage u _ _ h _ _ _ := h.trans (State.QueuesStand.refl u).setCoverage.kept
  fixCoverage u _ _ h _ := h.trans (State.QueuesStand.refl u).setCoverage.kept
  requestReset u _ h := h.trans ((State.QueuesStand.refl u).setLink (by rfl) (by rfl) (by rfl)).kept
  tick u h := h.trans u.superviseTick_queuesKept
  verifyStart u _ _ h _ _ :=
    h.trans ((State.QueuesStand.refl u).setTables fun y => by rw [TableStore.get_engine]; rfl).kept
  verifyEnd u _ _ _ _ h _ hv := h.trans (u.endVerify_queuesKept hv)
  scrubEnd u st h _ := h.trans (u.endScrub_queuesStand st).kept
  startFrame u ch h := h.trans (u.startFrame_queuesStand ch).kept
  holdLimit u ch h := h.trans ((State.QueuesStand.refl u).evalFrame (u.enterFallback_evalFrame ch)).kept
  startLine u ch h := h.trans (u.startLine_queuesStand ch).kept
  endLine u ch h := h.trans (u.endLine_queuesStand ch).kept
  endFrame u ch h := h.trans (u.endFrame_queuesKept ch)
  header u ch h := h.trans (u.sendHeader_queuesStand ch).kept
  sendAnswer u ch n b h := h.trans (u.sendAnswer_queuesKept ch n b)
  areaEnd u _ h := h.trans ((State.QueuesStand.refl u).setLink (by rfl) (by rfl) (by rfl)).kept
  referenceStart u _ h := h.trans (State.QueuesStand.refl u).setTiming.kept
  holdover u _ h := h.trans (State.QueuesStand.refl u).setTiming.kept
  manageReset _ h := h.trans (.of_reset rfl rfl rfl rfl)
  queue _ _ _ h := h.trans (State.QueuesStand.of_eq (by rfl) (by rfl) (by rfl) (by rfl)).kept
  passTime u h := h.trans u.passTime_queuesStand.kept
  beginReset _ _ h := h.trans (.of_reset rfl rfl rfl rfl)
  completeReset _ _ _ h := h.trans (.of_reset rfl rfl rfl rfl)
  hold _ _ h := h.trans (State.QueuesStand.of_eq (by rfl) (by rfl) (by rfl) (by rfl)).kept

/-- Settles O55, by the induction over the commands: what each effect does to the queues keeps the account. -/
theorem stepKeepsSlotsAndSignaturesBounded : Obligations.StepKeepsSlotsAndSignaturesBounded := by
  intro s t hs
  have kept : s.QueuesKept t := (queuesKept_kept s).step (.refl s) hs
  exact ⟨fun ho => ⟨kept.owned ho, kept.slots ho⟩, kept.expected⟩

end Sys2Proof.Machine
end

section
/-! The return cells that report a monitor's state and a frame's signature (R145, R151), and their statements. -/

namespace Sys2Proof.Machine

/-! ## The night detector (R94, R95) -/

section

variable {g : Glare} {p : ChannelParams} {lux : Nat}

/-- R95: a reading on its own side of the level ends the dwell. -/
theorem Glare.reading_of_near
    (h : (g.night = false ∧ p.nightEnter < lux) ∨ (g.night = true ∧ lux < max p.nightExit (p.nightEnter + 1))) :
    g.reading p lux = { g with dwell := 0 } := by
  rcases h with ⟨day, above⟩ | ⟨night, below⟩
  · simp only [Glare.reading, day, Bool.false_eq_true, if_false, if_neg (Nat.not_le.mpr above)]
  · have short : ¬p.exitLevel ≤ lux := Nat.not_le.mpr below
    simp only [Glare.reading, night, if_true, if_neg short]

/-- R95: a reading on the other side counts, and at NIGHT_DWELL the night flag moves. -/
theorem Glare.reading_of_far
    (h : ¬((g.night = false ∧ p.nightEnter < lux) ∨ (g.night = true ∧ lux < max p.nightExit (p.nightEnter + 1)))) :
    g.reading p lux = if p.nightDwell ≤ g.dwell + 1 then { g with night := !g.night, dwell := 0 }
      else { g with dwell := g.dwell + 1 } := by
  obtain ⟨day, night⟩ := not_or.mp h
  refine if_pos ?_
  cases hn : g.night with
  | false => exact Nat.not_lt.mp fun above => day ⟨hn, above⟩
  | true => exact Nat.not_lt.mp fun below => night ⟨hn, below⟩

end

/-- R94: the detector after a reading, which it takes in AUTO mode only. -/
def State.detectorAfter (s : State) (ch : Channel) (lux : Nat) : Glare :=
  if (s.params.get ch).nightMode = .auto then (s.glare.get ch).reading (s.params.get ch) lux else s.glare.get ch

/-! ## A report of the monitor (R145) -/

/-- R178, R179: of the link a judgement reads the number of the frame alone. -/
theorem State.setLink_judged (s : State) {ch : Channel} {x : LinkUnit} (hx : x.frameSeq = (s.link.get ch).frameSeq)
    (k : FaultKind) (o : Option Nat) : (s.setLink ch x).judged ch k o = s.judged ch k o := by
  have number : ((s.setLink ch x).link.get ch).frameSeq = (s.link.get ch).frameSeq := by
    rw [State.setLink_link, Pair.get_set, hx]
  rw [State.judged, number]
  rfl

section

variable (s : State) (ch : Channel) (lux : BitVec 16) (fault : Bool)

/-- R145: the part after a report is seen and read, before DISP_BACKLIGHT is evaluated. -/
def State.reported (s : State) (ch : Channel) (lux : BitVec 16) (fault : Bool) : State :=
  (s.seeStatus ch lux fault).setGlare ch (s.detectorAfter ch lux.toNat)

theorem State.takeStatus_eq : s.takeStatus ch lux fault =
    (s.reported ch lux fault).evaluate ch .dispBacklight (if fault then some lux.toNat else none) := by
  have read : (s.seeStatus ch lux fault).nightReading ch lux.toNat = s.reported ch lux fault := by
    rw [State.reported, State.detectorAfter]
    by_cases auto : (s.params.get ch).nightMode = .auto
    · rw [if_pos auto]
      exact if_pos auto
    · have whole : (s.seeStatus ch lux fault).setGlare ch (s.glare.get ch) = s.seeStatus ch lux fault :=
        congrArg (fun g => { s.seeStatus ch lux fault with glare := g }) (Pair.set_get _ _)
      rw [if_neg auto, whole]
      exact if_neg auto
  rw [State.takeStatus, read]

theorem State.reported_judged (k : FaultKind) (o : Option Nat) :
    (s.reported ch lux fault).judged ch k o = s.judged ch k o :=
  s.setLink_judged (x := { s.link.get ch with statusSeen := true, lastStatus := some (lux, fault) }) rfl k o

/-- R145, R94: what a report changes: the link's status, the detector, and what the evaluation changes. -/
theorem State.takeStatus_frame : s.takeStatus ch lux fault = { s with
    link := s.link.set ch { s.link.get ch with statusSeen := true, lastStatus := some (lux, fault) }
    glare := s.glare.set ch ((s.takeStatus ch lux fault).glare.get ch)
    view := s.view.set ch ((s.takeStatus ch lux fault).view.get ch)
    store := s.store.set ch ((s.takeStatus ch lux fault).store.get ch)
    entries := s.entries.set ch ((s.takeStatus ch lux fault).entries.get ch)
    history := (s.takeStatus ch lux fault).history, historyCount := (s.takeStatus ch lux fault).historyCount } := by
  have frame := ((s.reported ch lux fault).evaluate_evalFrame ch .dispBacklight
    (if fault then some lux.toNat else none)).channel
  rw [← State.takeStatus_eq] at frame
  generalize s.takeStatus ch lux fault = t at frame ⊢
  have glare : (s.reported ch lux fault).glare.set ch (t.glare.get ch) = s.glare.set ch (t.glare.get ch) :=
    Pair.set_set s.glare ch _ _
  rw [glare] at frame
  exact frame

/-- R94, R95: an evaluation leaves the detector as the report left it. -/
theorem State.takeStatus_detector :
    ((s.takeStatus ch lux fault).glare.get ch).night = (s.detectorAfter ch lux.toNat).night ∧
      ((s.takeStatus ch lux fault).glare.get ch).dwell = (s.detectorAfter ch lux.toNat).dwell := by
  have read : (s.reported ch lux fault).glare.get ch = s.detectorAfter ch lux.toNat := Pair.get_set _ ch _
  rw [State.takeStatus_eq, ← read]
  exact State.evaluate_detector _ ch _ _ ch

theorem exec_monitorStatus_of {s : State} {cell : List Byte} (hs : s.held = false)
    (hc : readReturnCell cell = .monitorStatus lux fault) :
    exec (.monitorStatus ch cell) s = .next (s.takeStatus ch lux fault) := by
  rw [exec_monitorStatus, execMonitorStatus, whenRunning_eq hs, hc]

end

/-- Settles O16: the report is seen, the detector reads it by the case of R95, and the evaluation leaves both. -/
theorem monitorStatusDoesThreeThings : Obligations.MonitorStatusDoesThreeThings := by
  intro ch cell s lux fault hs hc
  obtain ⟨night, dwell⟩ := s.takeStatus_detector ch lux fault
  refine ⟨s.takeStatus ch lux fault, exec_monitorStatus_of ch lux fault hs hc, s.takeStatus_frame ch lux fault, ?_, ?_⟩
  · rw [night, dwell, State.detectorAfter]
    by_cases auto : (s.params.get ch).nightMode = .auto
    · rw [if_neg (not_not.mpr auto), if_pos auto]
      split
      case isTrue near => rw [Glare.reading_of_near near]; exact ⟨rfl, rfl⟩
      case isFalse far =>
        rw [Glare.reading_of_far far]
        split <;> exact ⟨rfl, rfl⟩
    · rw [if_pos auto, if_neg auto]
      exact ⟨rfl, rfl⟩
  · rw [State.takeStatus_eq, State.evaluate_entry, State.reported_judged]
    rfl

/-! ## A reported signature (R151) -/

/-- R151: the entry matched is the oldest of its number; what is newer stays. -/
theorem matchSignature_of_mem {older newer : List (Seq × Check)} {seq : Seq} {expected : Check}
    (h : ∀ e ∈ older, e.1 ≠ seq) : matchSignature (older ++ (seq, expected) :: newer) seq = some (expected, newer) := by
  induction older with
  | nil => exact if_pos rfl
  | cons e older ih =>
    exact (if_neg (h e List.mem_cons_self)).trans (ih fun x hx => h x (List.mem_cons_of_mem e hx))

theorem matchSignature_of_absent {queue : List (Seq × Check)} {seq : Seq} (h : ∀ e ∈ queue, e.1 ≠ seq) :
    matchSignature queue seq = none := by
  induction queue with
  | nil => rfl
  | cons e queue ih =>
    exact (if_neg (h e List.mem_cons_self)).trans (ih fun x hx => h x (List.mem_cons_of_mem e hx))

section

variable {s : State} {ch : Channel} {seq : Seq} {value expected : Check} {newer : List (Seq × Check)}

theorem State.takeSignature_matched (h : matchSignature (s.link.get ch).expected seq = some (expected, newer)) :
    s.takeSignature ch seq value =
      (s.setLink ch { s.link.get ch with expected := newer }).evaluate ch .dispMismatch
        (if expected = value then none else some seq.toNat) := by
  rw [State.takeSignature, h]

theorem State.takeSignature_unmatched (h : matchSignature (s.link.get ch).expected seq = none) :
    s.takeSignature ch seq value = s.evaluate ch .dispMismatch (some seq.toNat) := by
  rw [State.takeSignature, h]

theorem exec_signature_of {cell : List Byte} (hs : s.held = false) (hc : readReturnCell cell = .signature seq value) :
    exec (.signature ch cell) s = .next (s.takeSignature ch seq value) := by
  rw [exec_signature, execSignature, whenRunning_eq hs, hc]

end

/-- Settles O17: the entry is found or is not, and DISP_MISMATCH is judged on a link that differs in its queue alone. -/
theorem signatureIsMatched : Obligations.SignatureIsMatched := by
  intro ch cell s seq value hs hc
  refine ⟨fun older newer expected hq ho => ⟨_, exec_signature_of hs hc, ?_⟩,
    fun ha => ⟨_, exec_signature_of hs hc, ?_⟩⟩
  · rw [State.takeSignature_matched (hq ▸ matchSignature_of_mem ho)]
    have frame := (s.setLink ch { s.link.get ch with expected := newer }).evaluate_evalFrame ch .dispMismatch
      (if expected = value then none else some seq.toNat)
    refine ⟨frame.link, ?_⟩
    rw [State.evaluate_entry, State.setLink_judged _ (by rfl)]
    rfl
  · rw [State.takeSignature_unmatched (matchSignature_of_absent ha)]
    exact ⟨(s.evaluate_evalFrame ch _ _).link, s.evaluate_entry ch _ _⟩

end Sys2Proof.Machine
end

section
/-! The ancillary area (R140, R141, R144, R213): the bytes of a header cell and what the cells change. -/

namespace Sys2Proof.Machine

/-! ## Bytes laid out and read back (R1, R210) -/

theorem toLe_length (w n : Nat) : (toLe w n).length = w := by
  induction w generalizing n with
  | zero => rfl
  | succ w ih => rw [toLe, List.length_cons, ih]

theorem byteAt_append_right (xs ys : List Byte) (i : Nat) : byteAt (xs ++ ys) (xs.length + i) = byteAt ys i := by
  rw [byteAt, byteAt, List.getD_append_right _ _ _ _ (Nat.le_add_right _ _), Nat.add_sub_cancel_left]

theorem byteAt_append_left {xs : List Byte} (ys : List Byte) {i : Nat} (h : i < xs.length) :
    byteAt (xs ++ ys) i = byteAt xs i := by
  rw [byteAt, byteAt, List.getD_append _ _ _ _ h]

theorem le16_append_left {xs : List Byte} (ys : List Byte) {i : Nat} (h : i + 1 < xs.length) :
    le16 (xs ++ ys) i = le16 xs i := by
  rw [le16, le16, byteAt_append_left _ h, byteAt_append_left _ (Nat.lt_of_succ_lt h)]

theorem byteAt_ofNat {bytes : List Byte} {i n : Nat} (h : bytes[i]? = some (BitVec.ofNat 8 n)) :
    byteAt bytes i = n % 256 := by
  rw [byteAt, List.getD_eq_getElem?_getD, h]
  rfl

theorem le16_ofNat {bytes : List Byte} {i n : Nat} (h : bytes[i]? = some (BitVec.ofNat 8 n))
    (h' : bytes[i + 1]? = some (BitVec.ofNat 8 (n / 256))) : le16 bytes i = n % 65536 := by
  rw [le16, byteAt_ofNat h, byteAt_ofNat h']
  omega

/-- R210: the four bytes of a check read back. -/
theorem le32_toLe (n : Nat) : le32 (toLe 4 n) 0 = n % 2 ^ 32 := by
  have bytes : toLe 4 n = [BitVec.ofNat 8 n, BitVec.ofNat 8 (n / 256), BitVec.ofNat 8 (n / 256 / 256),
    BitVec.ofNat 8 (n / 256 / 256 / 256)] := rfl
  rw [bytes]
  simp only [le32, le16, byteAt, List.getD_cons_zero, List.getD_cons_succ, BitVec.toNat_ofNat]
  omega

/-- R210: bytes sent with their check pass it. -/
theorem withCheck_passes {bytes : List Byte} (h : bytes ≠ []) :
    (withCheck bytes).length = bytes.length + 4 ∧ checkPasses (withCheck bytes) (bytes.length + 4) = true := by
  have length : (withCheck bytes).length = bytes.length + 4 := by
    rw [withCheck, List.length_append, toLe_length]
  have body : (withCheck bytes).take bytes.length = bytes := List.take_left
  have check : le32 (withCheck bytes) bytes.length = (pairSum bytes).toNat := by
    have shifted (i : Nat) : byteAt (withCheck bytes) (bytes.length + i) = byteAt (toLe 4 (pairSum bytes).toNat) i :=
      byteAt_append_right _ _ i
    have read : le32 (withCheck bytes) bytes.length = le32 (toLe 4 (pairSum bytes).toNat) 0 := by
      simp only [le32, le16, Nat.add_assoc, shifted, Nat.zero_add]
      rw [← shifted 0]
      rfl
    rw [read, le32_toLe, Nat.mod_eq_of_lt (pairSum bytes).isLt]
  have positive : 0 < bytes.length := List.length_pos_iff.mpr h
  refine ⟨length, ?_⟩
  rw [checkPasses, Nat.add_sub_cancel, body, check, length]
  simp only [BEq.rfl, Bool.true_and, Bool.and_true, decide_eq_true_eq]
  omega

/-! ## The header's fields (R213) -/

/-- R213: each kind has its own bit of a flag word. -/
theorem FaultEntries.flagWord_testBit (p : FaultEntry → Bool) (es : FaultEntries) (k : FaultKind) :
    (es.flagWord p).testBit (k.number - 1) = p (es.get k) := by
  rw [FaultEntries.flagWord, testBit_bitsOf]
  cases k <;> rfl

/-- R213: no kind has a bit past the thirteenth. -/
theorem FaultEntries.flagWord_testBit_past (p : FaultEntry → Bool) (es : FaultEntries) {n : Nat} (h : 13 ≤ n) :
    (es.flagWord p).testBit n = false := by
  rw [FaultEntries.flagWord, testBit_bitsOf]
  exact List.getD_eq_default _ _ h

theorem FaultKind.number_lt (k : FaultKind) : k.number - 1 < 16 := by cases k <;> decide

section

variable (s : State) (ch : Channel) (r : FrameRecord)

/-- R141, R213: the fourteen bytes of a header before its check. -/
def State.headerBody (s : State) (ch : Channel) (r : FrameRecord) : List Byte :=
  [BitVec.ofNat 8 32, BitVec.ofNat 8 r.seq.toNat, BitVec.ofNat 8 (r.seq.toNat / 256), BitVec.ofNat 8 r.view.code,
    BitVec.ofNat 8 (s.headerFlags ch r), BitVec.ofNat 8 (s.glare.get ch).tilesInGlare,
    BitVec.ofNat 8 ((s.entries.get ch).flagWord FaultEntry.isActive),
    BitVec.ofNat 8 ((s.entries.get ch).flagWord FaultEntry.isActive / 256),
    BitVec.ofNat 8 ((s.entries.get ch).flagWord FaultEntry.isLatched),
    BitVec.ofNat 8 ((s.entries.get ch).flagWord FaultEntry.isLatched / 256), BitVec.ofNat 8 s.historyCount.toNat,
    BitVec.ofNat 8 (s.timing.get ch).tracker.state.code, BitVec.ofNat 8 (8 - s.slotsHeld ch),
    BitVec.ofNat 8 (s.answersFollowing ch)]

theorem State.headerBytes_eq : s.headerBytes ch r = withCheck (s.headerBody ch r) := rfl

/-- R213: a byte of the header stands before its check. -/
theorem State.headerBytes_getElem? {i : Nat} (hi : i < 14) : (s.headerBytes ch r)[i]? = (s.headerBody ch r)[i]? := by
  rw [State.headerBytes_eq, withCheck]
  exact List.getElem?_append_left hi

theorem State.headerBytes_byteAt {i n : Nat} (hi : i < 14) (h : (s.headerBody ch r)[i]? = some (BitVec.ofNat 8 n)) :
    byteAt (s.headerBytes ch r) i = n % 256 := byteAt_ofNat ((s.headerBytes_getElem? ch r hi).trans h)

theorem State.headerBytes_le16 {i n : Nat} (hi : i + 1 < 14) (h : (s.headerBody ch r)[i]? = some (BitVec.ofNat 8 n))
    (h' : (s.headerBody ch r)[i + 1]? = some (BitVec.ofNat 8 (n / 256))) :
    le16 (s.headerBytes ch r) i = n % 65536 :=
  le16_ofNat ((s.headerBytes_getElem? ch r (Nat.lt_of_succ_lt hi)).trans h) ((s.headerBytes_getElem? ch r hi).trans h')

/-- R213: the header's flags, bit by bit. -/
theorem State.headerBytes_flag {k : Nat} (hk : k < 8) : (byteAt (s.headerBytes ch r) 4).testBit k =
    [r.fresh, r.night, r.mesh == some .turn, (s.entries.get ch).any FaultEntry.unacknowledged, s.faultN,
      (s.link.get ch).rxDiscard, (s.timing.get ch).source == .tracked, false].getD k false := by
  have flags : byteAt (s.headerBytes ch r) 4 = s.headerFlags ch r % 2 ^ 8 := s.headerBytes_byteAt ch r (by decide) rfl
  rw [flags, Nat.testBit_mod_two_pow, decide_eq_true hk, Bool.true_and, State.headerFlags, testBit_bitsOf]

/-- R213: the flag words of the active and of the latched kinds. -/
theorem State.headerBytes_active (n : Nat) : (le16 (s.headerBytes ch r) 6).testBit n =
    (Decidable.decide (n < 16) && ((s.entries.get ch).flagWord FaultEntry.isActive).testBit n) := by
  have word : le16 (s.headerBytes ch r) 6 = (s.entries.get ch).flagWord FaultEntry.isActive % 2 ^ 16 :=
    s.headerBytes_le16 ch r (by decide) rfl rfl
  rw [word, Nat.testBit_mod_two_pow]

theorem State.headerBytes_latched (n : Nat) : (le16 (s.headerBytes ch r) 8).testBit n =
    (Decidable.decide (n < 16) && ((s.entries.get ch).flagWord FaultEntry.isLatched).testBit n) := by
  have word : le16 (s.headerBytes ch r) 8 = (s.entries.get ch).flagWord FaultEntry.isLatched % 2 ^ 16 :=
    s.headerBytes_le16 ch r (by decide) rfl rfl
  rw [word, Nat.testBit_mod_two_pow]

end

/-! ## The cells of the area (R140) -/

theorem exec_headerCell (s : State) (ch : Channel) : exec (.headerCell ch) s = execHeaderCell ch s := rfl
theorem exec_answerCellSent (s : State) (ch : Channel) : exec (.answerCellSent ch) s = execAnswerCellSent ch s := rfl

section

variable {s : State} {ch : Channel}

/-- R140, R144: the header fixes the answers of its area and clears RX-DISCARD. -/
theorem exec_headerCell_of {r : FrameRecord} (hs : s.held = false) (he : (s.link.get ch).frame.stage = .ended)
    (hr : (s.view.get ch).record = some r) : exec (.headerCell ch) s = .next { s with
      link := s.link.set ch { s.link.get ch with
        rxDiscard := false
        frame := { (s.link.get ch).frame with stage := .ancillary (min 8 (s.link.get ch).answers.length) false } }
      outputs := s.outputs.set ch { s.outputs.get ch with cellOut := s.headerBytes ch r } } := by
  rw [exec_headerCell, execHeaderCell, whenRunning_eq hs, if_pos he, State.sendHeader, hr]
  rfl

/-- R140: the oldest answer leaves the queue and is sent. -/
theorem exec_answerCellSent_of {n : Nat} {carried : Bool} {a : Answer} {rest : List Answer} (hs : s.held = false)
    (hn : (s.link.get ch).frame.stage = .ancillary (n + 1) carried) (ha : (s.link.get ch).answers = a :: rest) :
    exec (.answerCellSent ch) s = .next { s with
      link := s.link.set ch { s.link.get ch with
        answers := rest
        frame := { (s.link.get ch).frame with stage := .ancillary n (carried || a.isPartReset) } }
      outputs := s.outputs.set ch { s.outputs.get ch with cellOut := a.cell } } := by
  rw [exec_answerCellSent, execAnswerCellSent, whenRunning_eq hs, hn]
  simp only [State.sendAnswer, ha]
  rfl

end

theorem ViewState.code_lt (v : ViewState) : v.code < 256 := by cases v <;> decide

theorem TrackerState.code_lt (t : TrackerState) : t.code < 256 := by cases t <;> decide

theorem FaultEntry.isActive_iff (e : FaultEntry) : e.isActive = true ↔ e.state = .active ∨ e.state = .recovering := by
  simp only [FaultEntry.isActive, Bool.or_eq_true, beq_iff_eq]

theorem FaultEntry.isLatched_iff (e : FaultEntry) : e.isLatched = true ↔ e.state = .latched := by
  simp only [FaultEntry.isLatched, beq_iff_eq]

/-- Settles O44: the header's fields are read back from its bytes one by one, and each cell's effect is its meaning. -/
theorem ancillaryAreaSendsHeaderThenAnswers : Obligations.AncillaryAreaSendsHeaderThenAnswers := by
  refine ⟨fun s ch r hs he hr hslots => ⟨s.headerBytes ch r, exec_headerCell_of hs he hr, ?_⟩,
    fun s ch n carried a rest hs hn ha => exec_answerCellSent_of hs hn ha⟩
  obtain ⟨length, passes⟩ := withCheck_passes (bytes := s.headerBody ch r) nofun
  have byte {i n : Nat} (hi : i < 14) (h : (s.headerBody ch r)[i]? = some (BitVec.ofNat 8 n)) (hn : n < 256) :
      byteAt (s.headerBytes ch r) i = n := (s.headerBytes_byteAt ch r hi h).trans (Nat.mod_eq_of_lt hn)
  have seq : le16 (s.headerBytes ch r) 1 = r.seq.toNat % 2 ^ 16 := s.headerBytes_le16 ch r (by decide) rfl rfl
  have answers : s.answersFollowing ch < 256 := (min_le_left 8 _).trans_lt (by decide)
  have flag {k : Nat} (hk : k < 8) := s.headerBytes_flag ch r hk
  refine ⟨length, passes, byte (by decide) rfl (by decide), seq.trans (Nat.mod_eq_of_lt r.seq.isLt),
    byte (by decide) rfl r.view.code_lt, byte (by decide) rfl s.historyCount.isLt,
    byte (by decide) rfl (TrackerState.code_lt _), byte (by decide) rfl (by omega), byte (by decide) rfl answers,
    flag (by decide), flag (by decide), ?_, ?_, ?_, flag (by decide), ?_, fun k => ⟨?_, ?_⟩, fun n hn => ⟨?_, ?_⟩,
    flag (by decide), flag (by decide)⟩
  · rw [flag (by decide)]
    exact beq_iff_eq
  · rw [flag (by decide)]
    exact FaultEntries.any_iff _ _
  · rw [flag (by decide)]
    exact beq_iff_eq
  · rw [s.headerBytes_byteAt ch r (by decide) rfl, Glare.tilesInGlare, List.countP_eq_length_filter]
  · rw [State.headerBytes_active, decide_eq_true k.number_lt, Bool.true_and, FaultEntries.flagWord_testBit]
    exact FaultEntry.isActive_iff _
  · rw [State.headerBytes_latched, decide_eq_true k.number_lt, Bool.true_and, FaultEntries.flagWord_testBit]
    exact FaultEntry.isLatched_iff _
  · rw [State.headerBytes_active, FaultEntries.flagWord_testBit_past _ _ hn, Bool.and_false]
  · rw [State.headerBytes_latched, FaultEntries.flagWord_testBit_past _ _ hn, Bool.and_false]

end Sys2Proof.Machine
end

section
/-! The display frame start (R60): the items of the frame and its decision. -/

namespace Sys2Proof.Machine

/-! ## The items of a frame (R29, R78, R88, R104, R119) -/

section

variable (s : State) (ch : Channel)

theorem State.isValid_iff (x : TableId) : s.isValid x = true ↔ (s.table x).active.state = .valid := beq_iff_eq

theorem meshOf_getElem? (bytes : List Byte) (h : Nat) {q : Nat} (hq : q < 99) : (meshOf bytes h)[q]? =
    some { sx := signed32 bytes (1 + 792 * h + 8 * q), sy := signed32 bytes (5 + 792 * h + 8 * q) } := by
  rw [meshOf, List.getElem?_map, List.getElem?_range hq, Option.map_some, meshPoint]

/-- R88: the knots are those of the night flag's curve, or the default ones. -/
theorem State.knotsInUse_getElem? (night : Bool) {k : Nat} (hk : k ≤ 64) : (s.knotsInUse ch night)[k]? =
    some (if (s.table (.toneCurves ch)).active.state = .valid then
        byteAt (s.table (.toneCurves ch)).active.bytes (if night then 65 + k else k)
      else min 255 (4 * k)) := by
  have inRange : k < 65 := Nat.lt_succ_of_le hk
  rw [State.knotsInUse]
  split
  case isTrue valid =>
    rw [if_pos ((s.isValid_iff _).mp valid), List.getElem?_map, List.getElem?_range inRange]
    cases night
    · rfl
    · exact congrArg (fun n => some (byteAt _ n)) (Nat.add_comm k 65)
  case isFalse invalid =>
    rw [if_neg (mt (s.isValid_iff _).mpr invalid), List.getElem?_map, List.getElem?_range inRange]
    rfl

theorem State.knotsInUse_length (night : Bool) : (s.knotsInUse ch night).length = 65 := by
  rw [State.knotsInUse]
  split <;> rw [List.length_map, List.length_range]

/-- R104: the response is the bank's, or the default one. -/
theorem State.responseInUse_getElem? {k : Nat} (hk : k < 16) : (s.responseInUse ch)[k]? =
    some (if (s.table (.glareResponse ch)).active.state = .valid then
        le16 (s.table (.glareResponse ch)).active.bytes (2 * k)
      else 256) := by
  rw [State.responseInUse]
  split
  case isTrue valid =>
    rw [if_pos ((s.isValid_iff _).mp valid), List.getElem?_map, List.getElem?_range hk]
    rfl
  case isFalse invalid =>
    rw [if_neg (mt (s.isValid_iff _).mpr invalid), List.getElem?_replicate, if_pos hk]

theorem State.responseInUse_length : (s.responseInUse ch).length = 16 := by
  rw [State.responseInUse]
  split
  · rw [List.length_map, List.length_range]
  · rw [List.length_replicate]

/-- The items of a frame are those of the banks in force, by its record's mesh and night flag. -/
theorem State.itemsInUse_held (r : FrameRecord) : s.ItemsHeld ch r (s.itemsInUse ch r) := by
  refine ⟨fun h bytes hmesh hbytes => ?_, fun bank hbank => ?_, fun bank hbank => ?_, fun bank hbank => ?_⟩
  · subst hbytes
    have mesh : (s.itemsInUse ch r).mesh = meshOf (s.table (.warpMesh ch)).active.bytes h := by
      rcases hmesh with ⟨chosen, rfl⟩ | ⟨chosen, rfl⟩ <;> rw [State.itemsInUse, chosen] <;> rfl
    rw [mesh]
    exact ⟨by rw [meshOf, List.length_map, List.length_range], fun q hq => meshOf_getElem? _ h hq⟩
  · subst hbank
    exact ⟨s.knotsInUse_length ch r.night, fun k hk => s.knotsInUse_getElem? ch r.night hk⟩
  · subst hbank
    exact ⟨s.responseInUse_length ch, fun k hk => s.responseInUse_getElem? ch hk⟩
  · subst hbank
    have overlay : (s.itemsInUse ch r).overlay = s.overlayInUse ch := rfl
    rw [overlay, State.overlayInUse]
    refine ⟨fun invalid => by rw [if_neg (mt (s.isValid_iff _).mp invalid)], fun valid => ?_⟩
    rw [if_pos ((s.isValid_iff _).mpr valid), readOverlay]
    refine ⟨by rw [List.length_map, List.length_range], rfl, fun i hi => ?_⟩
    rw [List.getElem?_map, List.getElem?_range hi, Option.map_some, layerAt]
    simp only [Nat.add_right_comm 3 (18 * i), Nat.reduceAdd]

variable {s ch}

/-- The items stand where the tables do, for a record that keeps its night flag and at most loses its mesh. -/
theorem State.ItemsHeld.congr {t : State} {r r' : FrameRecord} {items : FrameItems} (h : s.ItemsHeld ch r items)
    (ht : t.tables = s.tables) (hn : r'.night = r.night) (hm : r'.mesh = r.mesh ∨ r'.mesh = none) :
    t.ItemsHeld ch r' items := by
  obtain ⟨mesh, knots, response, overlay⟩ := h
  have table (x : TableId) : t.table x = s.table x := congrArg (TableStore.get · x) ht
  unfold State.ItemsHeld
  simp only [table, hn]
  refine ⟨fun h bytes chosen => ?_, knots, response, overlay⟩
  rcases hm with same | lost
  · exact mesh h bytes (same ▸ chosen)
  · rw [lost] at chosen
    rcases chosen with ⟨chosen, -⟩ | ⟨chosen, -⟩ <;> cases chosen

end

/-! ## What a decision moves (R60, R62, R63, R65, R98) -/

/-- From `s` to `t` the channel's tile map stands, or its view's entry to FALLBACK has reset it; the night flag stands. -/
structure State.MapMoved (ch : Channel) (s t : State) : Prop where
  night : (t.glare.get ch).night = (s.glare.get ch).night
  map : ((t.glare.get ch).tiles = (s.glare.get ch).tiles ∧ (t.glare.get ch).last = (s.glare.get ch).last) ∨
    ((t.glare.get ch).tiles = List.replicate 80 .reset ∧ (t.glare.get ch).last = List.replicate 80 0 ∧
      (t.view.get ch).state = .fallback)

/-- The display frame that begins with the given items (R139, R149). -/
def ForwardFrame.begun (items : FrameItems) : ForwardFrame :=
  { stage := .activeLines, nextLine := 0, lineInProgress := none, signature := .start, items := items }

/-- The state with the given items in its channel's frame, all of whose lines are still to come. -/
def State.withFrame (s : State) (ch : Channel) (items : FrameItems) : State :=
  s.setLink ch { s.link.get ch with frame := .begun items }

/-- R60: from `s` to `t` a frame has been decided and has the record `r`, whose items are those of the banks of `s`. -/
structure State.Decided (ch : Channel) (s t : State) (r : FrameRecord) : Prop where
  frame : ∃ items, State.EvalFrame ch (s.withFrame ch items) t ∧ s.ItemsHeld ch r items
  record : (t.view.get ch).record = some r
  seq : r.seq = (s.link.get ch).frameSeq
  start : r.start = s.counter
  night : r.night = (s.glare.get ch).night
  blank : r.buffer = none → r.fresh = false ∧ r.mesh = none
  shows : r.buffer ≠ none → r.mesh ≠ none ∧ (t.glare.get ch).hot = List.replicate 80 0
  map : State.MapMoved ch s t

section

variable {s t u : State} {ch : Channel}

theorem State.MapMoved.of_eq (h : t.glare.get ch = s.glare.get ch) : State.MapMoved ch s t :=
  ⟨by rw [h], .inl ⟨by rw [h], by rw [h]⟩⟩

theorem State.MapMoved.of_mapReset (h : t.glare.get ch = (s.glare.get ch).mapReset)
    (hv : (t.view.get ch).state = .fallback) : State.MapMoved ch s t :=
  ⟨by rw [h]; rfl, .inr ⟨by rw [h]; rfl, by rw [h]; rfl, hv⟩⟩

theorem State.MapMoved.congr_left (h : State.MapMoved ch t u) (hg : t.glare.get ch = s.glare.get ch) :
    State.MapMoved ch s u := ⟨hg ▸ h.night, hg ▸ h.map⟩

/-- A map moved twice is moved, where a view in FALLBACK has stayed in it. -/
theorem State.MapMoved.trans (h : State.MapMoved ch s t) (k : State.MapMoved ch t u)
    (hv : (t.view.get ch).state = .fallback → (u.view.get ch).state = .fallback) : State.MapMoved ch s u := by
  refine ⟨k.night.trans h.night, ?_⟩
  rcases k.map with ⟨tiles, last⟩ | reset
  · rcases h.map with ⟨tiles', last'⟩ | ⟨tiles', last', fell⟩
    · exact .inl ⟨tiles.trans tiles', last.trans last'⟩
    · exact .inr ⟨tiles.trans tiles', last.trans last', hv fell⟩
  · exact .inr reset

theorem State.EvalFrame.setLink (h : State.EvalFrame ch s t) (x : LinkUnit) :
    State.EvalFrame ch (s.setLink ch x) (t.setLink ch x) := by
  refine ⟨?_, fun c hc => h.other c hc⟩
  rw [State.setLink, h.link, h.frame]
  rfl

/-- R98, R139, R149: the lines of a frame begin, and its hot counts where it shows a buffer. -/
theorem State.beginLines_eq {r : FrameRecord} (hr : (s.view.get ch).record = some r) : s.beginLines ch =
    if r.buffer.isSome then (s.withFrame ch (s.itemsInUse ch r)).setGlare ch
      { s.glare.get ch with hot := List.replicate 80 0 }
    else s.withFrame ch (s.itemsInUse ch r) := by
  rw [State.beginLines, hr]
  rfl

/-- R62: a decision leaves the glare unit, or enters FALLBACK. -/
theorem State.decide_glare (s : State) (ch : Channel) :
    (s.decide ch).1.glare = s.glare ∨ (s.decide ch).1 = s.enterFallback ch := by
  simp only [State.decide]
  split
  · split <;> exact .inl rfl
  · split
    · exact .inl rfl
    · split
      · exact .inr rfl
      · exact .inl rfl
  · split <;> exact .inl rfl
  · split <;> exact .inl rfl

theorem State.enterFallback_mapMoved (s : State) (ch : Channel) : State.MapMoved ch s (s.enterFallback ch) :=
  .of_mapReset (by rw [State.enterFallback_glare, Pair.get_set]) (s.enterFallback_state ch)

theorem State.decide_mapMoved (s : State) (ch : Channel) : State.MapMoved ch s (s.decide ch).1 := by
  rcases s.decide_glare ch with stands | enters
  · exact .of_eq (by rw [stands])
  · rw [enters]
    exact s.enterFallback_mapMoved ch

/-- R60, R98: the record that is filled keeps the view's state, and the lines that begin the map. -/
theorem State.beginLines_mapMoved {r : FrameRecord} (hr : (s.view.get ch).record = some r) :
    State.MapMoved ch s (s.beginLines ch) := by
  rw [State.beginLines_eq hr]
  split
  · refine ⟨?_, .inl ⟨?_, ?_⟩⟩ <;> rw [State.setGlare_glare, Pair.get_set]
  · exact .of_eq rfl

theorem State.decideFrame_mapMoved (s : State) (ch : Channel) : State.MapMoved ch s (s.decideFrame ch) := by
  have filled : State.MapMoved ch s ((s.decide ch).1.fillRecord ch (s.decide ch).2) :=
    (s.decide_mapMoved ch).trans (.of_eq rfl) fun fell =>
      (congrArg ViewControl.state (Pair.get_set (s.decide ch).1.view ch _)).trans fell
  refine filled.trans (State.beginLines_mapMoved (congrArg ViewControl.record (Pair.get_set _ ch _))) fun fell => ?_
  have view : (s.decideFrame ch).view = ((s.decide ch).1.fillRecord ch (s.decide ch).2).view := State.beginLines_view _ ch
  rw [view]
  exact fell

/-- R62: a view in FALLBACK that may not go LIVE stays in it. -/
theorem State.decideFrame_stays_fallback (hv : (s.view.get ch).state = .fallback) (hm : s.mayGoLive ch = false) :
    ((s.decideFrame ch).view.get ch).state = .fallback := by
  obtain ⟨-, -, -, r, view, -⟩ := s.decideFrame_leaves ch (State.decide_shows_none (.inr hv) hm)
  rw [view]
  exact hv

/-- R60: the record that is filled. -/
theorem State.fillRecord_record (s : State) (ch : Channel) (fresh : Bool) : ∃ r : FrameRecord,
    ((s.fillRecord ch fresh).view.get ch).record = some r ∧ r.seq = (s.link.get ch).frameSeq ∧ r.start = s.counter ∧
      r.night = (s.glare.get ch).night ∧ (r.buffer = none → r.fresh = false ∧ r.mesh = none) ∧
      (r.buffer ≠ none → r.mesh ≠ none) := by
  refine ⟨_, congrArg ViewControl.record (Pair.get_set _ ch _), rfl, rfl, rfl, fun hidden => ?_, fun shown => ?_⟩
  · dsimp only at hidden ⊢
    rw [hidden]
    exact ⟨Bool.and_false fresh, rfl⟩
  · dsimp only at shown ⊢
    rw [if_pos (Option.isSome_iff_ne_none.mpr shown)]
    exact nofun

/-- R60, R62: the decision of a frame, with GENLOCK_LOST left aside. -/
theorem State.decideFrame_decided (s : State) (ch : Channel) : ∃ r, State.Decided ch s (s.decideFrame ch) r := by
  have decided : State.EvalFrame ch s (s.decide ch).1 := s.decide_evalFrame ch
  obtain ⟨u, hu⟩ : ∃ u, u = (s.decide ch).1.fillRecord ch (s.decide ch).2 := ⟨_, rfl⟩
  have begun : s.decideFrame ch = u.beginLines ch := by rw [hu]; rfl
  have filled : State.EvalFrame ch s u := by
    rw [hu]
    exact decided.trans (State.setView_evalFrame _ ch _)
  obtain ⟨r, record, seq, start, night, blank, shows⟩ : ∃ r : FrameRecord, (u.view.get ch).record = some r ∧
      r.seq = ((s.decide ch).1.link.get ch).frameSeq ∧ r.start = (s.decide ch).1.counter ∧
      r.night = ((s.decide ch).1.glare.get ch).night ∧ (r.buffer = none → r.fresh = false ∧ r.mesh = none) ∧
      (r.buffer ≠ none → r.mesh ≠ none) := hu ▸ State.fillRecord_record _ ch _
  have lines := State.beginLines_eq record
  refine ⟨r, ⟨u.itemsInUse ch r, ?_, ?_⟩, ?_, ?_, ?_, ?_, blank, fun shown => ⟨shows shown, ?_⟩, s.decideFrame_mapMoved ch⟩
  · have framed : State.EvalFrame ch (s.withFrame ch (u.itemsInUse ch r)) (u.withFrame ch (u.itemsInUse ch r)) := by
      rw [State.withFrame, State.withFrame, filled.link]
      exact filled.setLink _
    rw [begun, lines]
    split
    · exact framed.trans (State.setGlare_evalFrame _ ch _)
    · exact framed
  · exact (u.itemsInUse_held ch r).congr filled.tables.symm rfl (.inl rfl)
  · rw [begun, State.beginLines_view, record]
  · rw [seq, decided.link]
  · rw [start, decided.counter]
  · rw [night, (s.decide_mapMoved ch).night]
  · rw [begun, lines, if_pos (Option.isSome_iff_ne_none.mpr shown), State.setGlare_glare, Pair.get_set]

end

end Sys2Proof.Machine
end

section
/-! The decision of a frame and the evaluation of GENLOCK_LOST (R60, R62, R63, R169), in either order. -/

namespace Sys2Proof.Machine

section

variable {s t : State} {ch : Channel} {r : FrameRecord}

/-- R63, R65, R182: an evaluation leaves the glare unit, or an entry that withholds the view has taken it to FALLBACK. -/
theorem State.evaluate_glare (s : State) (ch : Channel) (k : FaultKind) (o : Option Nat) :
    (s.evaluate ch k o).glare = s.glare ∨ ((s.evaluate ch k o).glare.get ch = (s.glare.get ch).mapReset ∧
      ((s.evaluate ch k o).view.get ch).state = .fallback ∧ (s.evaluate ch k o).withheld ch = true) := by
  obtain ⟨w, heq, hview, -, hglare, -⟩ := s.evaluate_eq_tellView ch k o
  by_cases ha : beginsToDrive (s.entry ch k) (s.judged ch k o) = some .fallback
  · by_cases hv : (w.view.get ch).state = .fallback
    · rw [heq, ha]
      exact .inl ((congrArg State.glare (if_pos hv)).trans hglare)
    · have withheld : (s.evaluate ch k o).withheld ch = true := by
        by_contra free
        have stands := (State.withheld_eq_false_iff _ ch).mp (Bool.eq_false_of_not_eq_true free) k
        obtain ⟨driving, action, -⟩ := (beginsToDrive_eq_some _ _ _).mp ha
        rw [State.evaluate_entry, FaultEntry.withholds, (FaultEntry.drives_iff _).mpr driving, action] at stands
        cases stands
      have entered : s.evaluate ch k o = w.enterFallback ch := by rw [heq, ha, State.tellView_fallback hv]
      refine .inr ⟨?_, ?_, withheld⟩
      · rw [entered, State.enterFallback_glare, Pair.get_set, hglare]
      · rw [entered, State.enterFallback_state]
  · rcases State.tellView_eq_of_ne_fallback (w := w) (ch := ch) ha with hw | ⟨-, hw⟩
    · rw [heq, hw]
      exact .inl hglare
    · rw [heq, hw]
      exact .inl hglare

theorem State.evaluate_mapMoved (s : State) (ch : Channel) (k : FaultKind) (o : Option Nat) :
    State.MapMoved ch s (s.evaluate ch k o) := by
  rcases s.evaluate_glare ch k o with stands | ⟨reset, fell, -⟩
  · exact .of_eq (by rw [stands])
  · exact .of_mapReset reset fell

/-- R62, R63: a frame decided after an evaluation is decided on the state before it: a view that the evaluation took to
FALLBACK is withheld, so it stays there. -/
theorem State.Decided.after_evaluate {k : FaultKind} {o : Option Nat}
    (h : State.Decided ch (s.evaluate ch k o) ((s.evaluate ch k o).decideFrame ch) r) :
    State.Decided ch s ((s.evaluate ch k o).decideFrame ch) r := by
  have judged : State.EvalFrame ch s (s.evaluate ch k o) := s.evaluate_evalFrame ch k o
  obtain ⟨items, frame, held⟩ := h.frame
  refine ⟨⟨items, ?_, held.congr judged.tables.symm rfl (.inl rfl)⟩, h.record, ?_, ?_, ?_, h.blank, h.shows, ?_⟩
  · refine State.EvalFrame.trans ?_ frame
    rw [State.withFrame, State.withFrame, judged.link]
    exact judged.setLink _
  · rw [h.seq, judged.link]
  · rw [h.start, judged.counter]
  · rw [h.night, (s.evaluate_mapMoved ch k o).night]
  · rcases s.evaluate_glare ch k o with stands | ⟨-, fell, withheld⟩
    · exact h.map.congr_left (by rw [stands])
    · have dark : (s.evaluate ch k o).mayGoLive ch = false := by
        rw [State.mayGoLive, withheld, Bool.not_true, Bool.and_false, Bool.false_and]
      exact (s.evaluate_mapMoved ch k o).trans h.map fun _ => State.decideFrame_stays_fallback fell dark

/-- R65, R128: an evaluation after the decision leaves the record, or amends it to show no buffer. -/
theorem State.Decided.evaluate (h : State.Decided ch s t r) (k : FaultKind) (o : Option Nat) :
    ∃ r', State.Decided ch s (t.evaluate ch k o) r' := by
  obtain ⟨items, frame, held⟩ := h.frame
  have judged : State.EvalFrame ch (s.withFrame ch items) (t.evaluate ch k o) :=
    frame.trans (t.evaluate_evalFrame ch k o)
  have map : State.MapMoved ch s (t.evaluate ch k o) :=
    h.map.trans (t.evaluate_mapMoved ch k o) (t.evaluate_tilesMoved ch k o).fallback
  obtain ⟨w, hview, hglare, moved⟩ := t.evaluate_cases ch k o
  have record := h.record
  have shows := h.shows
  rw [← hview] at record
  rw [← hglare] at shows
  rcases moved with heq | heq | heq <;> rw [heq] at judged map ⊢
  · exact ⟨r, ⟨items, judged, held⟩, record, h.seq, h.start, h.night, h.blank, shows, map⟩
  · refine ⟨r, ⟨items, judged, held⟩, ?_, h.seq, h.start, h.night, h.blank, shows, map⟩
    rw [State.setViewState_view]
    exact record
  · obtain ⟨-, -, -, -, -, -, amends⟩ := State.enterFallback_fellBack (s := w) (w := w) (ch := ch) rfl rfl rfl
    obtain ⟨c, amended⟩ := amends r record
    exact ⟨{ r with view := .fallback, buffer := none, fresh := false, mesh := none, conditions := c },
      ⟨items, judged, held.congr rfl rfl (.inr rfl)⟩, amended, h.seq, h.start, h.night, fun _ => ⟨rfl, rfl⟩,
      fun shown => absurd rfl shown, map⟩

/-- R169: GENLOCK_LOST is evaluated, or nothing is. -/
theorem State.evaluateGenlock_cases (s : State) (ch : Channel) :
    s.evaluateGenlock ch = s ∨ ∃ o, s.evaluateGenlock ch = s.evaluate ch .genlockLost o := by
  rw [State.evaluateGenlock]
  split
  · exact .inl rfl
  · exact .inr ⟨_, rfl⟩

/-- R60, R62, R169: the decision of a frame and the evaluation of GENLOCK_LOST, whichever comes first. -/
theorem State.decideAndEvaluate_decided (s : State) (ch : Channel) :
    ∃ (d : Nat) (r : FrameRecord), State.Decided ch { s with draws := d } (s.decideAndEvaluate ch) r := by
  unfold State.decideAndEvaluate
  extract_lets first drawn
  split
  · exact ⟨s.draws, s.decideFrame_decided ch⟩
  · refine ⟨s.draws + 1, ?_⟩
    split
    · rcases drawn.evaluateGenlock_cases ch with stays | ⟨o, judged⟩
      · rw [stays]
        exact drawn.decideFrame_decided ch
      · rw [judged]
        obtain ⟨r, decided⟩ := (drawn.evaluate ch .genlockLost o).decideFrame_decided ch
        exact ⟨r, decided.after_evaluate⟩
    · obtain ⟨r, decided⟩ := drawn.decideFrame_decided ch
      rcases (drawn.decideFrame ch).evaluateGenlock_cases ch with stays | ⟨o, judged⟩
      · rw [stays]
        exact ⟨r, decided⟩
      · rw [judged]
        exact decided.evaluate .genlockLost o

end

end Sys2Proof.Machine
end

section
/-! The period of a display frame (R159, R160, R163, R166). -/

namespace Sys2Proof.Machine

/-- R160: a period is within the bounds in force. -/
def ChannelParams.PeriodWithin (p : ChannelParams) (n : Nat) : Prop :=
  p.periodNom - min p.span (p.periodNom / 16) ≤ n ∧ n ≤ p.periodNom + min p.span (p.periodNom / 16)

section

variable (p : ChannelParams)

theorem ChannelParams.clampPeriod_within (period : Int) : p.PeriodWithin (p.clampPeriod period) := by
  have span : p.spanInUse ≤ p.periodNom := by rw [ChannelParams.spanInUse]; omega
  have same : min p.span (p.periodNom / 16) = p.spanInUse := rfl
  rw [ChannelParams.PeriodWithin, same, ChannelParams.clampPeriod, ChannelParams.periodBounds, clampInt]
  omega

theorem ChannelParams.periodNom_within : p.PeriodWithin p.periodNom := ⟨Nat.sub_le _ _, Nat.le_add_right _ _⟩

/-- R164: the lock rules leave the period. -/
theorem Tracker.lockRules_period (t : Tracker) (e : Int) : (t.lockRules p e).period = t.period := by
  unfold Tracker.lockRules
  split
  · split
    · split <;> rfl
    · rfl
  · split
    · split <;> rfl
    · rfl
  · rfl
  · rfl

/-- R163: a reference start leaves the tracker a period within the bounds. -/
theorem Tracker.referenceStart_period_within (t : Tracker) (v : Time) :
    p.PeriodWithin (t.referenceStart p v).period := by
  unfold Tracker.referenceStart
  split
  · rw [Tracker.measure, Tracker.lockRules_period]
    exact p.clampPeriod_within _
  · exact p.clampPeriod_within _

variable (g : LinkTiming) (v : Time)

theorem LinkTiming.displayStart_start : (g.displayStart p v).start = some v := by
  simp only [LinkTiming.displayStart]
  split
  · rfl
  · split <;> rfl

theorem LinkTiming.displayStart_period_within : p.PeriodWithin (g.displayStart p v).period := by
  simp only [LinkTiming.displayStart]
  split
  · rw [LinkTiming.referenceStart, LinkTiming.revert_tracker]
    exact Tracker.referenceStart_period_within p _ v
  · split
    · exact p.periodNom_within
    · exact p.clampPeriod_within _

/-- R159: with source INTERNAL no display frame start is one event with a reference start. -/
theorem LinkTiming.displayStart_period_internal (h : g.source = .internal) :
    (g.displayStart p v).period = p.periodNom := by
  have apart : g.oneEvent v = false := by rw [LinkTiming.oneEvent, h]; rfl
  simp only [LinkTiming.displayStart, apart, h, Bool.false_eq_true, if_false]

end

end Sys2Proof.Machine
end

section
/-! The display-side boundary (R19, R76, R106, R205): the tables and the values that wait take effect. -/

namespace Sys2Proof.Machine

/-- R76, R106: a glare unit when the values of a channel go from `before` to `after`. -/
def Glare.valuesTaken (g : Glare) (before after : ChannelParams) : Glare :=
  let sized := if before.dispWidth = after.dispWidth ∧ before.dispHeight = after.dispHeight then g else g.mapReset
  if before.gainFloor = after.gainFloor then sized else sized.raiseFloor after.gainFloor

section

variable (g : Glare) {before after : ChannelParams}

theorem Glare.valuesTaken_night : (g.valuesTaken before after).night = g.night := by
  rw [Glare.valuesTaken]
  split <;> split <;> rfl

theorem Glare.raiseFloor_tiles (floor : Nat) : (g.raiseFloor floor).tiles = g.tiles.map fun x => x.raised floor := rfl

/-- R76, R106: a size change resets the map, and no floor lifts a reset tile. -/
theorem Glare.valuesTaken_resized (hf : after.gainFloor ≤ 256)
    (h : after.dispWidth ≠ before.dispWidth ∨ after.dispHeight ≠ before.dispHeight) :
    (∀ x ∈ (g.valuesTaken before after).tiles, x = Tile.reset) ∧ ∀ n ∈ (g.valuesTaken before after).last, n = 0 := by
  have resized : ¬(before.dispWidth = after.dispWidth ∧ before.dispHeight = after.dispHeight) :=
    fun same => h.elim (· same.1.symm) (· same.2.symm)
  rw [Glare.valuesTaken, if_neg resized]
  split
  · exact ⟨fun x hx => List.eq_of_mem_replicate hx, fun n hn => List.eq_of_mem_replicate hn⟩
  · refine ⟨fun x hx => ?_, fun n hn => List.eq_of_mem_replicate hn⟩
    obtain ⟨y, hy, rfl⟩ := List.mem_map.mp (Glare.raiseFloor_tiles _ _ ▸ hx)
    rw [List.eq_of_mem_replicate hy]
    exact Tile.reset_raised hf

/-- R106: a new floor lifts every gain and target. -/
theorem Glare.valuesTaken_floor (h : after.gainFloor ≠ before.gainFloor) :
    ∀ x ∈ (g.valuesTaken before after).tiles, after.gainFloor ≤ x.gain ∧ after.gainFloor ≤ x.target := by
  intro x hx
  rw [Glare.valuesTaken, if_neg (Ne.symm h)] at hx
  obtain ⟨y, -, rfl⟩ := List.mem_map.mp (Glare.raiseFloor_tiles _ _ ▸ hx)
  exact ⟨le_max_right _ _, le_max_right _ _⟩

/-- R76, R106: where the size stands, the tiles stand but for a new floor. -/
theorem Glare.valuesTaken_tiles (hw : after.dispWidth = before.dispWidth) (hh : after.dispHeight = before.dispHeight) :
    (g.valuesTaken before after).tiles =
      if after.gainFloor = before.gainFloor then g.tiles else g.tiles.map fun x => x.raised after.gainFloor := by
  have sized : before.dispWidth = after.dispWidth ∧ before.dispHeight = after.dispHeight := ⟨hw.symm, hh.symm⟩
  rw [Glare.valuesTaken, if_pos sized]
  by_cases same : after.gainFloor = before.gainFloor
  · rw [if_pos same, if_pos same.symm]
  · rw [if_neg same, if_neg (Ne.symm same)]
    rfl

end

/-! ## The boundary -/

section

variable (s : State) (ch : Channel)

theorem State.displaySwaps_params : (s.displaySwaps ch).params = s.params := by
  simp only [State.displaySwaps, State.swapIfWaiting_params]

theorem State.displaySwaps_pendingParams : (s.displaySwaps ch).pendingParams = s.pendingParams := by
  simp only [State.displaySwaps, State.swapIfWaiting_pendingParams]

theorem State.displaySwaps_partParams : (s.displaySwaps ch).partParams = s.partParams := by
  simp only [State.displaySwaps, State.swapIfWaiting_partParams]

/-- R205: the values taken after the swaps are those that waited before them. -/
theorem State.displaySwaps_applyPending_params :
    ((s.displaySwaps ch).applyPending ch .display).params = (s.applyPending ch .display).params := by
  simp only [State.applyPending, State.setPending_params, State.setParams_params, s.displaySwaps_params ch,
    s.displaySwaps_pendingParams ch]

theorem State.displaySwaps_applyPending_pendingParams :
    ((s.displaySwaps ch).applyPending ch .display).pendingParams = (s.applyPending ch .display).pendingParams := by
  simp only [State.applyPending, State.setPending_pendingParams, State.setParams_pendingParams,
    s.displaySwaps_pendingParams ch]

/-- A boundary is the swaps and the values, but for the glare unit. -/
theorem State.displayBoundary_frame :
    ∃ g, s.displayBoundary ch = { (s.displaySwaps ch).applyPending ch .display with glare := g } := by
  obtain ⟨g, hg⟩ := (s.displaySwaps ch).displayValues_frame ch
  rw [State.displayBoundary_eq, hg]
  split
  · exact ⟨_, rfl⟩
  · exact ⟨_, rfl⟩

theorem State.displayBoundary_tables : (s.displayBoundary ch).tables = (s.displaySwaps ch).tables := by
  obtain ⟨g, hg⟩ := s.displayBoundary_frame ch
  rw [hg]
  rfl

theorem State.displayBoundary_params : (s.displayBoundary ch).params = (s.applyPending ch .display).params := by
  obtain ⟨g, hg⟩ := s.displayBoundary_frame ch
  rw [hg]
  exact s.displaySwaps_applyPending_params ch

theorem State.displayBoundary_pendingParams :
    (s.displayBoundary ch).pendingParams = (s.applyPending ch .display).pendingParams := by
  obtain ⟨g, hg⟩ := s.displayBoundary_frame ch
  rw [hg]
  exact s.displaySwaps_applyPending_pendingParams ch

theorem State.displayBoundary_partParams : (s.displayBoundary ch).partParams = s.partParams := by
  obtain ⟨g, hg⟩ := s.displayBoundary_frame ch
  rw [hg]
  exact s.displaySwaps_partParams ch

theorem State.displayBoundary_valuesTaken (hs : s.ParamsSound) : s.ValuesTaken (s.displayBoundary ch) ch .display :=
  (State.applyPending_valuesTaken hs ch (cls := .display) nofun).congr (s.displayBoundary_params ch)
    (s.displayBoundary_pendingParams ch) (s.displayBoundary_partParams ch)

theorem State.displayBoundary_pending : (s.displayBoundary ch).pendingParams.get ch =
    (s.pendingParams.get ch).filter fun pv => pv.1.cls != .display := by
  rw [State.displayBoundary_pendingParams]
  exact Pair.get_set _ ch _

variable {s ch} in
theorem State.TablesTaken.congr {t u : State} {xs : List TableId} (h : s.TablesTaken t xs) (ht : u.tables = t.tables) :
    s.TablesTaken u xs := by
  have table (x : TableId) : u.table x = t.table x := congrArg (TableStore.get · x) ht
  exact fun x => ⟨fun load supplied hx hw => (table x).trans ((h x).1 load supplied hx hw),
    fun hx => (table x).trans ((h x).2 hx)⟩

/-- R19: at a display-side boundary the four display-side tables swap. -/
theorem State.displayBoundary_tablesTaken : s.TablesTaken (s.displayBoundary ch) (displayTables ch) := by
  have mesh := s.swapIfWaiting_tablesTaken (.warpMesh ch)
  have curves := mesh.trans (State.swapIfWaiting_tablesTaken _ (.toneCurves ch)) (by simp)
  have response := curves.trans (State.swapIfWaiting_tablesTaken _ (.glareResponse ch)) (by simp)
  have overlay := response.trans (State.swapIfWaiting_tablesTaken _ (.overlaySet ch)) (by simp)
  exact overlay.congr (s.displayBoundary_tables ch)

/-- R76, R106: what the boundary does to the glare unit after the swaps. -/
theorem State.displayBoundary_glare : (s.displayBoundary ch).glare.get ch =
    ((s.displaySwaps ch).glare.get ch).valuesTaken (s.params.get ch) ((s.displayBoundary ch).params.get ch) := by
  rw [State.displayBoundary_params, ← State.displaySwaps_applyPending_params, ← s.displaySwaps_params ch,
    State.displayBoundary_eq, Glare.valuesTaken, State.displayValues]
  have reset : (((s.displaySwaps ch).applyPending ch .display).mapReset ch).glare.get ch =
      ((s.displaySwaps ch).glare.get ch).mapReset := Pair.get_set _ ch _
  split
  · split
    · rfl
    · exact reset
  · rw [State.setGlare_glare, Pair.get_set]
    split
    · rfl
    · rw [reset]

/-! ## The glare unit under the swaps -/

/-- R100: the swaps leave the night flag. -/
theorem State.displaySwaps_night : ((s.displaySwaps ch).glare.get ch).night = (s.glare.get ch).night := by
  have swapped (u : State) (t : TableId) : ((u.swapIfWaiting t).glare.get ch).night = (u.glare.get ch).night :=
    State.swapIfWaiting_keeps (f := fun u => (u.glare.get ch).night) (fun _ _ => rfl)
      (fun u d => (u.evaluate_detector d _ _ ch).1) u t
  simp only [State.displaySwaps, swapped]

/-- R20: of the tables given none is CORRUPT. -/
def State.NoneCorrupt (s : State) (xs : List TableId) : Prop := ∀ x ∈ xs, (s.table x).active.state ≠ .corrupt

variable {s ch}

/-- R20: a swap over a bank that is not CORRUPT evaluates nothing, and leaves no CORRUPT bank. -/
theorem State.NoneCorrupt.swapIfWaiting {xs : List TableId} (h : s.NoneCorrupt xs) {t : TableId} (ht : t ∈ xs) :
    (s.swapIfWaiting t).glare = s.glare ∧ (s.swapIfWaiting t).NoneCorrupt xs := by
  refine ⟨?_, fun x hx => ?_⟩
  · rw [State.swapIfWaiting]
    split
    · rw [State.swapIn_eq, if_neg (h t ht)]
      rfl
    · rfl
  · by_cases hxt : x = t
    · subst hxt
      cases hw : (s.table x).staged with
      | swapWait load supplied =>
        rw [State.swapIfWaiting_table hw]
        exact nofun
      | _ =>
        rw [State.swapIfWaiting_eq_self fun _ _ => by rw [hw]; exact nofun]
        exact h x hx
    · rw [State.swapIfWaiting_table_other s hxt]
      exact h x hx

theorem State.NoneCorrupt.displaySwaps (h : s.NoneCorrupt (displayTables ch)) :
    (s.displaySwaps ch).glare = s.glare := by
  obtain ⟨mesh, h⟩ := h.swapIfWaiting (t := .warpMesh ch) (by simp [displayTables])
  obtain ⟨curves, h⟩ := h.swapIfWaiting (t := .toneCurves ch) (by simp [displayTables])
  obtain ⟨response, h⟩ := h.swapIfWaiting (t := .glareResponse ch) (by simp [displayTables])
  obtain ⟨overlay, -⟩ := h.swapIfWaiting (t := .overlaySet ch) (by simp [displayTables])
  exact overlay.trans (response.trans (curves.trans mesh))

end

end Sys2Proof.Machine
end

section
/-! The display frame start (R60, R138, R159): the frame is opened, timed and decided. -/

namespace Sys2Proof.Machine

/-! ## The tile map of the frame (R76, R106) -/

section

variable {s t : State} {ch : Channel} (h : State.MapMoved ch s t) {g : Glare} {before after : ChannelParams}
  (hg : s.glare.get ch = g.valuesTaken before after)
include h hg

theorem State.MapMoved.resized (hf : after.gainFloor ≤ 256)
    (hsize : after.dispWidth ≠ before.dispWidth ∨ after.dispHeight ≠ before.dispHeight) :
    (∀ x ∈ (t.glare.get ch).tiles, x = Tile.reset) ∧ ∀ n ∈ (t.glare.get ch).last, n = 0 := by
  rcases h.map with ⟨tiles, last⟩ | ⟨tiles, last, -⟩ <;> rw [tiles, last]
  · rw [hg]
    exact g.valuesTaken_resized hf hsize
  · exact ⟨fun x hx => List.eq_of_mem_replicate hx, fun n hn => List.eq_of_mem_replicate hn⟩

theorem State.MapMoved.floored (hf : after.gainFloor ≤ 256) (hfloor : after.gainFloor ≠ before.gainFloor) :
    ∀ x ∈ (t.glare.get ch).tiles, after.gainFloor ≤ x.gain ∧ after.gainFloor ≤ x.target := by
  rcases h.map with ⟨tiles, -⟩ | ⟨tiles, -, -⟩ <;> rw [tiles]
  · rw [hg]
    exact g.valuesTaken_floor hfloor
  · intro x hx
    rw [List.eq_of_mem_replicate hx]
    exact ⟨hf, hf⟩

theorem State.MapMoved.sized (hv : (t.view.get ch).state ≠ .fallback) (hw : after.dispWidth = before.dispWidth)
    (hh : after.dispHeight = before.dispHeight) : (t.glare.get ch).tiles =
      if after.gainFloor = before.gainFloor then g.tiles else g.tiles.map fun x => x.raised after.gainFloor := by
  rcases h.map with ⟨tiles, -⟩ | ⟨-, -, fell⟩
  · rw [tiles, hg]
    exact g.valuesTaken_tiles hw hh
  · exact absurd fell hv

end

/-! ## The frame that is opened (R19, R138) -/

section

variable (s : State) (ch : Channel)

/-- R138: a frame before its display-side boundary, with its sequence number. -/
def State.numberFrame (s : State) (ch : Channel) : State := (s.endLine ch).giveSequence ch

theorem State.openFrame_swapFrame : State.SwapFrame ch (s.numberFrame ch) (s.openFrame ch) :=
  (s.numberFrame ch).displayBoundary_swapFrame ch

theorem State.openFrame_link : (s.openFrame ch).link = s.link.set ch { s.link.get ch with
    frameSeq := (s.link.get ch).nextSeq, nextSeq := (s.link.get ch).nextSeq + 1
    frame := { (s.link.get ch).frame with lineInProgress := none } } := by
  have ended : (s.endLine ch).link.get ch =
      { s.link.get ch with frame := { (s.link.get ch).frame with lineInProgress := none } } := Pair.get_set _ ch _
  have numbered : (s.numberFrame ch).link =
      (s.endLine ch).link.set ch { (s.endLine ch).link.get ch with
        frameSeq := ((s.endLine ch).link.get ch).nextSeq, nextSeq := ((s.endLine ch).link.get ch).nextSeq + 1 } := rfl
  rw [(s.openFrame_swapFrame ch).link, numbered, ended]
  exact Pair.set_set _ _ _ _

/-- R76, R106: the glare unit of the frame that is opened. -/
theorem State.openFrame_glare : (s.openFrame ch).glare.get ch =
    (((s.numberFrame ch).displaySwaps ch).glare.get ch).valuesTaken (s.params.get ch)
      ((s.openFrame ch).params.get ch) :=
  (s.numberFrame ch).displayBoundary_glare ch

theorem State.openFrame_night : ((s.openFrame ch).glare.get ch).night = (s.glare.get ch).night := by
  rw [State.openFrame_glare, Glare.valuesTaken_night]
  exact (s.numberFrame ch).displaySwaps_night ch

/-- R204: the floor in force in the frame that is opened. -/
theorem State.openFrame_gainFloor_le (hs : s.ParamsSound) : ((s.openFrame ch).params.get ch).gainFloor ≤ 256 := by
  have numbered : (s.numberFrame ch).FloorsBounded := hs.floorsBounded.congr rfl rfl
  exact (numbered.displayBoundary ch ch).1

theorem State.openFrame_other {c : Channel} (hc : c ≠ ch) :
    (s.openFrame ch).entries.get c = s.entries.get c ∧ (s.openFrame ch).view.get c = s.view.get c ∧
      (s.openFrame ch).store.get c = s.store.get c ∧ (s.openFrame ch).glare.get c = s.glare.get c ∧
      (s.openFrame ch).params.get c = s.params.get c := by
  obtain ⟨entries, view, store, glare, params, -⟩ := (s.openFrame_swapFrame ch).other c hc
  exact ⟨entries, view, store.trans (Pair.get_set_other _ _ hc), glare, params⟩

/-- R159: the frame with its start time and its period. -/
def State.timeFrame (s : State) (ch : Channel) : State :=
  (s.openFrame ch).setTiming ch
    (((s.openFrame ch).timing.get ch).displayStart ((s.openFrame ch).params.get ch) (s.openFrame ch).counter)

theorem State.timeFrame_timing : (s.timeFrame ch).timing =
    s.timing.set ch ((s.timing.get ch).displayStart ((s.openFrame ch).params.get ch) s.counter) := by
  rw [State.timeFrame, State.setTiming_timing, State.openFrame_timing, (s.openFrame_swapFrame ch).counter]
  rfl

theorem exec_displayFrameStart_due (hh : s.held = false) (hd : s.startDue ch = true) :
    exec (.displayFrameStart ch) s = .next (s.startFrame ch) := by
  rw [exec_displayFrameStart, execDisplayFrameStart, whenRunning_eq hh, if_pos hd]

end

/-- R60, R138, R159: from `s` to `t` a display frame has started, with the record `r` and the given items. -/
structure State.FrameStarted (ch : Channel) (s t : State) (r : FrameRecord) (items : FrameItems) : Prop where
  tables : t.tables = (s.openFrame ch).tables
  params : t.params = (s.openFrame ch).params
  pendingParams : t.pendingParams = (s.openFrame ch).pendingParams
  partParams : t.partParams = (s.openFrame ch).partParams
  map : State.MapMoved ch (s.openFrame ch) t
  timing : t.timing = s.timing.set ch ((s.timing.get ch).displayStart (t.params.get ch) s.counter)
  link : t.link = s.link.set ch { s.link.get ch with
    frameSeq := (s.link.get ch).nextSeq, nextSeq := (s.link.get ch).nextSeq + 1, frame := .begun items }
  coverage : t.coverage = s.coverage
  counter : t.counter = s.counter
  agent : t.agent = s.agent
  receiver : t.receiver = s.receiver
  other : ∀ c, c ≠ ch → t.entries.get c = s.entries.get c ∧ t.view.get c = s.view.get c ∧
    t.store.get c = s.store.get c ∧ t.glare.get c = s.glare.get c ∧ t.params.get c = s.params.get c
  held : t.ItemsHeld ch r items
  record : (t.view.get ch).record = some r
  seq : r.seq = (s.link.get ch).nextSeq
  start : r.start = s.counter
  night : r.night = (s.glare.get ch).night
  blank : r.buffer = none → r.fresh = false ∧ r.mesh = none
  shows : r.buffer ≠ none → r.mesh ≠ none ∧ (t.glare.get ch).hot = List.replicate 80 0

/-- R62: a display frame start opens the frame, times it and decides it. -/
theorem State.startFrame_started (s : State) (ch : Channel) :
    ∃ (r : FrameRecord) (items : FrameItems), State.FrameStarted ch s (s.startFrame ch) r items := by
  obtain ⟨d, r, decided⟩ := (s.timeFrame ch).decideAndEvaluate_decided ch
  obtain ⟨items, frame, held⟩ := decided.frame
  have swapped := s.openFrame_swapFrame ch
  have opened := s.openFrame_link ch
  have params : (s.startFrame ch).params = (s.openFrame ch).params := frame.params
  refine ⟨r, items, frame.tables, params, frame.pendingParams, frame.partParams,
    ⟨decided.map.night, decided.map.map⟩, ?_, ?_, frame.coverage.trans swapped.coverage,
    frame.counter.trans swapped.counter, frame.agent.trans swapped.agent, frame.receiver.trans swapped.receiver,
    fun c hc => ?_, held.congr frame.tables rfl (.inl rfl), decided.record, ?_,
    decided.start.trans swapped.counter, decided.night.trans (s.openFrame_night ch), decided.blank, decided.shows⟩
  · rw [params]
    exact frame.timing.trans (s.timeFrame_timing ch)
  · have lines : (s.startFrame ch).link = (s.openFrame ch).link.set ch
        { (s.openFrame ch).link.get ch with frame := .begun items } := frame.link
    rw [lines, opened, Pair.get_set, Pair.set_set]
  · obtain ⟨entries, view, store, glare⟩ := frame.other c hc
    obtain ⟨entries', view', store', glare', params'⟩ := s.openFrame_other ch hc
    exact ⟨entries.trans entries', view.trans view', store.trans store', glare.trans glare',
      (congrArg (Pair.get · c) params).trans params'⟩
  · have numbered : r.seq = ((s.openFrame ch).link.get ch).frameSeq := decided.seq
    rw [numbered, opened, Pair.get_set]

/-- Settles O39: what the boundary, the timing and the decision leave, read off the frame that has started. -/
theorem displayFrameStartOpensFrame : Obligations.DisplayFrameStartOpensFrame := by
  intro s ch hh hd
  obtain ⟨r, items, started⟩ := s.startFrame_started ch
  refine ⟨s.startFrame ch, r, exec_displayFrameStart_due s ch hh hd, ?_⟩
  have due : (s.numberFrame ch).TablesTaken (s.openFrame ch) (displayTables ch) :=
    (s.numberFrame ch).displayBoundary_tablesTaken ch
  have values (hs : s.ParamsSound) : s.ValuesTaken (s.openFrame ch) ch .display :=
    (s.numberFrame ch).displayBoundary_valuesTaken ch hs
  have pending : (s.openFrame ch).pendingParams.get ch =
      (s.pendingParams.get ch).filter fun pv => pv.1.cls != .display := (s.numberFrame ch).displayBoundary_pending ch
  have glare := s.openFrame_glare ch
  have floor := s.openFrame_gainFloor_le ch
  have within := LinkTiming.displayStart_period_within ((s.openFrame ch).params.get ch) (s.timing.get ch) s.counter
  rw [started.link, started.timing, started.params, started.pendingParams, Pair.get_set, Pair.get_set]
  refine ⟨rfl, rfl, LinkTiming.displayStart_start _ _ _, within.1, within.2,
    LinkTiming.displayStart_period_internal _ _ _, State.TablesTaken.congr (s := s) due started.tables,
    fun hs => (values hs).congr started.params started.pendingParams started.partParams,
    fun hs => started.map.resized glare (floor hs), fun hs => started.map.floored glare (floor hs),
    fun hw hh hv sound => ?_, started.record, started.seq, started.start, started.night, started.blank, started.held,
    started.shows, rfl, rfl, rfl, rfl, rfl, rfl, pending, fun c hc => ?_, started.coverage, started.counter,
    started.agent, started.receiver⟩
  · have swaps : ((s.numberFrame ch).displaySwaps ch).glare = s.glare :=
      State.NoneCorrupt.displaySwaps (s := s.numberFrame ch) sound
    rw [swaps] at glare
    exact started.map.sized glare hv hw hh
  · obtain ⟨entries, view, store, glare, params⟩ := started.other c hc
    rw [started.params] at params
    exact ⟨congrArg (Pair.get · c) started.receiver, store, view, glare, Pair.get_set_other _ _ hc, entries, params,
      Pair.get_set_other _ _ hc⟩

end Sys2Proof.Machine
end

section
/-! The timing units (R159, R161) under the effects of the part, and the step lemma of R167. -/

namespace Sys2Proof.Machine

/-! ## Effects that leave the timing units -/

section

variable (s : State) (ch : Channel)

theorem State.takeFrameStart_timing : (s.takeFrameStart ch).timing = s.timing := by
  rw [State.takeFrameStart]
  split
  · exact (s.malformed_boundaryMet ch 6 .idle).timing
  · rfl

theorem State.takeEmbedded_timing (f : Option (BitVec 16 × Byte)) : (s.takeEmbedded ch f).timing = s.timing := by
  unfold State.takeEmbedded
  split
  case h_1 => rfl
  case h_5 | h_6 => rfl
  all_goals exact (s.malformed_boundaryMet ch _ _).timing

theorem State.takeLine_timing (f : Option (Nat × List Nat)) : (s.takeLine ch f).timing = s.timing := by
  unfold State.takeLine
  split
  case h_4 =>
    split
    · exact (s.malformed_boundaryMet ch _ _).timing
    · rfl
  case h_5 | h_6 => rfl
  all_goals exact (s.malformed_boundaryMet ch _ _).timing

/-- R162: a FRAME-END reaches the timing units by its time alone, or not at all. -/
theorem State.takeFrameEnd_timing (f : Option Nat) :
    (s.takeFrameEnd ch f).timing = (s.frameEndTime ch).timing ∨ (s.takeFrameEnd ch f).timing = s.timing := by
  unfold State.takeFrameEnd
  split
  case h_4 =>
    split
    · exact .inl ((s.frameEndTime ch).goodFrame_boundaryMet ch _ _ _).timing
    · exact .inl ((s.frameEndTime ch).malformed_boundaryMet ch _ _).timing
  case h_5 => exact .inl rfl
  case h_6 => exact .inr rfl
  all_goals exact .inl ((s.frameEndTime ch).malformed_boundaryMet ch _ _).timing

theorem State.takeStatus_timing (lux : BitVec 16) (fault : Bool) : (s.takeStatus ch lux fault).timing = s.timing := by
  rw [State.takeStatus_eq]
  exact (State.evaluate_evalFrame _ ch _ _).timing

theorem State.takeSignature_timing (q : Seq) (v : Check) : (s.takeSignature ch q v).timing = s.timing := by
  rw [State.takeSignature]
  split
  · exact (s.evaluate_evalFrame ch _ _).timing
  · exact (State.evaluate_evalFrame _ ch _ _).timing

theorem State.acceptRequest_timing (r : Request) : (s.acceptRequest r).timing = s.timing := by
  rw [State.acceptRequest]
  split <;> rfl

theorem State.serve_timing : (s.serve ch).timing = s.timing := by
  rw [State.serve]
  split <;> rfl

theorem State.setTickSchedule_timing (x : PartParams) : (s.setTickSchedule x).timing = s.timing := by
  rw [State.setTickSchedule]
  split <;> rfl

theorem State.stageValue_timing (p : Param) (v : List Nat) : (s.stageValue ch p v).timing = s.timing := by
  rw [State.stageValue]
  split
  · unfold State.putPartWide
    split
    · exact s.setTickSchedule_timing _
    · exact s.setTickSchedule_timing _
    · rfl
    · rfl
  · exact (State.cameraBoundaryIfIdle_swapFrame _ ch).timing
  · rfl

theorem State.swapIfWaiting_timing (t : TableId) : (s.swapIfWaiting t).timing = s.timing :=
  State.swapIfWaiting_keeps (fun _ _ => rfl) (fun u c => (u.evaluate_evalFrame c _ _).timing) s t

theorem State.swapAtVerifyEnd_timing (t : TableId) : (s.swapAtVerifyEnd t).timing = s.timing := by
  cases t with
  | faultActions => exact s.swapIfWaiting_timing _
  | develop ch | defectList ch => exact (s.cameraBoundaryIfIdle_swapFrame ch).timing
  | warpMesh | toneCurves | glareResponse | overlaySet => rfl

theorem State.leaveQueue_timing (t : TableId) : (s.leaveQueue t).timing = s.timing := by
  rw [State.leaveQueue_eq]
  rfl

theorem State.endVerify_timing (t : TableId) (load : Load) (supplied : Check) (tag : Byte) :
    (s.endVerify t load supplied tag).timing = s.timing := by
  rw [State.endVerify_eq]
  split
  · exact (State.leaveQueue_timing _ t).trans (State.swapAtVerifyEnd_timing _ t)
  · exact State.leaveQueue_timing _ t

theorem State.evaluateEach_timing (k : FaultKind) (o : Channel → Option Nat) (chs : List Channel) :
    (s.evaluateEach k o chs).timing = s.timing :=
  s.evaluateEach_keeps k o chs fun u c x _ => (u.evaluate_evalFrame c k x).timing

theorem State.tellMeshLost_timing (t : TableId) : (s.tellMeshLost t).timing = s.timing := by
  cases t with
  | warpMesh ch => exact (s.onMeshLost_evalFrame ch).timing
  | develop | defectList | toneCurves | glareResponse | overlaySet | faultActions => rfl

theorem State.endScrub_timing (st : ScrubStep) : (s.endScrub st).timing = s.timing := by
  by_cases hm : st.finish (s.table st.table) = (s.table st.table).active.checksum
  · rw [State.endScrub_of_match hm]
    exact State.evaluateEach_timing _ _ _ _
  · rw [State.endScrub_of_mismatch hm, State.tellMeshLost_timing]
    exact State.evaluateEach_timing _ _ _ _

theorem State.startLine_timing : (s.startLine ch).timing = s.timing := by
  rw [State.startLine]
  split <;> rfl

theorem State.endFrame_timing : (s.endFrame ch).timing = s.timing := by
  cases hr : (s.view.get ch).record with
  | none => rw [State.endFrame, hr]
  | some r =>
    rw [s.endFrame_eq ch r hr]
    exact (State.evaluateFrameEnd_evalFrame _ ch r).timing

theorem State.sendHeader_timing : (s.sendHeader ch).timing = s.timing := by
  rw [State.sendHeader]
  split <;> rfl

theorem State.sendAnswer_timing (n : Nat) (b : Bool) : (s.sendAnswer ch n b).timing = s.timing := by
  simp only [State.sendAnswer]
  split <;> rfl

theorem State.tickCamera_timing : (s.tickCamera ch).timing = s.timing := by
  simp only [State.tickCamera]
  split <;> exact (State.evaluate_evalFrame _ ch _ _).timing

theorem State.tickDisplay_timing : (s.tickDisplay ch).timing = s.timing := by
  simp only [State.tickDisplay]
  split <;> exact (State.evaluate_evalFrame _ ch _ _).timing

theorem State.tickScrub_timing : s.tickScrub.timing = s.timing := by
  rw [State.tickScrub]
  split
  · rfl
  · split <;> rfl

theorem State.tickPass_timing : (s.tickPass ch).timing = s.timing := by
  rw [State.tickPass]
  split
  · rfl
  · split
    · rfl
    · exact s.endPass_timing ch _ _

theorem State.superviseTick_timing : s.superviseTick.timing = s.timing := by
  simp only [State.superviseTick, State.tickPass_timing, State.tickScrub_timing, State.tickDisplay_timing,
    State.tickCamera_timing]

end

/-! ## A sound timing unit (R164, R167) -/

/-- R167, R164: the source is TRACKED only while the tracker is LOCKED, and the tracker LOCKED only in TRACK. -/
def LinkTiming.Sound (g : LinkTiming) : Prop :=
  (g.source = .tracked → g.tracker.locked = true) ∧ (g.tracker.locked = true → g.tracker.state = .track)

/-- R164: LOCKED is set only in TRACK. -/
def Tracker.LockSound (k : Tracker) : Prop := k.locked = true → k.state = .track

section

variable {k : Tracker} (h : k.LockSound)
include h

theorem Tracker.LockSound.lockRules (p : ChannelParams) (e : Int) : (k.lockRules p e).LockSound := by
  unfold Tracker.lockRules
  split
  · split
    · split
      · exact fun _ => rfl
      · exact h
    · exact h
  · split
    · split
      · exact nofun
      · exact h
    · exact h
  · exact h
  · exact h

/-- R163: a measurement in HOLDOVER is made as ACQUIRE, and neither is LOCKED. -/
theorem Tracker.LockSound.measure (p : ChannelParams) (v e : Time) : (k.measure p v e).LockSound := by
  refine Tracker.LockSound.lockRules (fun locked => ?_) p _
  have tracks : k.state = .track := h locked
  exact (if_neg (by rw [tracks]; exact nofun)).trans tracks

theorem Tracker.LockSound.countEmpty : k.countEmpty.LockSound := by
  rw [Tracker.countEmpty]
  split
  · exact nofun
  · exact h

theorem Tracker.LockSound.referenceStart (p : ChannelParams) (v : Time) : (k.referenceStart p v).LockSound := by
  rw [Tracker.referenceStart]
  split
  · exact h.measure p v _
  · exact h.countEmpty

end

theorem Tracker.acquire_lockSound (k : Tracker) (p : ChannelParams) (next : Time) : (k.acquire p next).LockSound := nofun

section

variable {g : LinkTiming}

/-- R167: a revert makes a unit sound whose tracker is. -/
theorem LinkTiming.revert_sound (h : g.tracker.LockSound) : g.revert.Sound := by
  rw [LinkTiming.revert]
  split
  · exact ⟨nofun, h⟩
  case isFalse stands =>
    exact ⟨fun tracked => Bool.eq_true_of_not_eq_false fun clear => stands ⟨tracked, clear⟩, h⟩

theorem LinkTiming.sound_of_internal (hs : g.source = .internal) (h : g.tracker.LockSound) : g.Sound :=
  ⟨fun tracked => absurd (hs.symm.trans tracked) nofun, h⟩

variable (h : g.Sound)
include h

theorem LinkTiming.Sound.referenceStart (p : ChannelParams) (v : Time) : (g.referenceStart p v).Sound :=
  LinkTiming.revert_sound (Tracker.LockSound.referenceStart h.2 p v)

theorem LinkTiming.Sound.displayStart (p : ChannelParams) (v : Time) : (g.displayStart p v).Sound := by
  unfold LinkTiming.displayStart
  extract_lets one distance period
  split
  · exact LinkTiming.Sound.referenceStart (g := { g with aligned := true, landing := false }) h p v
  · split
    · exact h
    · exact h

/-- R168: a tracker that is turned on was OFF, so its source is INTERNAL. -/
theorem LinkTiming.Sound.trackerOn (p : ChannelParams) : (g.trackerOn p).Sound := by
  rw [LinkTiming.trackerOn]
  split
  case isTrue off =>
    refine ⟨fun tracked => ?_, Tracker.acquire_lockSound _ p _⟩
    have tracks : g.tracker.state = .track := h.2 (h.1 tracked)
    rw [off] at tracks
    cases tracks
  case isFalse => exact h

theorem LinkTiming.Sound.selectTracked (hl : g.tracker.locked = true) : g.selectTracked.Sound := by
  rw [LinkTiming.selectTracked]
  split
  · exact h
  · exact ⟨fun _ => hl, h.2⟩

theorem LinkTiming.Sound.restart (p : ChannelParams) : (g.restart p).Sound := by
  refine LinkTiming.sound_of_internal rfl ?_
  rw [LinkTiming.restart]
  dsimp only
  split
  · exact h.2
  · exact Tracker.acquire_lockSound _ p _

end

/-! ## The step lemma (R167) -/

section

variable {s t : State}

theorem State.SourcesSound.link (h : s.SourcesSound) (ch : Channel) : (s.timing.get ch).Sound := h ch

theorem State.SourcesSound.same (h : s.SourcesSound) (ht : t.timing = s.timing) : t.SourcesSound := by
  rw [State.SourcesSound, ht]
  exact h

theorem State.SourcesSound.of_set (h : s.SourcesSound) {ch : Channel} {g : LinkTiming} (hg : g.Sound)
    (ht : t.timing = s.timing.set ch g) : t.SourcesSound := by
  intro c
  rw [ht, Pair.get_set_eq]
  split
  · exact hg
  · exact h c

theorem State.SourcesSound.setTiming (h : s.SourcesSound) {ch : Channel} {g : LinkTiming} (hg : g.Sound) :
    (s.setTiming ch g).SourcesSound := h.of_set hg rfl

theorem State.SourcesSound.frameEndTime (h : s.SourcesSound) (ch : Channel) : (s.frameEndTime ch).SourcesSound := by
  rw [State.frameEndTime]
  split
  · exact h
  · exact h.setTiming (h.link ch)

theorem State.SourcesSound.takeFrameEnd (h : s.SourcesSound) (ch : Channel) (f : Option Nat) :
    (s.takeFrameEnd ch f).SourcesSound := by
  rcases s.takeFrameEnd_timing ch f with timed | stands
  · exact (h.frameEndTime ch).same timed
  · exact h.same stands

theorem State.SourcesSound.of_reset (ht : t.timing = State.reset.timing) : t.SourcesSound := sourcesSound_reset.same ht

end

/-- R167: every effect of the part keeps the sources sound. -/
theorem sourcesSound_kept : State.Kept State.SourcesSound where
  frameStart s ch h := h.same (s.takeFrameStart_timing ch)
  embedded s ch f h := h.same (s.takeEmbedded_timing ch f)
  line s ch f h := h.same (s.takeLine_timing ch f)
  frameEnd _ ch f h := h.takeFrameEnd ch f
  endPass s ch x p h := h.same (s.endPass_timing ch x p)
  status s ch lux f h := h.same (s.takeStatus_timing ch lux f)
  signature s ch q v h := h.same (s.takeSignature_timing ch q v)
  accept s r h := h.same (s.acceptRequest_timing r)
  discard _ _ h := h.same rfl
  serve s ch h _ := h.same (s.serve_timing ch)
  finish _ _ _ _ h _ := h.same rfl
  stage s _ ch p h _ _ := h.same (s.stageValue_timing ch p _)
  setStaged _ _ _ h _ _ := h.same rfl
  loadData _ _ _ _ h _ _ _ := h.same rfl
  commit _ _ _ _ h _ _ _ := h.same rfl
  abandonVerify _ t _ _ _ h _ := h.same (State.leaveQueue_timing _ t)
  abandon _ _ h _ := h.same rfl
  lock _ _ _ h := h.same rfl
  acknowledge _ h := h.same rfl
  clear _ _ h := h.same rfl
  restart s ch h := h.of_set ((h.link ch).restart _) (s.restart_timing ch)
  trackerOff _ _ h hs := h.setTiming (LinkTiming.sound_of_internal hs nofun)
  trackerOn _ ch h := h.setTiming ((h.link ch).trackerOn _)
  bandwidth _ ch _ h := h.setTiming (h.link ch)
  selectTracked _ ch h hl := h.setTiming ((h.link ch).selectTracked hl)
  selectInternal _ ch h := h.setTiming (LinkTiming.sound_of_internal rfl (h.link ch).2)
  sendPass _ _ _ h _ _ := h.same rfl
  writeCoverage _ _ _ h _ _ _ := h.same rfl
  fixCoverage _ _ _ h _ := h.same rfl
  requestReset _ _ h := h.same rfl
  tick s h := h.same s.superviseTick_timing
  verifyStart _ _ _ h _ _ := h.same rfl
  verifyEnd s t load supplied tag h _ _ := h.same (s.endVerify_timing t load supplied tag)
  scrubEnd s st h _ := h.same (s.endScrub_timing st)
  startFrame s ch h := by
    obtain ⟨r, items, started⟩ := s.startFrame_started ch
    exact h.of_set ((h.link ch).displayStart _ _) started.timing
  holdLimit s ch h := h.same (s.enterFallback_evalFrame ch).timing
  startLine s ch h := h.same (s.startLine_timing ch)
  endLine _ _ h := h.same rfl
  endFrame s ch h := h.same (s.endFrame_timing ch)
  header s ch h := h.same (s.sendHeader_timing ch)
  sendAnswer s ch n b h := h.same (s.sendAnswer_timing ch n b)
  areaEnd _ _ h := h.same rfl
  referenceStart _ ch h := h.setTiming ((h.link ch).referenceStart _ _)
  holdover _ ch h := h.setTiming (LinkTiming.revert_sound (Tracker.LockSound.countEmpty (h.link ch).2))
  manageReset _ _ := .of_reset rfl
  queue _ _ _ h := h.same rfl
  passTime _ h := h.same rfl
  beginReset _ _ _ := .of_reset rfl
  completeReset _ _ _ _ := .of_reset rfl
  hold _ _ h := h.same rfl

/-- Settles O54: by the induction over the effects of the part. -/
theorem stepKeepsTrackedSourcesLocked : Obligations.StepKeepsTrackedSourcesLocked :=
  fun _ _ h hs => sourcesSound_kept.step h hs

end Sys2Proof.Machine
end

section
/-! The part left to itself (R155, R156, R159, R163): what is due, and in which order it is queued. -/

namespace Sys2Proof.Machine

/-! ## The events that can fall due -/

/-- The events that a link's timing unit brings about. -/
def linkEvents (ch : Channel) : List Instr := [Instr.displayFrameStart ch] ++ [Instr.referenceStart ch]

/-- The events that the part brings about by itself. -/
def ownEvents : List Instr :=
  [Instr.supervisionTick] ++ linkEvents .left ++ linkEvents .right ++ [Instr.verifyStart] ++ [Instr.agentTakesRequest]

/-- The event falls due at the counter's value. -/
def State.fallsDue (s : State) : Instr → Bool
  | .supervisionTick => s.tickDue
  | .displayFrameStart ch => s.startDue ch
  | .referenceStart ch => s.referenceDue ch
  | .verifyStart => Decidable.decide (s.tables.verifyQueue ≠ [] ∧ s.tables.verifying = none)
  | .agentTakesRequest => Decidable.decide (s.agent.executing = none ∧ s.linkToServe.isSome = true)
  | _ => false

theorem ownEvents_nodup : ownEvents.Nodup := by decide

section

variable (s : State)

theorem State.due_eq_filter : s.due = ownEvents.filter s.fallsDue := by
  simp only [State.due, State.linkDue, ownEvents, linkEvents, List.filter_append, List.filter_singleton,
    State.fallsDue, decide_eq_true_eq, cond_eq_ite]

theorem State.due_nodup : s.due.Nodup := by
  rw [State.due_eq_filter]
  exact ownEvents_nodup.filter _

theorem State.mem_ownEvents_of_fallsDue {c : Instr} (h : s.fallsDue c = true) : c ∈ ownEvents := by
  unfold State.fallsDue at h
  split at h
  case h_1 | h_4 | h_5 => decide
  case h_2 ch | h_3 ch => cases ch <;> decide
  case h_6 => cases h

theorem State.mem_due_iff (c : Instr) : c ∈ s.due ↔ s.fallsDue c = true := by
  rw [State.due_eq_filter, List.mem_filter]
  exact ⟨And.right, fun h => ⟨s.mem_ownEvents_of_fallsDue h, h⟩⟩

/-- R198: a link is served where either has a request waiting. -/
theorem State.linkToServe_isSome_iff : s.linkToServe.isSome = true ↔ ∃ ch, (s.link.get ch).requests ≠ [] := by
  have either : (∃ ch, (s.link.get ch).requests ≠ []) ↔
      (s.link.get (otherLink s.agent.lastServed)).requests ≠ [] ∨ (s.link.get s.agent.lastServed).requests ≠ [] := by
    constructor
    · rintro ⟨ch, h⟩
      cases ch <;> cases hl : s.agent.lastServed
      · exact .inr h
      · exact .inl h
      · exact .inl h
      · exact .inr h
    · rintro (h | h) <;> exact ⟨_, h⟩
  rw [either, State.linkToServe]
  split
  case isTrue first => exact ⟨fun _ => .inl first, fun _ => rfl⟩
  case isFalse first =>
    split
    case isTrue second => exact ⟨fun _ => .inr second, fun _ => rfl⟩
    case isFalse second => exact ⟨nofun, fun h => (h.elim first second).elim⟩

theorem State.tickDue_iff : s.tickDue = true ↔ s.lastTick ≠ some s.counter ∧
    s.counter.toNat % 2 ^ (s.partParams.tickBit + 1) =
      (match s.partParams.tickEdge with | .rising => 2 ^ s.partParams.tickBit | .falling => 0) := by
  have stands : s.partParams.transitionAt s.counter = true ↔ s.counter.toNat % 2 ^ (s.partParams.tickBit + 1) =
      (match s.partParams.tickEdge with | .rising => 2 ^ s.partParams.tickBit | .falling => 0) := beq_iff_eq
  rw [State.tickDue, Bool.and_eq_true, stands, bne_iff_ne, and_comm]

/-- R159: a display frame start falls due one period after the last, or at 0. -/
theorem State.startDue_iff (ch : Channel) {g : LinkTiming} (hg : g = s.timing.get ch) :
    s.startDue ch = true ↔ (g.start = none ∧ s.counter = 0) ∨
      ∃ start, g.start = some start ∧ s.counter = start + BitVec.ofNat 32 g.period := by
  subst hg
  rw [State.startDue, beq_iff_eq, LinkTiming.nextStart, eq_comm]
  split
  case h_1 none => simp [none]
  case h_2 start some => simp [some]

/-- R163, R166: a reference start is an event of its own unless it is one with the display frame start. -/
theorem State.referenceDue_iff (ch : Channel) {g : LinkTiming} (hg : g = s.timing.get ch) :
    s.referenceDue ch = true ↔ g.tracker.state ≠ .off ∧ g.tracker.nextRef = some s.counter ∧
      ¬(s.startDue ch = true ∧ g.source = .tracked ∧ (g.aligned = true ∨ g.landing = true)) := by
  subst hg
  simp only [State.referenceDue, State.startDue, LinkTiming.oneEvent, Bool.and_eq_true, Bool.or_eq_true, bne_iff_ne,
    Bool.not_eq_true', Bool.eq_false_iff, beq_iff_eq, ne_eq, and_assoc]
  refine and_congr_right fun _ => and_congr_right fun falls => not_congr ?_
  simp only [falls, true_and]

/-- The five kinds of events that are due. -/
theorem State.fallsDue_iff (c : Instr) : s.fallsDue c = true ↔
    (c = .supervisionTick ∧ s.tickDue = true) ∨ (∃ ch, c = .displayFrameStart ch ∧ s.startDue ch = true) ∨
      (∃ ch, c = .referenceStart ch ∧ s.referenceDue ch = true) ∨
      (c = .verifyStart ∧ s.tables.verifyQueue ≠ [] ∧ s.tables.verifying = none) ∨
      (c = .agentTakesRequest ∧ s.agent.executing = none ∧ ∃ ch, (s.link.get ch).requests ≠ []) := by
  rw [← State.linkToServe_isSome_iff]
  constructor
  · intro h
    unfold State.fallsDue at h
    split at h
    case h_1 => exact .inl ⟨rfl, h⟩
    case h_2 ch => exact .inr (.inl ⟨ch, rfl, h⟩)
    case h_3 ch => exact .inr (.inr (.inl ⟨ch, rfl, h⟩))
    case h_4 => exact .inr (.inr (.inr (.inl ⟨rfl, of_decide_eq_true h⟩)))
    case h_5 => exact .inr (.inr (.inr (.inr ⟨rfl, of_decide_eq_true h⟩)))
    case h_6 => cases h
  · rintro (⟨rfl, h⟩ | ⟨ch, rfl, h⟩ | ⟨ch, rfl, h⟩ | ⟨rfl, h⟩ | ⟨rfl, h⟩)
    · exact h
    · exact h
    · exact h
    · exact decide_eq_true h
    · exact decide_eq_true h

end

/-! ## The order of the events -/

theorem placeAt_perm (x : Instr) (n : Nat) (ys : List Instr) : (placeAt x n ys).Perm (x :: ys) := by
  induction ys generalizing n with
  | nil => cases n <;> exact .refl _
  | cons y ys ih =>
    cases n with
    | zero => exact .refl _
    | succ n => exact ((ih n).cons y).trans (.swap x y ys)

/-- Whatever order is drawn, the events queued are those that are due. -/
theorem freeOrder_perm (draw : Nat) (xs : List Instr) : (freeOrder draw xs).Perm xs := by
  induction xs generalizing draw with
  | nil => exact .refl _
  | cons x xs ih =>
    cases xs with
    | nil => exact .refl _
    | cons y rest => exact (placeAt_perm x _ _).trans ((ih (draw + 1)).cons x)

theorem step_idle {s : State} (h : s.pending = []) : step s = .next (idle s) := by rw [step, h]

/-- Settles O2: what is due is what falls due among the part's own events, and `freeOrder` permutes it. -/
theorem idleQueuesDueEventsOrCountsOne : Obligations.IdleQueuesDueEventsOrCountsOne := by
  refine ⟨fun s => ⟨s.tickDue_iff, fun ch g hg => ⟨s.startDue_iff ch hg, s.referenceDue_iff ch hg⟩,
    fun c => (s.mem_due_iff c).trans (s.fallsDue_iff c), s.due_nodup⟩,
    fun s hp => ⟨fun hh => ?_, fun hh hd => ?_, fun hh hd => ?_⟩⟩
  · rw [step_idle hp, idle, if_pos hh]
  · refine ⟨{ s with pending := freeOrder s.draws s.due, draws := s.draws + s.due.length }, ?_,
      freeOrder_perm s.draws s.due, rfl⟩
    rw [step_idle hp, idle, if_neg (Bool.eq_false_iff.mp hh), if_neg hd]
  · refine ⟨s.passTime, ?_, rfl, rfl⟩
    rw [step_idle hp, idle, if_neg (Bool.eq_false_iff.mp hh), if_pos hd]

end Sys2Proof.Machine
end

section
/-! The TIMING requests (R167, R168, R214) and their statement. -/

namespace Sys2Proof.Machine

/-! ## The setting that a TIMING answers (R214) -/

theorem toLe_one_toNat {n : Nat} (h : n < 256) : (toLe 1 n).map BitVec.toNat = [n] := by
  rw [toLe, toLe, List.map_singleton, BitVec.toNat_ofNat, Nat.mod_eq_of_lt h]

theorem Bandwidth.code_lt (m : Bandwidth) : m.code < 3 := by cases m <;> decide
theorem Source.code_lt (x : Source) : x.code < 2 := by cases x <;> decide

theorem LinkTiming.report_toNat (g : LinkTiming) : g.report.map BitVec.toNat =
    [g.tracker.state.code, g.tracker.locked.toNat, g.tracker.bandwidth.code, g.source.code] := by
  have locked : g.tracker.locked.toNat < 256 := (Bool.toNat_le _).trans_lt (by decide)
  have bandwidth : g.tracker.bandwidth.code < 256 := g.tracker.bandwidth.code_lt.trans (by decide)
  have source : g.source.code < 256 := g.source.code_lt.trans (by decide)
  rw [LinkTiming.report, boolByte, List.map_append, List.map_append, List.map_append,
    toLe_one_toNat g.tracker.state.code_lt, toLe_one_toNat locked, toLe_one_toNat bandwidth, toLe_one_toNat source]
  rfl

theorem bandwidthOf_code (m : Bandwidth) : bandwidthOf m.code = some m := by cases m <;> rfl

theorem bandwidthOf_eq_none {code : Nat} (h : 3 ≤ code) : bandwidthOf code = none := by
  unfold bandwidthOf
  split
  case h_4 => rfl
  all_goals omega

/-! ## The settings, one by one (R168) -/

section

variable {s : State} {r : Request} {ch : Channel} {v : Byte}

theorem byteAt_singleton (v : Byte) : byteAt [v] 0 = v.toNat := rfl

/-- R168: a setting that changes nothing is answered all the same. -/
theorem State.takeTiming_self (s : State) (r : Request) (ch : Channel) :
    s.takeTiming r ch (s.timing.get ch) = s.answered r .ok (s.timing.get ch).report := by
  rw [State.takeTiming, State.setTiming, Pair.set_get, State.finish_eq_answered]

theorem State.timingTracker_off (hp : r.payload = [0]) (hs : (s.timing.get ch).source = .internal) :
    s.timingTracker r ch = s.takeTiming r ch (s.timing.get ch).trackerOff := by
  rw [State.timingTracker, hp]
  exact if_neg (by rw [hs]; exact nofun)

theorem State.timingTracker_in_use (hp : r.payload = [0]) (hs : (s.timing.get ch).source = .tracked) :
    s.timingTracker r ch = s.answered r .inUse [] := by
  rw [State.timingTracker, hp]
  exact if_pos hs

theorem State.timingTracker_on (hp : r.payload = [1]) :
    s.timingTracker r ch = s.takeTiming r ch ((s.timing.get ch).trackerOn (s.params.get ch)) := by
  rw [State.timingTracker, hp]
  rfl

theorem State.timingTracker_range (hp : r.payload = [v]) (hv : 2 ≤ v.toNat) :
    s.timingTracker r ch = s.answered r .range [] := by
  simp only [State.timingTracker, hp, byteAt_singleton]
  split
  case h_3 => rfl
  all_goals omega

theorem State.timingBandwidth_mode {mode : Bandwidth} (hp : r.payload = [v]) (hv : mode.code = v.toNat) :
    s.timingBandwidth r ch = s.takeTiming r ch { s.timing.get ch with
      tracker := { (s.timing.get ch).tracker with bandwidth := mode } } := by
  simp only [State.timingBandwidth, hp, byteAt_singleton, ← hv, bandwidthOf_code]

theorem State.timingBandwidth_range (hp : r.payload = [v]) (hv : 3 ≤ v.toNat) :
    s.timingBandwidth r ch = s.answered r .range [] := by
  simp only [State.timingBandwidth, hp, byteAt_singleton, bandwidthOf_eq_none hv, State.refuse_eq_answered]

theorem State.timingSource_internal (hp : r.payload = [0]) :
    s.timingSource r ch = s.takeTiming r ch (s.timing.get ch).selectInternal := by
  rw [State.timingSource, hp]
  rfl

theorem State.timingSource_tracked (hp : r.payload = [1]) (hl : (s.timing.get ch).tracker.locked = true) :
    s.timingSource r ch = s.takeTiming r ch (s.timing.get ch).selectTracked := by
  rw [State.timingSource, hp]
  exact if_pos hl

theorem State.timingSource_not_locked (hp : r.payload = [1]) (hl : (s.timing.get ch).tracker.locked = false) :
    s.timingSource r ch = s.answered r .notLocked [] := by
  rw [State.timingSource, hp]
  exact if_neg (Bool.eq_false_iff.mp hl)

theorem State.timingSource_range (hp : r.payload = [v]) (hv : 2 ≤ v.toNat) :
    s.timingSource r ch = s.answered r .range [] := by
  simp only [State.timingSource, hp, byteAt_singleton]
  split
  case h_3 => rfl
  all_goals omega

/-! ## The commands of the three items -/

variable (hs : s.Executes r) (hk : r.kind = 11) (hc : channelOf r.channel = some ch) (hp : r.payload = [v])
include hs hk hc hp

theorem exec_timingTracker_of {t : State} (hi : r.item = 0) (ht : s.timingTracker r ch = t) :
    exec .timingTracker s = .next t :=
  (exec_timingTracker s).trans (whenExecuting_of hs (Request.isTiming_of hk hi)
    ((State.onChannel_eq hc).trans ((State.withLength_eq (by rw [hp]; rfl)).trans ht)))

theorem exec_timingBandwidth_of {t : State} (hi : r.item = 1) (ht : s.timingBandwidth r ch = t) :
    exec .timingBandwidth s = .next t :=
  (exec_timingBandwidth s).trans (whenExecuting_of hs (Request.isTiming_of hk hi)
    ((State.onChannel_eq hc).trans ((State.withLength_eq (by rw [hp]; rfl)).trans ht)))

theorem exec_timingSource_of {t : State} (hi : r.item = 2) (ht : s.timingSource r ch = t) :
    exec .timingSource s = .next t :=
  (exec_timingSource s).trans (whenExecuting_of hs (Request.isTiming_of hk hi)
    ((State.onChannel_eq hc).trans ((State.withLength_eq (by rw [hp]; rfl)).trans ht)))

end

/-- Settles O29: each setting of each item by its own lemma. -/
theorem timingSettingsTakeEffect : Obligations.TimingSettingsTakeEffect := by
  refine ⟨LinkTiming.report_toNat, fun s r ch v g hs hk hc hp hg => ?_⟩
  subst hg
  refine ⟨fun hi => ⟨fun hv tracked => ?_, fun hv internal => ⟨_, rfl, ?_⟩, fun hv running => ?_,
      fun hv off => ⟨_, rfl, ?_⟩, fun hv => ?_⟩,
    fun hi => ⟨fun mode hv => ⟨_, rfl, ?_⟩, fun hv => ?_⟩,
    fun hi => ⟨fun hv => ⟨_, rfl, ?_⟩, fun hv clear => ?_, fun hv locked tracked => ?_,
      fun hv locked internal => ⟨_, rfl, ?_⟩, fun hv => ?_⟩⟩
  · exact exec_timingTracker_of hs hk hc hp hi (State.timingTracker_in_use (hv ▸ hp) tracked)
  · exact exec_timingTracker_of hs hk hc hp hi (State.timingTracker_off (hv ▸ hp) internal)
  · have stays : (s.timing.get ch).trackerOn (s.params.get ch) = s.timing.get ch := if_neg running
    exact exec_timingTracker_of hs hk hc hp hi
      ((State.timingTracker_on (hv ▸ hp)).trans (stays.symm ▸ s.takeTiming_self r ch))
  · have enabled : (s.timing.get ch).trackerOn (s.params.get ch) = { s.timing.get ch with
        tracker := (s.timing.get ch).tracker.acquire (s.params.get ch) (s.timing.get ch).nextStart } := if_pos off
    exact exec_timingTracker_of hs hk hc hp hi
      ((State.timingTracker_on (hv ▸ hp)).trans (congrArg (s.takeTiming r ch) enabled))
  · exact exec_timingTracker_of hs hk hc hp hi (State.timingTracker_range hp hv)
  · exact exec_timingBandwidth_of hs hk hc hp hi (State.timingBandwidth_mode hp hv)
  · exact exec_timingBandwidth_of hs hk hc hp hi (State.timingBandwidth_range hp hv)
  · exact exec_timingSource_of hs hk hc hp hi (State.timingSource_internal (hv ▸ hp))
  · exact exec_timingSource_of hs hk hc hp hi (State.timingSource_not_locked (hv ▸ hp) clear)
  · have stays : (s.timing.get ch).selectTracked = s.timing.get ch := if_pos tracked
    exact exec_timingSource_of hs hk hc hp hi
      ((State.timingSource_tracked (hv ▸ hp) locked).trans (stays.symm ▸ s.takeTiming_self r ch))
  · have selected : (s.timing.get ch).selectTracked =
        { s.timing.get ch with source := .tracked, aligned := false, landing := false } :=
      if_neg (by rw [internal]; exact nofun)
    exact exec_timingSource_of hs hk hc hp hi
      ((State.timingSource_tracked (hv ▸ hp) locked).trans (congrArg (s.takeTiming r ch) selected))
  · exact exec_timingSource_of hs hk hc hp hi (State.timingSource_range hp hv)

end Sys2Proof.Machine
end

section
/-! Reference starts (R163 to R165, R167): what a measurement and an empty start make of the tracker and its source. -/

namespace Sys2Proof.Machine

/-! ## The tracker -/

/-- R160, R163: a period is clamped to the bounds in force, the lower one never below 0. -/
theorem ChannelParams.clampPeriod_eq (p : ChannelParams) (period : Int) : (p.clampPeriod period : Int) =
    max (p.periodNom - p.spanInUse : Int) (min (p.periodNom + p.spanInUse) period) := by
  have span : p.spanInUse ≤ p.periodNom := by rw [ChannelParams.spanInUse]; omega
  rw [ChannelParams.clampPeriod, ChannelParams.periodBounds, clampInt]
  omega

section

variable (k : Tracker) (p : ChannelParams)

/-- R164: the lock rules move the state, LOCKED and the runs alone. -/
theorem Tracker.lockRules_frame (e : Int) : k.lockRules p e = { k with
    state := (k.lockRules p e).state, locked := (k.lockRules p e).locked, lockRun := (k.lockRules p e).lockRun
    unlockRun := (k.lockRules p e).unlockRun } := by
  unfold Tracker.lockRules
  split
  · split
    · split <;> rfl
    · rfl
  · split
    · split <;> rfl
    · rfl
  · rfl
  · rfl

/-- R164: what the lock rules make of a phase error in ACQUIRE and in TRACK. -/
theorem Tracker.lockRules_moves {k : Tracker} (h : k.state = .acquire ∨ k.state = .track) (e : Int) :
    ((k.lockRules p e).state, (k.lockRules p e).locked, (k.lockRules p e).lockRun, (k.lockRules p e).unlockRun) =
      if k.state = .track then
        (if max p.unlockWindow p.lockWindow < e.natAbs then
          (if 2 ≤ k.unlockRun + 1 then (.acquire, false, 0, 0) else (.track, k.locked, k.lockRun, k.unlockRun + 1))
        else (.track, k.locked, k.lockRun, 0))
      else
        (if e.natAbs ≤ p.lockWindow then
          (if 8 ≤ k.lockRun + 1 then (.track, true, 0, 0) else (.acquire, k.locked, k.lockRun + 1, k.unlockRun))
        else (.acquire, k.locked, 0, k.unlockRun)) := by
  rcases h with acquires | tracks
  · rw [if_neg (by rw [acquires]; exact nofun)]
    simp only [Tracker.lockRules, acquires]
    split
    · split <;> rfl
    · rfl
  · rw [if_pos tracks]
    simp only [Tracker.lockRules, tracks, ChannelParams.unlockWindowInUse]
    split
    · split <;> rfl
    · rfl

/-- R163: the tracker after a measurement of the phase error `err`, made in `state`, before the lock rules. -/
def Tracker.measured (k : Tracker) (p : ChannelParams) (v : Time) (err : Int) (state : TrackerState) : Tracker :=
  let period := p.clampPeriod (p.periodNom - err.tdiv (divisorFor k.bandwidth state))
  { k with
    state := state, period := period, nextRef := some (v + BitVec.ofNat 32 period), lastError := some err
    frameEnd := none, emptyCount := 0 }

variable {k} in
theorem Tracker.referenceStart_measures {v e : Time} {err : Int} {state : TrackerState} (h : k.frameEnd = some e)
    (herr : err = (v - (e + BitVec.ofNat 32 p.offset)).toInt)
    (hstate : state = if k.state = .holdover then .acquire else k.state) :
    k.referenceStart p v = (k.measured p v err state).lockRules p err := by
  subst herr hstate
  rw [Tracker.referenceStart, h]
  rfl

variable {k} in
theorem Tracker.referenceStart_empty {v : Time} (h : k.frameEnd = none) : k.referenceStart p v = k.emptyStart p v := by
  rw [Tracker.referenceStart, h]

variable {k}

/-- R165: an empty start short of the third, or in HOLDOVER, is counted alone. -/
theorem Tracker.countEmpty_counts (h : k.emptyCount + 1 < 3 ∨ k.state = .holdover) :
    k.countEmpty = { k with emptyCount := min 3 (k.emptyCount + 1) } := by
  refine if_neg fun lost => ?_
  obtain ⟨runs, third⟩ := lost
  rcases h with few | holds
  · omega
  · rw [holds] at runs
    rcases runs with runs | runs <;> cases runs

/-- R165: the third empty start in ACQUIRE or TRACK enters HOLDOVER. -/
theorem Tracker.countEmpty_enters (third : 3 ≤ k.emptyCount + 1) (runs : k.state = .acquire ∨ k.state = .track) :
    k.countEmpty = { k with
      state := .holdover, locked := false, lockRun := 0, unlockRun := 0, emptyCount := min 3 (k.emptyCount + 1) } :=
  if_pos ⟨runs, by omega⟩

/-- An empty start touches the count, the state, LOCKED and the runs alone. -/
theorem Tracker.countEmpty_frame (k : Tracker) : k.countEmpty = { k with
    state := k.countEmpty.state, locked := k.countEmpty.locked, lockRun := k.countEmpty.lockRun
    unlockRun := k.countEmpty.unlockRun, emptyCount := min 3 (k.emptyCount + 1) } := by
  rw [Tracker.countEmpty]
  split <;> rfl

/-- R165: a tracker that has entered HOLDOVER is counted no further. -/
theorem Tracker.countEmpty_countEmpty (third : 3 ≤ k.emptyCount + 1) (runs : k.state = .acquire ∨ k.state = .track) :
    k.countEmpty.countEmpty = k.countEmpty := by
  have count : min 3 (min 3 (k.emptyCount + 1) + 1) = min 3 (k.emptyCount + 1) := by omega
  rw [Tracker.countEmpty_enters third runs, Tracker.countEmpty_counts (.inr rfl)]
  dsimp only
  rw [count]

theorem Tracker.losesCamera_eq (empty : k.frameEnd = none) (third : 3 ≤ k.emptyCount + 1)
    (runs : k.state = .acquire ∨ k.state = .track) : k.losesCamera = true := by
  have count : 2 ≤ k.emptyCount := by omega
  rcases runs with runs | runs <;> simp [Tracker.losesCamera, empty, runs, count]

end

/-! ## The source (R167) -/

section

variable (g : LinkTiming)

theorem LinkTiming.revert_start : g.revert.start = g.start := by
  rw [LinkTiming.revert]
  split <;> rfl

theorem LinkTiming.revert_period : g.revert.period = g.period := by
  rw [LinkTiming.revert]
  split <;> rfl

theorem LinkTiming.revert_revertsTo (k : Tracker) : g.RevertsTo (LinkTiming.revert { g with tracker := k }) := by
  rw [LinkTiming.revert]
  split
  case isTrue lost =>
    obtain ⟨tracked, clear⟩ := lost
    refine ⟨fun stands => ?_, fun _ _ => ⟨rfl, rfl, rfl⟩⟩
    rw [tracked, clear] at stands
    rcases stands with h | h <;> cases h
  case isFalse stands => exact ⟨fun _ => ⟨rfl, rfl, rfl⟩, fun tracked clear => absurd ⟨tracked, clear⟩ stands⟩

variable {g}

/-- R167: with LOCKED clear the source is INTERNAL. -/
theorem LinkTiming.revert_source (h : g.tracker.locked = false) : g.revert.source = .internal := by
  rw [LinkTiming.revert]
  split
  · rfl
  case isFalse stands =>
    cases hs : g.source with
    | internal => rfl
    | tracked => exact absurd ⟨hs, h⟩ stands

/-- R167: a source that a tracker not LOCKED has reverted is left by another such. -/
theorem LinkTiming.revert_again {k j : Tracker} (hk : k.locked = false) (hj : j.locked = false) :
    LinkTiming.revert { LinkTiming.revert { g with tracker := k } with tracker := j } =
      LinkTiming.revert { g with tracker := j } := by
  by_cases tracked : g.source = .tracked
  · simp [LinkTiming.revert, tracked, hk, hj]
  · simp [LinkTiming.revert, tracked]

variable (g) (p : ChannelParams) (v : Time)

theorem LinkTiming.referenceStart_tracker : (g.referenceStart p v).tracker = g.tracker.referenceStart p v :=
  LinkTiming.revert_tracker _

theorem LinkTiming.referenceStart_start : (g.referenceStart p v).start = g.start := LinkTiming.revert_start _

theorem LinkTiming.referenceStart_period : (g.referenceStart p v).period = g.period := LinkTiming.revert_period _

theorem LinkTiming.referenceStart_revertsTo : g.RevertsTo (g.referenceStart p v) :=
  g.revert_revertsTo _

end

/-! ## The commands -/

section

variable {s : State} {ch : Channel} (hh : s.held = false) (hd : s.referenceDue ch = true)
include hh hd

theorem exec_referenceStart_due : exec (.referenceStart ch) s =
    .next (s.setTiming ch ((s.timing.get ch).referenceStart (s.params.get ch) s.counter)) := by
  have arm : exec (.referenceStart ch) s = execReferenceStart ch s := rfl
  rw [arm, execReferenceStart, whenRunning_eq hh, if_pos hd]

theorem exec_holdover_due (hl : (s.timing.get ch).tracker.losesCamera = true) : exec (.holdover ch) s =
    .next (s.setTiming ch
      (LinkTiming.revert { s.timing.get ch with tracker := (s.timing.get ch).tracker.countEmpty })) := by
  have arm : exec (.holdover ch) s = execHoldover ch s := rfl
  rw [arm, execHoldover, whenRunning_eq hh]
  exact congrArg _ (if_pos ⟨hd, hl⟩)

/-- R165: HOLDOVER does its part of the reference start, which the reference start then completes. -/
theorem exec_referenceStart_after_holdover (empty : (s.timing.get ch).tracker.frameEnd = none)
    (third : 3 ≤ (s.timing.get ch).tracker.emptyCount + 1)
    (runs : (s.timing.get ch).tracker.state = .acquire ∨ (s.timing.get ch).tracker.state = .track) :
    exec (.referenceStart ch) (s.setTiming ch
      (LinkTiming.revert { s.timing.get ch with tracker := (s.timing.get ch).tracker.countEmpty })) =
      exec (.referenceStart ch) s := by
  obtain ⟨g, hg⟩ : ∃ g, g = s.timing.get ch := ⟨_, rfl⟩
  obtain ⟨-, falls, -⟩ := (s.referenceDue_iff ch hg).mp hd
  rw [← hg] at empty third runs ⊢
  have entered := Tracker.countEmpty_enters third runs
  have clear : g.tracker.countEmpty.locked = false := by rw [entered]
  obtain ⟨held, hheld⟩ : ∃ x, x = LinkTiming.revert { g with tracker := g.tracker.countEmpty } := ⟨_, rfl⟩
  have tracker : held.tracker = g.tracker.countEmpty := by rw [hheld, LinkTiming.revert_tracker]
  have internal : held.source = .internal := by rw [hheld]; exact LinkTiming.revert_source clear
  have due : (s.setTiming ch held).referenceDue ch = true := by
    refine (State.referenceDue_iff _ ch (Pair.get_set s.timing ch held).symm).mpr ⟨?_, ?_, ?_⟩
    · rw [tracker, entered]
      exact nofun
    · rw [tracker, entered]
      exact falls
    · rw [internal]
      exact fun one => nomatch one.2.1
  have same : held.tracker.referenceStart (s.params.get ch) s.counter =
      g.tracker.referenceStart (s.params.get ch) s.counter := by
    have still : held.tracker.frameEnd = none := by rw [tracker, entered]; exact empty
    have period : held.tracker.period = g.tracker.period := by rw [tracker, entered]
    rw [Tracker.referenceStart_empty _ still, Tracker.referenceStart_empty _ empty, Tracker.emptyStart,
      Tracker.emptyStart, period, tracker, Tracker.countEmpty_countEmpty third runs]
  have unlocked : (g.tracker.referenceStart (s.params.get ch) s.counter).locked = false := by
    rw [Tracker.referenceStart_empty _ empty]
    exact clear
  have reverts : held.referenceStart (s.params.get ch) s.counter = g.referenceStart (s.params.get ch) s.counter := by
    rw [LinkTiming.referenceStart, same, hheld]
    exact LinkTiming.revert_again clear unlocked
  rw [← hheld, exec_referenceStart_due (s := s.setTiming ch held) hh due, exec_referenceStart_due hh hd,
    State.setTiming_timing, Pair.get_set, State.setTiming_params, State.setTiming_counter, reverts, hg,
    State.setTiming, State.setTiming_timing, Pair.set_set]
  rfl

end

/-- Settles O48: a measurement by `Tracker.measured` and the lock rules, an empty start by `Tracker.countEmpty`. -/
theorem referenceStartMeasuresOrCounts : Obligations.ReferenceStartMeasuresOrCounts := by
  refine ⟨fun s ch k p e err d state hh hd hk hp he herr hstate hdiv => ?_, fun s ch k p hh hd hk hp he => ⟨?_, ?_⟩⟩
  · subst hk hp
    have running : (s.timing.get ch).tracker.state ≠ .off := ((s.referenceDue_iff ch rfl).mp hd).1
    have divisor : d = divisorFor (s.timing.get ch).tracker.bandwidth state := hdiv.trans rfl
    have runs : state = .acquire ∨ state = .track := by
      rw [hstate]
      cases hs : (s.timing.get ch).tracker.state with
      | off => exact absurd hs running
      | acquire => exact .inl rfl
      | track => exact .inr rfl
      | holdover => exact .inl rfl
    have measures := Tracker.referenceStart_measures (s.params.get ch) he herr hstate
    have moves := Tracker.lockRules_moves (s.params.get ch)
      (k := (s.timing.get ch).tracker.measured (s.params.get ch) s.counter err state) runs err
    refine ⟨_, exec_referenceStart_due hh hd, ?_⟩
    rw [State.setTiming_timing, Pair.get_set, LinkTiming.referenceStart_tracker, measures, Tracker.lockRules_frame]
    refine ⟨rfl, LinkTiming.referenceStart_start _ _ _, LinkTiming.referenceStart_period _ _ _, ?_, rfl, rfl, rfl, rfl,
      moves, rfl, LinkTiming.referenceStart_revertsTo _ _ _⟩
    rw [divisor]
    exact ChannelParams.clampPeriod_eq _ _
  · subst hk hp
    have counts := Tracker.referenceStart_empty (s.params.get ch) (v := s.counter) he
    refine ⟨_, exec_referenceStart_due hh hd, ?_⟩
    rw [State.setTiming_timing, Pair.get_set, LinkTiming.referenceStart_tracker, counts, Tracker.emptyStart,
      Tracker.countEmpty_frame]
    refine ⟨rfl, ChannelParams.clampPeriod_eq _ _, rfl, rfl, rfl, LinkTiming.referenceStart_start _ _ _,
      LinkTiming.referenceStart_period _ _ _, he, rfl, LinkTiming.referenceStart_revertsTo _ _ _, fun few => ?_,
      fun third runs => ?_⟩
    · rw [Tracker.countEmpty_counts few]
      exact ⟨rfl, rfl, rfl, rfl⟩
    · have entered := Tracker.countEmpty_enters third runs
      refine ⟨by rw [entered], by rw [entered], by rw [entered], by rw [entered], LinkTiming.revert_source ?_⟩
      dsimp only
      rw [counts, Tracker.emptyStart, entered]
  · subst hk hp
    intro third runs
    have entered := Tracker.countEmpty_enters third runs
    refine ⟨_, exec_holdover_due hh hd (Tracker.losesCamera_eq he third runs), ?_⟩
    rw [exec_referenceStart_after_holdover hh hd he third runs, State.setTiming_timing, Pair.get_set,
      LinkTiming.revert_tracker, LinkTiming.revert_start, LinkTiming.revert_period, entered]
    exact ⟨rfl, rfl, rfl, rfl, LinkTiming.revert_source rfl, rfl, rfl, LinkTiming.revert_revertsTo _ _, rfl⟩

end Sys2Proof.Machine
end

section
/-! The period that a display frame start chooses (R160, R166, R167), and GENLOCK_LOST there (R169). -/

namespace Sys2Proof.Machine

/-! ## The timing unit of a frame that begins -/

section

variable {g : LinkTiming} (p : ChannelParams) {v : Time}

theorem LinkTiming.oneEvent_iff (g : LinkTiming) (v : Time) : g.oneEvent v = true ↔
    g.source = .tracked ∧ g.tracker.nextRef = some v ∧ (g.aligned = true ∨ g.landing = true) := by
  simp only [LinkTiming.oneEvent, Bool.and_eq_true, Bool.or_eq_true, beq_iff_eq, and_assoc]

theorem LinkTiming.displayStart_internal (hs : g.source = .internal) : g.displayStart p v =
    { g with start := some v, period := p.periodNom, aligned := false, landing := false } := by
  have apart : ¬g.oneEvent v = true := by
    rw [LinkTiming.oneEvent_iff, hs]
    exact fun one => nomatch one.1
  rw [LinkTiming.displayStart, if_neg apart, hs]

/-- R166: as one event, the frame takes the period of the reference start made with it. -/
theorem LinkTiming.displayStart_oneEvent (h : g.oneEvent v = true) : g.displayStart p v =
    { LinkTiming.referenceStart { g with aligned := true, landing := false } p v with
      start := some v, period := (g.tracker.referenceStart p v).period } := by
  rw [LinkTiming.displayStart, if_pos h]
  dsimp only
  rw [LinkTiming.referenceStart_tracker]

/-- R166: a frame that is no one event with a reference start is steered to the target, within the bounds. -/
theorem LinkTiming.displayStart_steers (hs : g.source = .tracked) (h : g.oneEvent v ≠ true) : g.displayStart p v =
    { g with
      start := some v, period := p.clampPeriod (g.tracker.targetDistance v), aligned := false
      landing := (p.clampPeriod (g.tracker.targetDistance v) : Int) == g.tracker.targetDistance v } := by
  rw [LinkTiming.displayStart, if_neg h, hs]

/-- R163: after a reference start the next one falls a period later. -/
theorem Tracker.referenceStart_nextRef (k : Tracker) (v : Time) : (k.referenceStart p v).nextRef =
    some (v + BitVec.ofNat 32 (k.referenceStart p v).period) := by
  unfold Tracker.referenceStart
  split
  · rw [Tracker.measure, Tracker.lockRules_frame]
  · rfl

theorem Tracker.lockRules_on {k : Tracker} (h : k.state ≠ .off) (e : Int) : (k.lockRules p e).state ≠ .off := by
  unfold Tracker.lockRules
  split
  · split
    · split
      · exact nofun
      · exact h
    · exact h
  · split
    · split
      · exact nofun
      · exact h
    · exact h
  · exact h
  · exact h

/-- R161: a reference start turns no tracker off. -/
theorem Tracker.referenceStart_on {k : Tracker} (h : k.state ≠ .off) (v : Time) :
    (k.referenceStart p v).state ≠ .off := by
  unfold Tracker.referenceStart
  split
  · refine Tracker.lockRules_on p ?_ _
    dsimp only
    split
    · exact nofun
    · exact h
  · rw [Tracker.emptyStart, Tracker.countEmpty]
    split
    · exact nofun
    · exact h

theorem LinkTiming.displayStart_on (h : g.tracker.state ≠ .off) : (g.displayStart p v).tracker.state ≠ .off := by
  by_cases one : g.oneEvent v = true
  · rw [LinkTiming.displayStart_oneEvent p one]
    dsimp only
    rw [LinkTiming.referenceStart_tracker]
    exact Tracker.referenceStart_on p h v
  · cases hs : g.source with
    | internal => rwa [LinkTiming.displayStart_internal p hs]
    | tracked => rwa [LinkTiming.displayStart_steers p hs one]

/-- R166: the target is the next reference start, or one tracker period past it where it is too near. -/
theorem Tracker.targetDistance_eq {k : Tracker} {r : Time} (hr : k.nextRef = some r) {ahead : Nat}
    (ha : ahead = if r = v then k.period else (r - v).toNat) : k.targetDistance v =
      ((if k.period ≤ 2 * ahead then ahead else ahead + k.period : Nat) : Int) := by
  unfold Tracker.targetDistance
  extract_lets distance
  have same : distance = ahead := by simp only [ha, distance, hr]
  rw [same, Nat.cast_ite, Nat.cast_add]

end

/-! ## GENLOCK_LOST (R169) -/

section

variable (s : State) (ch : Channel)

theorem State.evaluateGenlock_entry (k : Tracker) (hk : k = (s.timing.get ch).tracker) :
    (s.evaluateGenlock ch).entry ch .genlockLost = if k.state = .off then s.entry ch .genlockLost
      else s.judged ch .genlockLost (if k.locked then none else some k.state.code) := by
  subst hk
  rw [State.evaluateGenlock]
  split
  · rfl
  · exact s.evaluate_entry ch _ _

theorem State.decideFrame_entries : (s.decideFrame ch).entries = s.entries :=
  (State.beginLines_entries _ ch).trans (s.decide_entries ch)

/-- R169: the decision of a frame moves nothing that GENLOCK_LOST is judged by. -/
theorem State.decideFrame_judged (k : FaultKind) (o : Option Nat) :
    (s.decideFrame ch).judged ch k o = s.judged ch k o := by
  obtain ⟨r, decided⟩ := s.decideFrame_decided ch
  obtain ⟨items, frame, -⟩ := decided.frame
  have entry : (s.decideFrame ch).entry ch k = s.entry ch k :=
    congrArg (fun es : Pair FaultEntries => (es.get ch).get k) (s.decideFrame_entries ch)
  exact (State.judged_congr (s := s.withFrame ch items) o entry frame.tables frame.counter frame.link).trans
    (s.setLink_judged (x := { s.link.get ch with frame := .begun items }) rfl k o)

theorem State.decideFrame_timing : (s.decideFrame ch).timing = s.timing := by
  obtain ⟨r, decided⟩ := s.decideFrame_decided ch
  obtain ⟨items, frame, -⟩ := decided.frame
  exact frame.timing

/-- R169: whichever comes first, GENLOCK_LOST is evaluated once, by the tracker as the frame begins. -/
theorem State.decideAndEvaluate_genlock (k : Tracker) (hk : k = (s.timing.get ch).tracker) :
    (s.decideAndEvaluate ch).entry ch .genlockLost = if k.state = .off then s.entry ch .genlockLost
      else s.judged ch .genlockLost (if k.locked then none else some k.state.code) := by
  have decided (u : State) : (u.decideFrame ch).entry ch .genlockLost = u.entry ch .genlockLost :=
    congrArg (fun es : Pair FaultEntries => (es.get ch).get .genlockLost) (u.decideFrame_entries ch)
  unfold State.decideAndEvaluate
  extract_lets first drawn
  rw [← hk]
  have before := drawn.evaluateGenlock_entry ch k hk
  have after := (drawn.decideFrame ch).evaluateGenlock_entry ch k (by rw [State.decideFrame_timing]; exact hk)
  by_cases off : k.state = .off
  · rw [if_pos off, if_pos off]
    exact decided s
  · rw [if_neg off] at before after
    rw [if_neg off, if_neg off]
    split
    · exact (decided _).trans before
    · exact after.trans (drawn.decideFrame_judged ch _ _)

theorem State.valuesInForce_of_table {s t : State} (h : t.table .faultActions = s.table .faultActions) (k : FaultKind) :
    t.valuesInForce k = s.valuesInForce k := by
  have bytes (u : State) : u.tables.faultActions.active.bytes = (u.table .faultActions).active.bytes := rfl
  rw [State.valuesInForce, State.valuesInForce, State.isValid, State.isValid, bytes, bytes, h]

/-- R19: the display-side boundary evaluates TABLE_CORRUPT alone. -/
theorem State.displayBoundary_entry (c : Channel) {k : FaultKind} (hk : k ≠ .tableCorrupt) :
    (s.displayBoundary ch).entry c k = s.entry c k := by
  obtain ⟨g, hg⟩ := s.displayBoundary_frame ch
  have swapped : (s.displayBoundary ch).entry c k = (s.displaySwaps ch).entry c k := by rw [hg]; rfl
  rw [swapped, State.displaySwaps, State.swapIfWaiting_entry _ _ _ hk, State.swapIfWaiting_entry _ _ _ hk,
    State.swapIfWaiting_entry _ _ _ hk, State.swapIfWaiting_entry _ _ _ hk]

/-- R138, R169: opening and timing a frame move nothing that GENLOCK_LOST is judged by but the frame's number. -/
theorem State.timeFrame_judged (o : Option Nat) : (s.timeFrame ch).judged ch .genlockLost o =
    ((s.entry ch .genlockLost).evaluate (s.valuesInForce .genlockLost) o s.counter (s.link.get ch).nextSeq).1 := by
  have entry : (s.timeFrame ch).entry ch .genlockLost = s.entry ch .genlockLost :=
    (s.numberFrame ch).displayBoundary_entry ch ch nofun
  have actions : (s.openFrame ch).table .faultActions = s.table .faultActions :=
    ((s.numberFrame ch).displayBoundary_tablesTaken ch .faultActions).2 (.inl (by simp [displayTables]))
  have values : (s.timeFrame ch).valuesInForce .genlockLost = s.valuesInForce .genlockLost :=
    State.valuesInForce_of_table actions _
  have counter : (s.timeFrame ch).counter = s.counter := (s.openFrame_swapFrame ch).counter
  have number : ((s.timeFrame ch).link.get ch).frameSeq = (s.link.get ch).nextSeq := by
    rw [State.timeFrame, State.setTiming_link, State.openFrame_link, Pair.get_set]
  rw [State.judged, entry, values, counter, number]

theorem State.startFrame_genlock (k : Tracker)
    (hk : k = ((s.timing.get ch).displayStart ((s.startFrame ch).params.get ch) s.counter).tracker) :
    (s.startFrame ch).entry ch .genlockLost = if k.state = .off then s.entry ch .genlockLost
      else ((s.entry ch .genlockLost).evaluate (s.valuesInForce .genlockLost)
        (if k.locked then none else some k.state.code) s.counter (s.link.get ch).nextSeq).1 := by
  obtain ⟨r, items, started⟩ := s.startFrame_started ch
  have timed : k = ((s.timeFrame ch).timing.get ch).tracker := by
    rw [State.timeFrame_timing, Pair.get_set, hk, started.params]
  have entry : (s.timeFrame ch).entry ch .genlockLost = s.entry ch .genlockLost :=
    (s.numberFrame ch).displayBoundary_entry ch ch nofun
  have whole : s.startFrame ch = (s.timeFrame ch).decideAndEvaluate ch := rfl
  rw [whole, State.decideAndEvaluate_genlock _ ch k timed, entry, State.timeFrame_judged]

end

/-- Settles O49: the timing unit by the three cases of `LinkTiming.displayStart`, the entry by `State.startFrame_genlock`. -/
theorem displayFrameStartChoosesPeriod : Obligations.DisplayFrameStartChoosesPeriod := by
  intro s ch g hh hd hg
  subst hg
  obtain ⟨r, items, started⟩ := s.startFrame_started ch
  obtain ⟨p, hp⟩ : ∃ p, p = (s.startFrame ch).params.get ch := ⟨_, rfl⟩
  have timing : (s.startFrame ch).timing.get ch = (s.timing.get ch).displayStart p s.counter := by
    rw [started.timing, Pair.get_set, hp]
  have genlock := s.startFrame_genlock ch _ rfl
  rw [← hp] at genlock
  refine ⟨s.startFrame ch, (s.timing.get ch).displayStart p s.counter, p, exec_displayFrameStart_due s ch hh hd,
    timing.symm, hp, LinkTiming.displayStart_start _ _ _, LinkTiming.displayStart_internal p,
    fun tracked falls flagged => ?_, fun v ahead target tracked falls apart hahead htarget => ?_, fun off => ?_,
    fun on => ?_⟩
  · have one := (LinkTiming.oneEvent_iff _ _).mpr ⟨tracked, falls, flagged⟩
    have reverts := LinkTiming.referenceStart_revertsTo
      { s.timing.get ch with aligned := true, landing := false } p s.counter
    obtain ⟨stands, lost⟩ := reverts
    rw [LinkTiming.displayStart_oneEvent p one]
    dsimp only [LinkTiming.nextStart]
    refine ⟨LinkTiming.referenceStart_tracker _ _ _, ?_, ?_, fun locked => ?_, fun clear => ?_⟩
    · rw [LinkTiming.referenceStart_tracker]
    · rw [LinkTiming.referenceStart_tracker]
      exact Tracker.referenceStart_nextRef p _ _
    · obtain ⟨source, aligned, -⟩ := stands (.inr locked)
      exact ⟨source.trans tracked, aligned⟩
    · obtain ⟨source, aligned, -⟩ := lost tracked clear
      exact ⟨source, aligned⟩
  · have steered : (s.timing.get ch).oneEvent s.counter ≠ true := fun one => by
      obtain ⟨-, now, flagged⟩ := (LinkTiming.oneEvent_iff _ _).mp one
      exact apart ⟨Option.some.inj (falls.symm.trans now), flagged⟩
    have distance : (s.timing.get ch).tracker.targetDistance s.counter = (target : Int) :=
      htarget ▸ Tracker.targetDistance_eq falls hahead
    rw [LinkTiming.displayStart_steers p tracked steered, distance]
    refine ⟨rfl, tracked, rfl, ChannelParams.clampPeriod_eq p _, ?_⟩
    rw [beq_iff_eq, Int.natCast_inj]
  · rw [genlock, if_pos (LinkTiming.displayStart_off off p _)]
  · rw [genlock, if_neg (LinkTiming.displayStart_on p on)]

end Sys2Proof.Machine
end

section
/-! The start of a scrub step at a supervision tick (R25). -/

namespace Sys2Proof.Machine

/-! ## The tables in cyclic order (R2, R25) -/

theorem TableId.number_lt (t : TableId) : t.number < 13 := by
  cases t with
  | faultActions => decide
  | develop ch | defectList ch | warpMesh ch | toneCurves ch | glareResponse ch | overlaySet ch => cases ch <;> decide

theorem tableOfNumber_number (t : TableId) : tableOfNumber t.number = some t := by
  cases t with
  | faultActions => rfl
  | develop ch | defectList ch | warpMesh ch | toneCurves ch | glareResponse ch | overlaySet ch => cases ch <;> rfl

theorem TableId.next_number (t : TableId) : t.next.number = (t.number + 1) % 13 := by
  cases t with
  | faultActions => rfl
  | develop ch | defectList ch | warpMesh ch | toneCurves ch | glareResponse ch | overlaySet ch => cases ch <;> rfl

/-- R25: the tables from a position on are those of the numbers that follow, in cyclic order. -/
theorem tablesFrom_getElem? (n : Nat) (t : TableId) {i : Nat} (hi : i < n) :
    (tablesFrom n t)[i]? = tableOfNumber ((t.number + i) % 13) := by
  induction n generalizing t i with
  | zero => omega
  | succ n ih =>
    cases i with
    | zero =>
      have first : (tablesFrom (n + 1) t)[0]? = some t := rfl
      have number : (t.number + 0) % 13 = t.number := Nat.mod_eq_of_lt t.number_lt
      rw [first, number, tableOfNumber_number]
    | succ i =>
      have later : (tablesFrom (n + 1) t)[i + 1]? = (tablesFrom n t.next)[i]? := rfl
      have number : (t.next.number + i) % 13 = (t.number + (i + 1)) % 13 := by rw [t.next_number]; omega
      rw [later, ih t.next (by omega), number]

theorem tablesFrom_length (n : Nat) (t : TableId) : (tablesFrom n t).length = n := by
  induction n generalizing t with
  | zero => rfl
  | succ n ih => exact congrArg (· + 1) (ih t.next)

/-- R25: the first table of its kind in cyclic order. -/
theorem find_tablesFrom {p : TableId → Bool} {n i : Nat} {t x : TableId} (hi : i < n)
    (hx : tableOfNumber ((t.number + i) % 13) = some x) (hp : p x = true)
    (first : ∀ m y, m < i → tableOfNumber ((t.number + m) % 13) = some y → p y = false) :
    (tablesFrom n t).find? p = some x := by
  obtain ⟨bound, at_i⟩ := List.getElem?_eq_some_iff.mp ((tablesFrom_getElem? n t hi).trans hx)
  refine List.find?_eq_some_iff_getElem.mpr ⟨hp, i, bound, at_i, fun j hj => ?_⟩
  have at_j := tablesFrom_getElem? n t (hj.trans hi)
  rw [List.getElem?_eq_getElem (hj.trans bound)] at at_j
  rw [first j _ hj at_j.symm]
  rfl

/-! ## The scrub step that starts (R25) -/

section

variable {s t : State}

/-- R25: only the scrub position and the scrub step move. -/
theorem State.tickScrub_frame (s : State) : s.tickScrub = s.setTables { s.tables with
    scrubPosition := s.tickScrub.tables.scrubPosition, scrub := s.tickScrub.tables.scrub } := by
  rw [State.tickScrub]
  split
  · rfl
  · split <;> rfl

theorem State.tickScrub_table (s : State) (x : TableId) : s.tickScrub.table x = s.table x := by
  rw [State.tickScrub_frame]
  exact s.tables.get_engine _ _ _ _ x

theorem State.tickScrub_verifyQueue (s : State) : s.tickScrub.tables.verifyQueue = s.tables.verifyQueue := by
  rw [State.tickScrub_frame]
  rfl

theorem State.tickScrub_runs {st : ScrubStep} (h : s.tables.scrub = some st) : s.tickScrub = s := by
  rw [State.tickScrub, h]

theorem State.tickScrub_starts {x : TableId} (h : s.tables.scrub = none)
    (hx : (tablesFrom 13 s.tables.scrubPosition).find? s.isValid = some x) : s.tickScrub.tables = { s.tables with
      scrubPosition := x.next
      scrub := some { table := x, suspended := !s.tables.verifyQueue.isEmpty, reached := 0, acc := .start } } := by
  rw [State.tickScrub, h]
  dsimp only
  rw [hx]
  rfl

theorem State.tickScrub_none_found (h : (tablesFrom 13 s.tables.scrubPosition).find? s.isValid = none) :
    s.tickScrub = s := by
  rw [State.tickScrub]
  split
  · rfl
  · rw [h]

theorem State.tickScrub_none_valid (h : ∀ x, s.isValid x = false) : s.tickScrub = s :=
  State.tickScrub_none_found (List.find?_eq_none.mpr fun x _ => Bool.eq_false_iff.mp (h x))

theorem State.isValid_congr (h : t.tables = s.tables) : t.isValid = s.isValid := by
  funext x
  rw [State.isValid, State.isValid, State.table, State.table, h]

/-- R25: the step that starts depends on the tables alone. -/
theorem State.tickScrub_tables_congr (h : t.tables = s.tables) : t.tickScrub.tables = s.tickScrub.tables := by
  cases hs : s.tables.scrub with
  | some st => rw [State.tickScrub_runs hs, State.tickScrub_runs (h ▸ hs), h]
  | none =>
    have ht : t.tables.scrub = none := h ▸ hs
    cases hx : (tablesFrom 13 s.tables.scrubPosition).find? s.isValid with
    | some x =>
      have same : (tablesFrom 13 t.tables.scrubPosition).find? t.isValid = some x := by
        rw [h, State.isValid_congr h, hx]
      rw [State.tickScrub_starts hs hx, State.tickScrub_starts ht same, h]
    | none =>
      have same : (tablesFrom 13 t.tables.scrubPosition).find? t.isValid = none := by
        rw [h, State.isValid_congr h, hx]
      rw [State.tickScrub_none_found hx, State.tickScrub_none_found same, h]

end

end Sys2Proof.Machine
end

section
/-! The supervision tick at the receivers, the links and the fault entries (R43, R52, R146, R158), and its statement. -/

namespace Sys2Proof.Machine

/-! ## An evaluation for each channel -/

/-- From `s` to `t` one kind has been evaluated for one channel: its entry has taken the judgement of `s`, the view, the
buffers and the tile map have moved only if it came to drive HOLD or FALLBACK, and what the next evaluation reads stands. -/
structure State.Judges (k : FaultKind) (ch : Channel) (o : Option Nat) (s t : State) : Prop where
  entry : t.entry ch k = s.judged ch k o
  entries : ∀ c j, c ≠ ch ∨ j ≠ k → t.entry c j = s.entry c j
  quiet : (∀ a, a ≠ .report → ¬(s.entry ch k).Begins (s.judged ch k o) a) →
    t.view = s.view ∧ t.store = s.store ∧ t.glare = s.glare
  other : ∀ c, c ≠ ch → t.view.get c = s.view.get c ∧ t.store.get c = s.store.get c ∧ t.glare.get c = s.glare.get c
  tables : t.tables = s.tables
  counter : t.counter = s.counter
  number : ∀ c, (t.link.get c).frameSeq = (s.link.get c).frameSeq

/-- From `s` to `t` one kind has been evaluated for both channels. -/
structure State.JudgesBoth (k : FaultKind) (o : Channel → Option Nat) (s t : State) : Prop where
  entry : ∀ ch, t.entry ch k = s.judged ch k (o ch)
  entries : ∀ ch j, j ≠ k → t.entry ch j = s.entry ch j
  quiet : ∀ ch, (∀ a, a ≠ .report → ¬(s.entry ch k).Begins (s.judged ch k (o ch)) a) →
    t.view.get ch = s.view.get ch ∧ t.store.get ch = s.store.get ch ∧ t.glare.get ch = s.glare.get ch
  tables : t.tables = s.tables
  counter : t.counter = s.counter
  number : ∀ c, (t.link.get c).frameSeq = (s.link.get c).frameSeq

section

variable {s t u : State} {k : FaultKind} {ch : Channel}

/-- A judgement reads of the links the number of its channel's frame alone. -/
theorem State.judged_of_number (o : Option Nat) (he : t.entry ch k = s.entry ch k) (ht : t.tables = s.tables)
    (hc : t.counter = s.counter) (hn : (t.link.get ch).frameSeq = (s.link.get ch).frameSeq) :
    t.judged ch k o = s.judged ch k o := by
  rw [State.judged, State.judged, he, hc, hn, State.valuesInForce_congr ht]

/-- R63: an evaluation at which no action but REPORT begins moves no view. -/
theorem State.evaluate_quiet {o : Option Nat}
    (h : ∀ a, a ≠ .report → ¬(s.entry ch k).Begins (s.judged ch k o) a) :
    (s.evaluate ch k o).view = s.view ∧ (s.evaluate ch k o).store = s.store ∧ (s.evaluate ch k o).glare = s.glare := by
  obtain ⟨w, heq, view, store, glare, -⟩ := s.evaluate_eq_tellView ch k o
  have stays : s.evaluate ch k o = w := by
    rw [heq]
    cases ha : beginsToDrive (s.entry ch k) (s.judged ch k o) with
    | none => rfl
    | some a =>
      have begins := (beginsToDrive_eq_some _ _ _).mp ha
      cases a with
      | report => rfl
      | hold => exact absurd begins (h .hold nofun)
      | fallback => exact absurd begins (h .fallback nofun)
  rw [stays]
  exact ⟨view, store, glare⟩

/-- An evaluation made after what only the receivers and the links' own fields have changed. -/
theorem State.Judges.of_evaluate {w : State} {o : Option Nat} (he : w.entries = s.entries) (hv : w.view = s.view)
    (hs : w.store = s.store) (hg : w.glare = s.glare) (ht : w.tables = s.tables) (hc : w.counter = s.counter)
    (hn : ∀ c, (w.link.get c).frameSeq = (s.link.get c).frameSeq) :
    State.Judges k ch o s (w.evaluate ch k o) := by
  have frame := w.evaluate_evalFrame ch k o
  have entry (c : Channel) (j : FaultKind) : w.entry c j = s.entry c j := by rw [State.entry, State.entry, he]
  have judged : w.judged ch k o = s.judged ch k o := State.judged_of_number o (entry ch k) ht hc (hn ch)
  refine ⟨(w.evaluate_entry ch k o).trans judged, fun c j h => ?_, fun h => ?_, fun c h => ?_, frame.tables.trans ht,
    frame.counter.trans hc, fun c => ?_⟩
  · exact (w.evaluate_entry_other ch o h.symm).trans (entry c j)
  · rw [← judged, ← entry] at h
    rw [← hv, ← hs, ← hg]
    exact State.evaluate_quiet h
  · obtain ⟨-, view, store, glare⟩ := frame.other c h
    rw [← hv, ← hs, ← hg]
    exact ⟨view, store, glare⟩
  · rw [frame.link]
    exact hn c

/-- Two evaluations of a kind, the left channel's first. -/
theorem State.Judges.both {o : Channel → Option Nat} (h : State.Judges k .left (o .left) s t)
    (h' : State.Judges k .right (o .right) t u) : State.JudgesBoth k o s u := by
  have judged : t.judged .right k (o .right) = s.judged .right k (o .right) :=
    State.judged_of_number _ (h.entries .right k (.inl nofun)) h.tables h.counter (h.number .right)
  refine ⟨fun ch => ?_, fun ch j hj => ?_, fun ch quiet => ?_, h'.tables.trans h.tables, h'.counter.trans h.counter,
    fun c => (h'.number c).trans (h.number c)⟩
  · cases ch with
    | left => exact (h'.entries .left k (.inl nofun)).trans h.entry
    | right => exact h'.entry.trans judged
  · exact (h'.entries ch j (.inr hj)).trans (h.entries ch j (.inr hj))
  · cases ch with
    | left =>
      obtain ⟨view, store, glare⟩ := h'.other .left nofun
      obtain ⟨view', store', glare'⟩ := h.quiet quiet
      exact ⟨view.trans (by rw [view']), store.trans (by rw [store']), glare.trans (by rw [glare'])⟩
    | right =>
      obtain ⟨view, store, glare⟩ := h.other .right nofun
      rw [← judged, ← h.entries .right k (.inl nofun)] at quiet
      obtain ⟨view', store', glare'⟩ := h'.quiet quiet
      exact ⟨by rw [view', view], by rw [store', store], by rw [glare', glare]⟩

end

/-! ## What each part of a tick does -/

/-- R43: the receiver after a tick has read its start-seen flag. -/
def Receiver.ticked (r : Receiver) : Receiver :=
  { r with startSeen := false, silentTicks := if r.startSeen then r.silentTicks else min 255 (r.silentTicks + 1) }

/-- R43: the outcome of CAM_LOST at a tick. -/
def Receiver.lostOutcome (r : Receiver) : Option Nat :=
  if r.startSeen then none else some (min 255 (r.silentTicks + 1))

/-- R146: the link after a tick has read its status-seen flag. -/
def LinkUnit.ticked (l : LinkUnit) : LinkUnit :=
  { l with statusSeen := false, silentTicks := if l.statusSeen then 0 else min 255 (l.silentTicks + 1) }

/-- R146: the outcome of DISP_SILENT at a tick. -/
def LinkUnit.silentOutcome (l : LinkUnit) : Option Nat :=
  if l.statusSeen then none else some (min 255 (l.silentTicks + 1))

/-- R52: a pass record after a tick. -/
def PassRecord.ticked : PassRecord → PassRecord
  | .idle => .idle
  | .waiting link tag 0 => .waiting link tag 1
  | .waiting _ _ (_ + 1) => .idle

/-- R52: the answer that a tick gives on a link to a pass that has waited its time. -/
def PassRecord.timeoutOn (p : PassRecord) (ch : Channel) : Option Answer :=
  match p with
  | .waiting link tag (_ + 1) =>
    if link = ch then some { tag := tag, kind := 12, result := .timeout, payload := [] } else none
  | .waiting _ _ 0 | .idle => none

/-- From `s` to `t` only what a tick may change has changed. -/
structure State.TickFrame (s t : State) : Prop where
  frame : t = { s with
    receiver := t.receiver, link := t.link, tables := t.tables, entries := t.entries, history := t.history
    historyCount := t.historyCount, view := t.view, store := t.store, glare := t.glare }

theorem State.TickFrame.trans {s t u : State} (h : s.TickFrame t) (k : t.TickFrame u) : s.TickFrame u := by
  obtain ⟨hf⟩ := h
  obtain ⟨kf⟩ := k
  exact ⟨by rw [kf, hf]⟩

theorem State.EvalFrame.tickFrame {ch : Channel} {s t : State} (h : State.EvalFrame ch s t) : s.TickFrame t :=
  ⟨by rw [h.frame]⟩

section

variable (s : State) (ch : Channel)

theorem State.tickCamera_eq : s.tickCamera ch =
    (s.setReceiver ch (s.receiver.get ch).ticked).evaluate ch .camLost (s.receiver.get ch).lostOutcome := by
  cases seen : (s.receiver.get ch).startSeen with
  | true => simp only [State.tickCamera, Receiver.ticked, Receiver.lostOutcome, seen, if_true]
  | false =>
    simp only [State.tickCamera, Receiver.ticked, Receiver.lostOutcome, seen, Bool.false_eq_true, if_false, upTo255]

theorem State.tickDisplay_eq : s.tickDisplay ch =
    (s.setLink ch (s.link.get ch).ticked).evaluate ch .dispSilent (s.link.get ch).silentOutcome := by
  cases seen : (s.link.get ch).statusSeen with
  | true => simp only [State.tickDisplay, LinkUnit.ticked, LinkUnit.silentOutcome, seen, if_true]
  | false =>
    simp only [State.tickDisplay, LinkUnit.ticked, LinkUnit.silentOutcome, seen, Bool.false_eq_true, if_false, upTo255]

theorem State.tickCamera_judges :
    State.Judges .camLost ch (s.receiver.get ch).lostOutcome s (s.tickCamera ch) := by
  rw [State.tickCamera_eq]
  exact .of_evaluate rfl rfl rfl rfl rfl rfl fun _ => rfl

theorem State.tickDisplay_judges :
    State.Judges .dispSilent ch (s.link.get ch).silentOutcome s (s.tickDisplay ch) := by
  rw [State.tickDisplay_eq]
  refine .of_evaluate rfl rfl rfl rfl rfl rfl fun c => ?_
  rw [State.setLink_link, Pair.get_set_eq]
  split
  · subst_vars; rfl
  · rfl

theorem State.tickCamera_receiver :
    (s.tickCamera ch).receiver = s.receiver.set ch (s.receiver.get ch).ticked := by
  rw [State.tickCamera_eq]
  exact (State.evaluate_evalFrame _ ch _ _).receiver

theorem State.tickCamera_link : (s.tickCamera ch).link = s.link := by
  rw [State.tickCamera_eq]
  exact (State.evaluate_evalFrame _ ch _ _).link

theorem State.tickDisplay_receiver : (s.tickDisplay ch).receiver = s.receiver := by
  rw [State.tickDisplay_eq]
  exact (State.evaluate_evalFrame _ ch _ _).receiver

theorem State.tickDisplay_link : (s.tickDisplay ch).link = s.link.set ch (s.link.get ch).ticked := by
  rw [State.tickDisplay_eq]
  exact (State.evaluate_evalFrame _ ch _ _).link

theorem State.tickCamera_tickFrame : s.TickFrame (s.tickCamera ch) := by
  have received : s.TickFrame (s.setReceiver ch (s.receiver.get ch).ticked) := ⟨rfl⟩
  rw [State.tickCamera_eq]
  exact received.trans (State.evaluate_evalFrame _ ch _ _).tickFrame

theorem State.tickDisplay_tickFrame : s.TickFrame (s.tickDisplay ch) := by
  have read : s.TickFrame (s.setLink ch (s.link.get ch).ticked) := ⟨rfl⟩
  rw [State.tickDisplay_eq]
  exact read.trans (State.evaluate_evalFrame _ ch _ _).tickFrame

/-- R52: a tick counts a WAITING pass or ends it. -/
theorem State.tickPass_frame : s.tickPass ch =
    { s with receiver := (s.tickPass ch).receiver, link := (s.tickPass ch).link } := by
  rw [State.tickPass]
  split
  · rfl
  · split
    · rfl
    · exact s.endPass_frame ch _ _

theorem State.tickPass_receiver : (s.tickPass ch).receiver =
    s.receiver.set ch { s.receiver.get ch with pass := (s.receiver.get ch).pass.ticked } := by
  cases hp : (s.receiver.get ch).pass with
  | idle =>
    have stays : s.tickPass ch = s := by rw [State.tickPass, hp]
    rw [stays, PassRecord.ticked, ← hp, Pair.set_get]
  | waiting link tag ticks =>
    cases ticks with
    | zero => rw [State.tickPass, hp]; rfl
    | succ n =>
      have ends : s.tickPass ch = s.endPass ch .timeout [] := by rw [State.tickPass, hp]; rfl
      rw [ends, State.endPass_receiver]
      rfl

theorem State.tickPass_link (c : Channel) : (s.tickPass ch).link.get c = { s.link.get c with
    answers := (s.link.get c).answers ++ ((s.receiver.get ch).pass.timeoutOn c).toList } := by
  cases hp : (s.receiver.get ch).pass with
  | idle =>
    have stays : s.tickPass ch = s := by rw [State.tickPass, hp]
    rw [stays, PassRecord.timeoutOn, Option.toList_none, List.append_nil]
  | waiting link tag ticks =>
    cases ticks with
    | zero =>
      have counts : (s.tickPass ch).link = s.link := by rw [State.tickPass, hp]; rfl
      rw [counts, PassRecord.timeoutOn, Option.toList_none, List.append_nil]
    | succ n =>
      have ends : s.tickPass ch = s.endPass ch .timeout [] := by rw [State.tickPass, hp]; rfl
      rw [ends, State.endPass_of_waiting hp, State.answer, State.setLink_link, Pair.get_set_eq,
        State.setReceiver_link, PassRecord.timeoutOn]
      by_cases hc : c = link
      · subst hc
        rw [if_pos rfl, if_pos rfl, Option.toList_some]
      · rw [if_neg hc, if_neg (Ne.symm hc), Option.toList_none, List.append_nil]

end

/-! ## The whole tick (R158) -/

/-- The same change made to one channel's value and then to the other's. -/
theorem Pair.get_set_both {α : Type} {p q r : Pair α} (f : α → α) (hq : q = p.set .left (f (p.get .left)))
    (hr : r = q.set .right (f (q.get .right))) (c : Channel) : r.get c = f (p.get c) := by
  subst hq hr
  cases c <;> rfl

section

variable (s : State)

/-- R43, R158: the part after a tick's evaluations of CAM_LOST. -/
def State.camerasTicked (s : State) : State :=
  (State.tickCamera { s with lastTick := some s.counter } .left).tickCamera .right

/-- R146, R158: and after those of DISP_SILENT. -/
def State.displaysTicked (s : State) : State := (s.camerasTicked.tickDisplay .left).tickDisplay .right

theorem State.superviseTick_eq :
    s.superviseTick = (s.displaysTicked.tickScrub.tickPass .left).tickPass .right := rfl

theorem State.camerasTicked_receiver (c : Channel) :
    s.camerasTicked.receiver.get c = (s.receiver.get c).ticked :=
  Pair.get_set_both Receiver.ticked (State.tickCamera_receiver _ .left) (State.tickCamera_receiver _ .right) c

theorem State.camerasTicked_link : s.camerasTicked.link = s.link :=
  (State.tickCamera_link _ .right).trans (State.tickCamera_link _ .left)

theorem State.camerasTicked_judges :
    State.JudgesBoth .camLost (fun ch => (s.receiver.get ch).lostOutcome) s s.camerasTicked := by
  have left := State.tickCamera_judges { s with lastTick := some s.counter } .left
  have right := State.tickCamera_judges (State.tickCamera { s with lastTick := some s.counter } .left) .right
  rw [State.tickCamera_receiver, Pair.get_set_other (c := .left) (d := .right) _ _ nofun] at right
  have both := left.both (o := fun ch => (s.receiver.get ch).lostOutcome) right
  exact ⟨both.entry, both.entries, both.quiet, both.tables, both.counter, both.number⟩

theorem State.displaysTicked_receiver : s.displaysTicked.receiver = s.camerasTicked.receiver :=
  (State.tickDisplay_receiver _ .right).trans (State.tickDisplay_receiver _ .left)

theorem State.displaysTicked_link (c : Channel) : s.displaysTicked.link.get c = (s.link.get c).ticked := by
  have links := Pair.get_set_both LinkUnit.ticked (State.tickDisplay_link s.camerasTicked .left)
    (State.tickDisplay_link _ .right) c
  rw [State.camerasTicked_link] at links
  exact links

theorem State.displaysTicked_judges : State.JudgesBoth .dispSilent (fun ch => (s.link.get ch).silentOutcome)
    s.camerasTicked s.displaysTicked := by
  have left := s.camerasTicked.tickDisplay_judges .left
  have right := (s.camerasTicked.tickDisplay .left).tickDisplay_judges .right
  rw [State.tickDisplay_link, Pair.get_set_other (c := .left) (d := .right) _ _ nofun, State.camerasTicked_link] at right
  rw [State.camerasTicked_link] at left
  exact left.both (o := fun ch => (s.link.get ch).silentOutcome) right

theorem State.displaysTicked_tables : s.displaysTicked.tables = s.tables :=
  s.displaysTicked_judges.tables.trans s.camerasTicked_judges.tables

/-- The last parts of a tick touch the tables, the receivers and the links alone. -/
theorem State.superviseTick_last : s.superviseTick = { s.displaysTicked with
    tables := s.superviseTick.tables, receiver := s.superviseTick.receiver, link := s.superviseTick.link } := by
  rw [State.superviseTick_eq, State.tickPass_frame, State.tickPass_frame _ .left, State.tickScrub_frame]
  rfl

theorem State.superviseTick_tickFrame :
    State.TickFrame { s with lastTick := some s.counter } s.superviseTick := by
  have cameras := (State.tickCamera_tickFrame { s with lastTick := some s.counter } .left).trans
    (State.tickCamera_tickFrame _ .right)
  have displays := (s.camerasTicked.tickDisplay_tickFrame .left).trans (State.tickDisplay_tickFrame _ .right)
  have last : s.displaysTicked.TickFrame s.superviseTick := ⟨by rw [State.superviseTick_last]⟩
  exact (cameras.trans displays).trans last

theorem State.superviseTick_tables : s.superviseTick.tables = s.tickScrub.tables := by
  rw [State.superviseTick_eq, State.tickPass_frame, State.tickPass_frame _ .left]
  exact State.tickScrub_tables_congr s.displaysTicked_tables

theorem State.tickScrub_receiver : s.tickScrub.receiver = s.receiver := by rw [State.tickScrub_frame]; rfl
theorem State.tickScrub_link : s.tickScrub.link = s.link := by rw [State.tickScrub_frame]; rfl

theorem State.superviseTick_receiver (c : Channel) : s.superviseTick.receiver.get c =
    { (s.receiver.get c).ticked with pass := (s.receiver.get c).pass.ticked } := by
  have passes := Pair.get_set_both (fun r : Receiver => { r with pass := r.pass.ticked })
    (State.tickPass_receiver s.displaysTicked.tickScrub .left) (State.tickPass_receiver _ .right) c
  rw [State.superviseTick_eq, passes, State.tickScrub_receiver, State.displaysTicked_receiver,
    State.camerasTicked_receiver]
  rfl

theorem State.superviseTick_link (c : Channel) : s.superviseTick.link.get c = { (s.link.get c).ticked with
    answers := (s.link.get c).answers ++
      [Channel.left, Channel.right].filterMap fun d => (s.receiver.get d).pass.timeoutOn c } := by
  have pass (d : Channel) : (s.displaysTicked.tickScrub.receiver.get d).pass = (s.receiver.get d).pass := by
    rw [State.tickScrub_receiver, State.displaysTicked_receiver, State.camerasTicked_receiver]
    rfl
  have right : ((s.displaysTicked.tickScrub.tickPass .left).receiver.get .right).pass = (s.receiver.get .right).pass := by
    rw [State.tickPass_receiver, Pair.get_set_other (c := .left) (d := .right) _ _ nofun, pass]
  have answers (a b : Option Answer) (f : Channel → Option Answer) (ha : f .left = a) (hb : f .right = b) :
      [Channel.left, Channel.right].filterMap f = a.toList ++ b.toList := by
    subst ha hb
    cases hl : f .left <;> cases hr : f .right <;> simp [hl, hr]
  rw [State.superviseTick_eq, State.tickPass_link, right, State.tickPass_link, pass, State.tickScrub_link,
    State.displaysTicked_link, answers _ _ _ rfl rfl, List.append_assoc]
  rfl

theorem State.superviseTick_entry (c : Channel) (j : FaultKind) :
    s.superviseTick.entry c j = s.displaysTicked.entry c j := by
  rw [State.superviseTick_last]
  rfl

theorem State.superviseTick_camLost (c : Channel) :
    s.superviseTick.entry c .camLost = s.judged c .camLost (s.receiver.get c).lostOutcome := by
  rw [State.superviseTick_entry, s.displaysTicked_judges.entries c .camLost nofun]
  exact s.camerasTicked_judges.entry c

/-- R146: DISP_SILENT is judged after CAM_LOST as it would have been before. -/
theorem State.camerasTicked_judged (c : Channel) (o : Option Nat) :
    s.camerasTicked.judged c .dispSilent o = s.judged c .dispSilent o :=
  have cameras := s.camerasTicked_judges
  State.judged_of_number o (cameras.entries c .dispSilent nofun) cameras.tables cameras.counter (cameras.number c)

theorem State.superviseTick_dispSilent (c : Channel) :
    s.superviseTick.entry c .dispSilent = s.judged c .dispSilent (s.link.get c).silentOutcome := by
  rw [State.superviseTick_entry, s.displaysTicked_judges.entry, State.camerasTicked_judged]

theorem State.superviseTick_entry_other (c : Channel) {j : FaultKind} (hc : j ≠ .camLost) (hd : j ≠ .dispSilent) :
    s.superviseTick.entry c j = s.entry c j := by
  rw [State.superviseTick_entry, s.displaysTicked_judges.entries c j hd, s.camerasTicked_judges.entries c j hc]

/-- R63: a view stands at a tick where neither entry begins to drive HOLD or FALLBACK. -/
theorem State.superviseTick_quiet (c : Channel)
    (h : ∀ k a, a ≠ .report → ¬(s.entry c k).Begins (s.superviseTick.entry c k) a) :
    s.superviseTick.view.get c = s.view.get c ∧ s.superviseTick.store.get c = s.store.get c ∧
      s.superviseTick.glare.get c = s.glare.get c := by
  have lost := h .camLost
  have silent := h .dispSilent
  rw [State.superviseTick_camLost] at lost
  rw [State.superviseTick_dispSilent, ← State.camerasTicked_judged,
    ← s.camerasTicked_judges.entries c .dispSilent nofun] at silent
  obtain ⟨view, store, glare⟩ := s.camerasTicked_judges.quiet c lost
  obtain ⟨view', store', glare'⟩ := s.displaysTicked_judges.quiet c silent
  rw [State.superviseTick_last]
  exact ⟨view'.trans view, store'.trans store, glare'.trans glare⟩

end

theorem exec_supervisionTick_due {s : State} (hh : s.held = false) (hd : s.tickDue = true) :
    exec .supervisionTick s = .next s.superviseTick := by
  have arm : exec .supervisionTick s = execSupervisionTick s := rfl
  rw [arm, execSupervisionTick, whenRunning_eq hh, if_pos hd]

/-- Settles O38: the tick by its parts, the scrub step by the tables alone. -/
theorem supervisionTickReachesItsBlocks : Obligations.SupervisionTickReachesItsBlocks := by
  intro s hh hd
  have invalid {x : TableId} (h : (s.table x).active.state ≠ .valid) : s.isValid x = false :=
    Bool.eq_false_iff.mpr (mt (s.isValid_iff x).mp h)
  refine ⟨s.superviseTick, exec_supervisionTick_due hh hd, s.superviseTick_tickFrame.frame, fun x => ?_, ?_,
    fun st hst => ?_, fun n x hnone hn hx hvalid first => ?_, fun hnone => ?_, fun ch =>
    ⟨?_, ?_, s.superviseTick_camLost ch, s.superviseTick_dispSilent ch,
      fun k hc hd => s.superviseTick_entry_other ch hc hd, s.superviseTick_quiet ch, fun hp => ?_,
      fun link tag hp => ?_, fun link tag n hp => ?_⟩⟩
  · rw [State.table, State.superviseTick_tables]
    exact s.tickScrub_table x
  · rw [State.superviseTick_tables, State.tickScrub_verifyQueue]
  · rw [State.superviseTick_tables, State.tickScrub_runs hst]
  · have found : (tablesFrom 13 s.tables.scrubPosition).find? s.isValid = some x :=
      find_tablesFrom hn hx ((s.isValid_iff x).mpr hvalid) fun m y hm hy => invalid (first m y hm hy)
    rw [State.superviseTick_tables, State.tickScrub_starts hnone found]
    exact ⟨rfl, x.next_number⟩
  · rw [State.superviseTick_tables, State.tickScrub_none_valid fun x => invalid (hnone x)]
  · rw [State.superviseTick_receiver]
    rfl
  · rw [State.superviseTick_link]
    rfl
  · rw [State.superviseTick_receiver, hp]
    rfl
  · rw [State.superviseTick_receiver, hp]
    rfl
  · rw [State.superviseTick_receiver, hp]
    rfl

end Sys2Proof.Machine
end

section
/-! How a fault entry takes an evaluation (R176 to R178), and what it leaves of the run, the occurrences and the
history. -/

namespace Sys2Proof.Machine

/-! ## The table of an entry (R177) -/

section

variable (e : FaultEntry) (v : ActionValues) (now : Time) (seq : Seq) (d : Nat)

/-- R176: a clean evaluation moves the state and the run alone, and is no new activation. -/
theorem FaultEntry.evaluate_none : e.evaluate v none now seq =
    ({ e with
      applied := v
      state := ({ e with applied := v } : FaultEntry).clean.1
      run := ({ e with applied := v } : FaultEntry).clean.2 }, false) := rfl

/-- R176: an entry that has taken an observation, before R178 writes a new activation. -/
def FaultEntry.moved (e : FaultEntry) (v : ActionValues) (d : Nat) : FaultEntry :=
  { e with
    applied := v
    detail := some d
    state := ({ e with applied := v } : FaultEntry).observed.1
    run := ({ e with applied := v } : FaultEntry).observed.2.1 }

theorem FaultEntry.evaluate_some : e.evaluate v (some d) now seq =
    if ({ e with applied := v } : FaultEntry).observed.2.2 then ((e.moved v d).activate now seq, true)
    else (e.moved v d, false) := rfl

theorem FaultEntry.evaluate_some_new : (e.evaluate v (some d) now seq).2 =
    ({ e with applied := v } : FaultEntry).observed.2.2 := by
  rw [FaultEntry.evaluate_some]
  split
  · exact Eq.symm ‹_›
  · exact (Bool.eq_false_of_not_eq_true ‹_›).symm

/-- R178: a new activation moves neither the state nor the run, the values or the detail. -/
theorem FaultEntry.evaluate_some_eq : ∃ n f l u, (e.evaluate v (some d) now seq).1 =
    { e.moved v d with occurrences := n, first := f, last := l, unacknowledged := u } := by
  rw [FaultEntry.evaluate_some]
  split <;> exact ⟨_, _, _, _, rfl⟩

/-- R177, Clean evaluation. -/
theorem FaultEntry.clean_eq : ({ e with applied := v } : FaultEntry).clean =
    match e.state with
    | .inactive => (.inactive, 0)
    | .pending => (.inactive, 0)
    | .active => if v.recovery ≤ 1 then (if v.latch then .latched else .inactive, 0) else (.recovering, 1)
    | .recovering =>
      if v.recovery ≤ e.run + 1 then (if v.latch then .latched else .inactive, 0) else (.recovering, e.run + 1)
    | .latched => (.latched, 0) := by
  rcases e with ⟨_ | _ | _ | _ | _⟩ <;> rfl

/-- R177, Observation. -/
theorem FaultEntry.observed_eq : ({ e with applied := v } : FaultEntry).observed =
    match e.state with
    | .inactive => if v.debounce ≤ 1 then (.active, 0, true) else (.pending, 1, false)
    | .pending => if v.debounce ≤ e.run + 1 then (.active, 0, true) else (.pending, e.run + 1, false)
    | .active => (.active, 0, false)
    | .recovering => (.active, 0, false)
    | .latched => (.active, 0, true) := by
  rcases e with ⟨_ | _ | _ | _ | _⟩ <;> rfl

end

/-- Settles O36: the columns of R177 by `FaultEntry.clean_eq` and `FaultEntry.observed_eq`, an activation by R178. -/
theorem entryMovesByItsTable : Obligations.EntryMovesByItsTable := by
  intro e v now seq d
  refine ⟨?clean, ?observation⟩
  case clean =>
    rintro c rfl
    exact ⟨rfl, rfl, rfl, rfl, rfl, e.clean_eq v⟩
  case observation =>
    rintro o rfl
    obtain ⟨n, f, l, u, moved⟩ := e.evaluate_some_eq v now seq d
    refine ⟨by rw [moved]; rfl, by rw [moved]; rfl, ?_, fun hnew => ?_, fun hold => ?_⟩
    · rw [moved, FaultEntry.evaluate_some_new]
      exact e.observed_eq v
    · rw [FaultEntry.evaluate_some_new] at hnew
      rw [FaultEntry.evaluate_some, if_pos hnew]
      exact ⟨rfl, rfl, rfl, rfl⟩
    · rw [FaultEntry.evaluate_some_new] at hold
      rw [FaultEntry.evaluate_some, if_neg (by rw [hold]; exact Bool.false_ne_true)]
      exact ⟨rfl, rfl, rfl, rfl⟩

/-! ## The bounds of an entry (R175) -/

theorem byteAt_le (bytes : List Byte) (i : Nat) : byteAt bytes i ≤ 255 :=
  Nat.le_of_lt_succ (bytes.getD i 0).isLt

/-- R174: a debounce or recovery count in force fits in a byte. -/
theorem State.valuesInForce_counts (s : State) (k : FaultKind) :
    (s.valuesInForce k).debounce ≤ 255 ∧ (s.valuesInForce k).recovery ≤ 255 := by
  rw [State.valuesInForce]
  split
  · exact ⟨byteAt_le _ _, byteAt_le _ _⟩
  · cases k <;> decide

/-- R175, R177: the run that a state may carry: 0 in INACTIVE, ACTIVE and LATCHED, at most 255 in the others. -/
def EntryState.Bounds (state : EntryState) (run : Nat) : Prop :=
  run ≤ 255 ∧ (state = .inactive ∨ state = .active ∨ state = .latched → run = 0)

theorem EntryState.Bounds.zero (x : EntryState) : x.Bounds 0 := ⟨Nat.zero_le 255, fun _ => rfl⟩

/-- R177: a count that goes on stops short of its limit. -/
theorem EntryState.Bounds.of_short {x : EntryState} {n limit : Nat} (hx : x = .pending ∨ x = .recovering)
    (hn : ¬limit ≤ n) (hl : limit ≤ 255) : x.Bounds n := by
  refine ⟨by omega, ?_⟩
  rcases hx with rfl | rfl <;> exact nofun

section

variable (e : FaultEntry) {v : ActionValues}

theorem FaultEntry.sound_iff : e.Sound ↔ e.state.Bounds e.run ∧ e.occurrences ≤ 255 :=
  ⟨fun ⟨run, occurrences, zero⟩ => ⟨⟨run, zero⟩, occurrences⟩,
    fun ⟨⟨run, zero⟩, occurrences⟩ => ⟨run, occurrences, zero⟩⟩

theorem FaultEntry.clean_bounds (hv : v.recovery ≤ 255) :
    EntryState.Bounds ({ e with applied := v } : FaultEntry).clean.1
      ({ e with applied := v } : FaultEntry).clean.2 := by
  rw [FaultEntry.clean_eq]
  split
  case h_1 | h_2 | h_5 => exact .zero _
  case h_3 | h_4 =>
    split
    · exact .zero _
    case isFalse short => exact .of_short (.inr rfl) short hv

theorem FaultEntry.observed_bounds (hv : v.debounce ≤ 255) :
    EntryState.Bounds ({ e with applied := v } : FaultEntry).observed.1
      ({ e with applied := v } : FaultEntry).observed.2.1 := by
  rw [FaultEntry.observed_eq]
  split
  case h_3 | h_4 | h_5 => exact .zero _
  case h_1 | h_2 =>
    split
    · exact .zero _
    case isFalse short => exact .of_short (.inl rfl) short hv

end

section

variable {e : FaultEntry} (h : e.Sound)
include h

/-- R175: the run is bounded whatever the entry was before; the occurrences stay bounded. -/
theorem FaultEntry.Sound.evaluate {v : ActionValues} (hd : v.debounce ≤ 255) (hr : v.recovery ≤ 255)
    (o : Option Nat) (now : Time) (seq : Seq) : (e.evaluate v o now seq).1.Sound := by
  obtain ⟨-, occurrences⟩ := e.sound_iff.mp h
  rw [FaultEntry.sound_iff]
  cases o with
  | none => exact ⟨e.clean_bounds hr, occurrences⟩
  | some d =>
    rw [FaultEntry.evaluate_some]
    split
    · exact ⟨e.observed_bounds hd, min_le_left _ _⟩
    · exact ⟨e.observed_bounds hd, occurrences⟩

theorem FaultEntry.Sound.clearLatched : e.clearLatched.Sound := by
  obtain ⟨-, occurrences⟩ := e.sound_iff.mp h
  rw [FaultEntry.clearLatched]
  split
  · exact (FaultEntry.sound_iff _).mpr ⟨.zero _, occurrences⟩
  · exact h

theorem FaultEntry.Sound.restart : e.restart.Sound :=
  e.restart.sound_iff.mpr ⟨.zero _, (e.sound_iff.mp h).2⟩

theorem FaultEntry.Sound.acknowledge : e.acknowledge.Sound := h

end

/-! ## What the view controller leaves (R63, R65) -/

/-- From `s` to `t` only the views, the buffers and the glare units have changed. -/
structure State.ViewFrame (s t : State) : Prop where
  frame : t = { s with view := t.view, store := t.store, glare := t.glare }

theorem State.ViewFrame.refl (s : State) : s.ViewFrame s := ⟨rfl⟩

section

variable {s t u : State} (h : s.ViewFrame t)
include h

theorem State.ViewFrame.trans (k : t.ViewFrame u) : s.ViewFrame u := by
  obtain ⟨hf⟩ := h
  obtain ⟨kf⟩ := k
  exact ⟨by rw [kf, hf]⟩

theorem State.ViewFrame.entries : t.entries = s.entries := (congrArg State.entries h.frame :)
theorem State.ViewFrame.history : t.history = s.history := (congrArg State.history h.frame :)
theorem State.ViewFrame.historyCount : t.historyCount = s.historyCount := (congrArg State.historyCount h.frame :)

theorem State.ViewFrame.setView {ch : Channel} {x : ViewControl} : s.ViewFrame (t.setView ch x) := h.trans ⟨rfl⟩
theorem State.ViewFrame.setStore {ch : Channel} {x : FrameStore} : s.ViewFrame (t.setStore ch x) := h.trans ⟨rfl⟩
theorem State.ViewFrame.setGlare {ch : Channel} {x : Glare} : s.ViewFrame (t.setGlare ch x) := h.trans ⟨rfl⟩

theorem State.ViewFrame.amendRecord {ch : Channel} {v : ViewState} : s.ViewFrame (t.amendRecord ch v) := by
  rw [State.amendRecord]
  split
  · exact h
  · exact h.setView

theorem State.ViewFrame.enterFallback {ch : Channel} : s.ViewFrame (t.enterFallback ch) :=
  h.setStore.setView.setGlare.amendRecord

theorem State.ViewFrame.onMeshLost {ch : Channel} : s.ViewFrame (t.onMeshLost ch) := by
  rw [State.onMeshLost]
  split
  · exact h.enterFallback
  · exact h

theorem State.ViewFrame.tellView {ch : Channel} {a : Option Action} : s.ViewFrame (t.tellView ch a) := by
  unfold State.tellView
  split
  · rw [State.onDriveHold]
    split
    · exact h.setView
    · exact h
  · rw [State.onDriveFallback]
    split
    · exact h
    · exact h.enterFallback
  · exact h
  · exact h

/-- R62: so does the decision of a frame. -/
theorem State.ViewFrame.decide {ch : Channel} : s.ViewFrame (t.decide ch).1 := by
  simp only [State.decide]
  split
  · split
    · exact h.setStore
    · exact h.setStore
  · split
    · exact h.setView.setStore
    · split
      · exact h.enterFallback
      · exact h.setView.setStore
  · split
    · exact h.setView.setStore
    · exact h
  · split
    · exact h.setView.setStore
    · exact h

end

/-! ## The history (R190) -/

/-- R178, R190: an evaluation writes a record where it is a new activation; the view controller, told of it, leaves the
history. -/
theorem State.evaluate_history (s : State) (ch : Channel) (k : FaultKind) (o : Option Nat) :
    (s.evaluate ch k o).history =
      (if ((s.entry ch k).evaluate (s.valuesInForce k) o s.counter (s.link.get ch).frameSeq).2 then
        ({ kind := k, channel := ch, time := s.counter, seq := (s.link.get ch).frameSeq, detail := o.getD 0 } ::
          s.history).take 32
      else s.history) ∧
    (s.evaluate ch k o).historyCount =
      (if ((s.entry ch k).evaluate (s.valuesInForce k) o s.counter (s.link.get ch).frameSeq).2 then s.historyCount + 1
      else s.historyCount) := by
  simp only [State.evaluate]
  have told (u : State) (a : Option Action) := (State.ViewFrame.refl u).tellView (ch := ch) (a := a)
  rw [(told _ _).history, (told _ _).historyCount]
  split <;> exact ⟨rfl, rfl⟩

end Sys2Proof.Machine
end

section
/-! The fault entries and the history under the effects of the part (R175, R190), and their step lemma. -/

namespace Sys2Proof.Machine

/-! ## What keeps the promise -/

section

variable {s t : State} {ch : Channel} (h : s.FaultsSound)
include h

/-- What touches neither the entries nor the history. -/
theorem State.FaultsSound.same (he : t.entries = s.entries) (hh : t.history = s.history) : t.FaultsSound := by
  obtain ⟨entries, history⟩ := h
  exact ⟨fun c k => by rw [State.entry, he]; exact entries c k, by rw [hh]; exact history⟩

theorem State.FaultsSound.viewFrame (k : s.ViewFrame t) : t.FaultsSound := h.same k.entries k.history

/-- A change of one channel's entries, each kept sound. -/
theorem State.FaultsSound.mapEntries {f : FaultEntry → FaultEntry} (hf : ∀ e : FaultEntry, e.Sound → (f e).Sound)
    (he : t.entries = s.entries.set ch ((s.entries.get ch).map f)) (hh : t.history = s.history) : t.FaultsSound := by
  obtain ⟨entries, history⟩ := h
  refine ⟨fun c k => ?_, by rw [hh]; exact history⟩
  rw [State.entry, he, Pair.get_set_eq]
  split
  · rw [FaultEntries.map_get]
    exact hf _ (entries ch k)
  · exact entries c k

/-- R176, R178, R190: an evaluation keeps its entry sound, and the history takes one record at most
and drops the oldest. -/
theorem State.FaultsSound.evaluate {k : FaultKind} {o : Option Nat} : (s.evaluate ch k o).FaultsSound := by
  obtain ⟨entries, history⟩ := h
  obtain ⟨debounce, recovery⟩ := s.valuesInForce_counts k
  refine ⟨fun c j => ?_, ?_⟩
  · by_cases hj : j = k ∧ c = ch
    · obtain ⟨rfl, rfl⟩ := hj
      rw [State.evaluate_entry]
      exact (entries c j).evaluate debounce recovery o _ _
    · rw [s.evaluate_entry_other ch o (not_and_or.mp hj)]
      exact entries c j
  · rw [(s.evaluate_history ch k o).1]
    split
    · exact List.length_take_le 32 _
    · exact history

theorem State.FaultsSound.evaluateEach {k : FaultKind} {o : Channel → Option Nat} {chs : List Channel} :
    (s.evaluateEach k o chs).FaultsSound :=
  List.foldlRecOn chs _ h fun _ hu _ _ => hu.evaluate

theorem State.FaultsSound.evaluateWhere {k : FaultKind} {due : Option (Option Nat)} :
    (s.evaluateWhere ch k due).FaultsSound := by
  cases due with
  | none => exact h
  | some o => exact h.evaluate

theorem State.FaultsSound.setTables {x : TableStore} : (s.setTables x).FaultsSound := h.same rfl rfl

/-! ## Boundaries -/

theorem State.FaultsSound.swapIfWaiting {x : TableId} : (s.swapIfWaiting x).FaultsSound := by
  rw [State.swapIfWaiting]
  split
  · rw [State.swapIn_eq]
    split
    · rw [State.evaluateTableCorruptFor_eq]
      exact h.setTables.evaluateEach
    · exact h.setTables
  · exact h

theorem State.FaultsSound.applyPending {cls : ParamClass} : (s.applyPending ch cls).FaultsSound := h.same rfl rfl

theorem State.FaultsSound.cameraBoundary : (s.cameraBoundary ch).FaultsSound :=
  h.applyPending.swapIfWaiting.swapIfWaiting

theorem State.FaultsSound.cameraBoundaryIfIdle : (s.cameraBoundaryIfIdle ch).FaultsSound := by
  rw [State.cameraBoundaryIfIdle]
  split
  · exact h
  · exact h.cameraBoundary

theorem State.FaultsSound.setGlare {x : Glare} : (s.setGlare ch x).FaultsSound := h.same rfl rfl

theorem State.FaultsSound.displayBoundary : (s.displayBoundary ch).FaultsSound := by
  have swapped := h.swapIfWaiting (x := .warpMesh ch) |>.swapIfWaiting (x := .toneCurves ch)
    |>.swapIfWaiting (x := .glareResponse ch) |>.swapIfWaiting (x := .overlaySet ch)
    |>.applyPending (ch := ch) (cls := .display)
  simp only [State.displayBoundary]
  split <;> split
  · exact swapped
  · exact swapped.setGlare
  · exact swapped.setGlare
  · exact swapped.setGlare.setGlare

/-! ## The camera receiver -/

theorem State.FaultsSound.setReceiver {x : Receiver} : (s.setReceiver ch x).FaultsSound := h.same rfl rfl
theorem State.FaultsSound.setStore {x : FrameStore} : (s.setStore ch x).FaultsSound := h.same rfl rfl

theorem State.FaultsSound.malformed {d : Nat} {a : Assembly} : (s.malformed ch d a).FaultsSound :=
  h.evaluate.setStore.setReceiver.cameraBoundary

theorem State.FaultsSound.countChecked {v : Option Nat × Option (Option Nat) × Bool} :
    (s.countChecked ch v).FaultsSound := by
  simp only [State.countChecked]
  split
  · exact h.evaluate.evaluate
  · exact h.evaluate

theorem State.FaultsSound.goodFrame {f : FrameFacts} {counter : BitVec 16} {status : Byte} :
    (s.goodFrame ch f counter status).FaultsSound := by
  have completed : (s.completed ch f).FaultsSound := h.evaluate.setStore
  have checked : (s.goodChecked ch f counter status).FaultsSound := completed.countChecked.setReceiver.evaluate
  rw [State.goodFrame_eq]
  exact checked.setStore.setReceiver.cameraBoundary

theorem State.FaultsSound.takeFrameStart : (s.takeFrameStart ch).FaultsSound := by
  rw [State.takeFrameStart]
  split
  · exact h.malformed.setStore.setReceiver
  · exact h.setStore.setReceiver

theorem State.FaultsSound.takeEmbedded {f : Option (BitVec 16 × Byte)} : (s.takeEmbedded ch f).FaultsSound := by
  unfold State.takeEmbedded
  split
  case h_1 => exact h.setReceiver
  case h_5 | h_6 => exact h
  all_goals exact h.malformed

theorem State.FaultsSound.takeLine {f : Option (Nat × List Nat)} : (s.takeLine ch f).FaultsSound := by
  unfold State.takeLine
  split
  case h_4 =>
    split
    · exact h.malformed
    · exact h.setStore.setReceiver
  case h_5 | h_6 => exact h
  all_goals exact h.malformed

theorem State.FaultsSound.frameEndTime : (s.frameEndTime ch).FaultsSound := by
  rw [State.frameEndTime]
  split
  · exact h
  · exact h.same rfl rfl

theorem State.FaultsSound.takeFrameEnd {f : Option Nat} : (s.takeFrameEnd ch f).FaultsSound := by
  unfold State.takeFrameEnd
  split
  case h_4 =>
    split
    · exact h.frameEndTime.goodFrame
    · exact h.frameEndTime.malformed
  case h_5 => exact h.frameEndTime.setReceiver
  case h_6 => exact h
  all_goals exact h.frameEndTime.malformed

theorem State.FaultsSound.endPass {x : Result} {p : List Byte} : (s.endPass ch x p).FaultsSound :=
  h.same (s.endPass_entries ch x p) (congrArg State.history (s.endPass_channelFrame ch x p).frame :)

/-! ## The links and the requests -/

theorem State.FaultsSound.setLink {x : LinkUnit} : (s.setLink ch x).FaultsSound := h.same rfl rfl

theorem State.FaultsSound.takeStatus {lux : BitVec 16} {fault : Bool} : (s.takeStatus ch lux fault).FaultsSound := by
  have reported : (s.reported ch lux fault).FaultsSound := h.setLink.setGlare
  rw [State.takeStatus_eq]
  exact reported.evaluate

theorem State.FaultsSound.takeSignature {q : Seq} {v : Check} : (s.takeSignature ch q v).FaultsSound := by
  rw [State.takeSignature]
  split
  · exact h.evaluate
  · exact h.setLink.evaluate

theorem State.FaultsSound.acceptRequest {r : Request} : (s.acceptRequest r).FaultsSound := by
  rw [State.acceptRequest]
  split
  · exact h.setLink
  · exact h.setLink

theorem State.FaultsSound.serve : (s.serve ch).FaultsSound := by
  rw [State.serve]
  split
  · exact h
  · exact h.same rfl rfl

theorem State.FaultsSound.setTickSchedule {x : PartParams} : (s.setTickSchedule x).FaultsSound := by
  rw [State.setTickSchedule]
  split
  · exact h
  · exact h.same rfl rfl

theorem State.FaultsSound.putPartWide {p : Param} {v : List Nat} : (s.putPartWide ch p v).FaultsSound := by
  unfold State.putPartWide
  split
  · exact h.setTickSchedule
  · exact h.setTickSchedule
  · exact h.same rfl rfl
  · exact h.same rfl rfl

theorem State.FaultsSound.stageValue {p : Param} {v : List Nat} : (s.stageValue ch p v).FaultsSound := by
  have waits : (s.setPending ch (addPending (s.pendingParams.get ch) p v)).FaultsSound := h.same rfl rfl
  rw [State.stageValue]
  split
  · exact h.putPartWide
  · exact waits.cameraBoundaryIfIdle
  · exact waits

/-- R185: FAULT-CLEAR of a channel. -/
theorem State.FaultsSound.clearChannel : (s.clearChannel ch).FaultsSound :=
  h.mapEntries (fun _ he => he.clearLatched) rfl rfl

/-- R188: FAULT-ACK. -/
theorem State.FaultsSound.acknowledge :
    ((s.setEntries .left (s.entries.left.map FaultEntry.acknowledge)).setEntries .right
      (s.entries.right.map FaultEntry.acknowledge)).FaultsSound := by
  have left : (s.setEntries .left (s.entries.left.map FaultEntry.acknowledge)).FaultsSound :=
    h.mapEntries (ch := .left) (fun _ he => he.acknowledge) rfl rfl
  exact left.mapEntries (ch := .right) (fun _ he => he.acknowledge) rfl rfl

/-- R193: VIEW-RESTART. -/
theorem State.FaultsSound.restart : (s.restart ch).FaultsSound := by
  have received : (s.restartReceiver ch).FaultsSound := h.setReceiver.cameraBoundary
  exact received.mapEntries (fun _ he => he.restart) (s.restart_entries ch) (s.restart_history ch)

/-! ## The tables -/

theorem State.FaultsSound.leaveQueue {x : TableId} : (s.leaveQueue x).FaultsSound := by
  rw [State.leaveQueue_eq]
  exact h.setTables

theorem State.FaultsSound.swapAtVerifyEnd {x : TableId} : (s.swapAtVerifyEnd x).FaultsSound := by
  cases x with
  | faultActions => exact h.swapIfWaiting
  | develop | defectList => exact h.cameraBoundaryIfIdle
  | warpMesh | toneCurves | glareResponse | overlaySet => exact h

theorem State.FaultsSound.endVerify {x : TableId} {load : Load} {supplied : Check} {tag : Byte} :
    (s.endVerify x load supplied tag).FaultsSound := by
  have verified : (s.verified x load supplied tag).FaultsSound := h.setLink.setTables
  rw [State.endVerify_eq]
  split
  · exact verified.swapAtVerifyEnd.leaveQueue
  · exact verified.leaveQueue

theorem State.FaultsSound.tellMeshLost {x : TableId} : (s.tellMeshLost x).FaultsSound := by
  cases x with
  | warpMesh => exact h.viewFrame (State.ViewFrame.refl s).onMeshLost
  | develop | defectList | toneCurves | glareResponse | overlaySet | faultActions => exact h

theorem State.FaultsSound.endScrub {st : ScrubStep} : (s.endScrub st).FaultsSound := by
  have done : s.scrubDone.FaultsSound := h.setTables
  by_cases hm : st.finish (s.table st.table) = (s.table st.table).active.checksum
  · rw [State.endScrub_of_match hm]
    exact done.evaluateEach
  · rw [State.endScrub_of_mismatch hm]
    exact done.setTables.evaluateEach.tellMeshLost

/-! ## The supervision tick (R158) -/

theorem State.FaultsSound.tickCamera : (s.tickCamera ch).FaultsSound := by
  simp only [State.tickCamera]
  split
  · exact h.setReceiver.evaluate
  · exact h.setReceiver.evaluate

theorem State.FaultsSound.tickDisplay : (s.tickDisplay ch).FaultsSound := by
  simp only [State.tickDisplay]
  split
  · exact h.setLink.evaluate
  · exact h.setLink.evaluate

theorem State.FaultsSound.tickScrub : s.tickScrub.FaultsSound := by
  rw [State.tickScrub]
  split
  · exact h
  · split
    · exact h
    · exact h.setTables

theorem State.FaultsSound.tickPass : (s.tickPass ch).FaultsSound := by
  rw [State.tickPass]
  split
  · exact h
  · split
    · exact h.setReceiver
    · exact h.endPass

theorem State.FaultsSound.superviseTick : s.superviseTick.FaultsSound := by
  have begun : State.FaultsSound { s with lastTick := some s.counter } := h.same rfl rfl
  exact begun.tickCamera.tickCamera.tickDisplay.tickDisplay.tickScrub.tickPass.tickPass

/-! ## The display frame -/

theorem State.FaultsSound.beginLines : (s.beginLines ch).FaultsSound := by
  simp only [State.beginLines]
  split
  · exact h
  · split
    · exact h.setLink.setGlare
    · exact h.setLink

theorem State.FaultsSound.decideFrame : (s.decideFrame ch).FaultsSound := by
  have filled : ((s.decide ch).1.fillRecord ch (s.decide ch).2).FaultsSound :=
    h.viewFrame (State.ViewFrame.refl s).decide.setView
  exact filled.beginLines

theorem State.FaultsSound.evaluateGenlock : (s.evaluateGenlock ch).FaultsSound := by
  simp only [State.evaluateGenlock]
  split
  · exact h
  · exact h.evaluate

theorem State.FaultsSound.endLine : (s.endLine ch).FaultsSound := h.setLink.setStore

theorem State.FaultsSound.startFrame : (s.startFrame ch).FaultsSound := by
  unfold State.startFrame State.decideAndEvaluate
  extract_lets opened timed first drawn
  have opens : opened.FaultsSound := h.endLine.setLink.displayBoundary
  have begun : timed.FaultsSound := opens.same rfl rfl
  have counted : drawn.FaultsSound := begun.same rfl rfl
  split
  · exact begun.decideFrame
  · split
    · exact counted.evaluateGenlock.decideFrame
    · exact counted.decideFrame.evaluateGenlock

theorem State.FaultsSound.startLine : (s.startLine ch).FaultsSound := by
  simp only [State.startLine]
  split
  · exact h
  · exact h.same rfl rfl

theorem State.FaultsSound.endFrame : (s.endFrame ch).FaultsSound := by
  cases hr : (s.view.get ch).record with
  | none =>
    rw [State.endFrame, hr]
    exact h
  | some r =>
    have closed : (s.closeLines ch r).FaultsSound := h.setGlare.setLink
    rw [s.endFrame_eq ch r hr, State.evaluateFrameEnd_eq]
    exact closed.evaluateWhere.evaluateWhere.evaluateWhere

theorem State.FaultsSound.sendHeader : (s.sendHeader ch).FaultsSound := by
  rw [State.sendHeader]
  split
  · exact h
  · exact h.same rfl rfl

theorem State.FaultsSound.sendAnswer {n : Nat} {b : Bool} : (s.sendAnswer ch n b).FaultsSound := by
  simp only [State.sendAnswer]
  split
  · exact h
  · exact h.same rfl rfl

end

/-! ## The step lemma (R175, R190) -/

theorem State.FaultsSound.of_reset {s : State} (he : s.entries = State.reset.entries)
    (hh : s.history = State.reset.history) : s.FaultsSound := faultsSound_reset.same he hh

/-- R175, R190: every effect of the part keeps the entries sound and the history short. -/
theorem faultsSound_kept : State.Kept State.FaultsSound where
  frameStart _ _ h := h.takeFrameStart
  embedded _ _ _ h := h.takeEmbedded
  line _ _ _ h := h.takeLine
  frameEnd _ _ _ h := h.takeFrameEnd
  endPass _ _ _ _ h := h.endPass
  status _ _ _ _ h := h.takeStatus
  signature _ _ _ _ h := h.takeSignature
  accept _ _ h := h.acceptRequest
  discard _ _ h := h.setLink
  serve _ _ h _ := h.serve
  finish _ _ _ _ h _ := h.same rfl rfl
  stage _ _ _ _ h _ _ := h.stageValue
  setStaged _ _ _ h _ _ := h.setTables
  loadData _ _ _ _ h _ _ _ := h.setTables
  commit _ _ _ _ h _ _ _ := h.same rfl rfl
  abandonVerify _ _ _ _ _ h _ := h.setLink.setTables.leaveQueue
  abandon _ _ h _ := h.setTables
  lock _ _ _ h := h.setTables
  acknowledge _ h := h.acknowledge
  clear _ _ h := h.clearChannel
  restart _ _ h := h.restart
  trackerOff _ _ h _ := h.same rfl rfl
  trackerOn _ _ h := h.same rfl rfl
  bandwidth _ _ _ h := h.same rfl rfl
  selectTracked _ _ h _ := h.same rfl rfl
  selectInternal _ _ h := h.same rfl rfl
  sendPass _ _ _ h _ _ := h.same rfl rfl
  writeCoverage _ _ _ h _ _ _ := h.same rfl rfl
  fixCoverage _ _ _ h _ := h.same rfl rfl
  requestReset _ _ h := h.setLink
  tick _ h := h.superviseTick
  verifyStart _ _ _ h _ _ := h.setTables
  verifyEnd _ _ _ _ _ h _ _ := h.endVerify
  scrubEnd _ _ h _ := h.endScrub
  startFrame _ _ h := h.startFrame
  holdLimit s _ h := h.viewFrame (State.ViewFrame.refl s).enterFallback
  startLine _ _ h := h.startLine
  endLine _ _ h := h.endLine
  endFrame _ _ h := h.endFrame
  header _ _ h := h.sendHeader
  sendAnswer _ _ _ _ h := h.sendAnswer
  areaEnd _ _ h := h.setLink
  referenceStart _ _ h := h.same rfl rfl
  holdover _ _ h := h.same rfl rfl
  manageReset _ _ := .of_reset rfl rfl
  queue _ _ _ h := h.same rfl rfl
  passTime _ h := h.same rfl rfl
  beginReset _ _ _ := .of_reset rfl rfl
  completeReset _ _ _ _ := .of_reset rfl rfl
  hold _ _ h := h.same rfl rfl

/-- Settles O59: by the induction over the effects of the part. -/
theorem stepKeepsFaultEntriesSound : Obligations.StepKeepsFaultEntriesSound :=
  fun _ _ h hs => faultsSound_kept.step h hs

end Sys2Proof.Machine
end

section
/-! The requests FAULT-ACK and FAULT-CLEAR (R185, R188), and how far an evaluation reaches (R174, R182, R187). -/

namespace Sys2Proof.Machine

/-! ## FAULT-ACK (R188) -/

section

variable (s : State)

/-- R188: the part with every mark of both channels cleared. -/
def State.acknowledged (s : State) : State :=
  (s.setEntries .left (s.entries.left.map FaultEntry.acknowledge)).setEntries .right
    (s.entries.right.map FaultEntry.acknowledge)

theorem State.acknowledgeFaults_eq (r : Request) : s.acknowledgeFaults r = s.acknowledged.answered r .ok (toLe 1
    (s.entries.left.count FaultEntry.unacknowledged + s.entries.right.count FaultEntry.unacknowledged)) := rfl

theorem State.acknowledged_entry (ch : Channel) (k : FaultKind) :
    s.acknowledged.entry ch k = { s.entry ch k with unacknowledged := false } := by
  cases ch <;> exact FaultEntries.map_get FaultEntry.acknowledge _ k

/-- R187: with no mark left FAULT_N is released. -/
theorem State.acknowledged_faultN : s.acknowledged.faultN = false := by
  refine Bool.eq_false_of_not_eq_true fun asserted => ?_
  obtain ⟨ch, k, marked⟩ := s.acknowledged.faultN_iff.mp asserted
  rw [State.acknowledged_entry] at marked
  cases marked

/-! ## FAULT-CLEAR (R185) -/

theorem FaultEntry.clearLatched_of_latched {e : FaultEntry} (h : e.state = .latched) :
    e.clearLatched = { e with state := .inactive, run := 0 } := if_pos (beq_iff_eq.mpr h)

theorem FaultEntry.clearLatched_of_ne {e : FaultEntry} (h : e.state ≠ .latched) : e.clearLatched = e :=
  if_neg (mt beq_iff_eq.mp h)

theorem FaultEntry.clearLatched_unacknowledged (e : FaultEntry) : e.clearLatched.unacknowledged = e.unacknowledged := by
  rw [FaultEntry.clearLatched]
  split <;> rfl

/-- R185: an entry cleared is not LATCHED, so that a second clear leaves it. -/
theorem FaultEntry.clearLatched_idem (e : FaultEntry) : e.clearLatched.clearLatched = e.clearLatched := by
  by_cases h : e.state = .latched
  · exact FaultEntry.clearLatched_of_ne (by rw [FaultEntry.clearLatched_of_latched h]; exact nofun)
  · rw [FaultEntry.clearLatched_of_ne h, FaultEntry.clearLatched_of_ne h]

theorem State.clearChannel_entry (c ch : Channel) (k : FaultKind) :
    (s.clearChannel c).entry ch k = if ch = c then (s.entry ch k).clearLatched else s.entry ch k := by
  rw [State.entry, State.clearChannel, State.setEntries_entries, Pair.get_set_eq]
  split
  · subst_vars
    exact FaultEntries.map_get _ _ k
  · rfl

variable (chs : List Channel)

theorem State.clearFaults_eq (r : Request) : s.clearFaults r chs = (chs.foldl State.clearChannel s).answered r .ok
    (toLe 1 ((chs.map fun ch => (s.entries.get ch).count FaultEntry.isLatched).sum)) := rfl

theorem State.clearChannels_frame :
    chs.foldl State.clearChannel s = { s with entries := (chs.foldl State.clearChannel s).entries } :=
  List.foldlRecOn (motive := fun u : State => u = { s with entries := u.entries }) chs State.clearChannel rfl
    fun u hu ch _ => congrArg (fun w : State => { w with entries := (u.clearChannel ch).entries }) hu

theorem State.clearChannels_entry (ch : Channel) (k : FaultKind) : (chs.foldl State.clearChannel s).entry ch k =
    if ch ∈ chs then (s.entry ch k).clearLatched else s.entry ch k := by
  induction chs generalizing s with
  | nil => rfl
  | cons c cs ih =>
    rw [List.foldl_cons, ih, State.clearChannel_entry]
    by_cases hc : ch = c
    · simp [hc, FaultEntry.clearLatched_idem]
    · simp [hc]

/-- R187: FAULT-CLEAR keeps every mark, and so FAULT_N. -/
theorem State.clearChannels_faultN : (chs.foldl State.clearChannel s).faultN = s.faultN := by
  have marks (ch : Channel) (k : FaultKind) :
      ((chs.foldl State.clearChannel s).entry ch k).unacknowledged = (s.entry ch k).unacknowledged := by
    rw [State.clearChannels_entry]
    split
    · exact FaultEntry.clearLatched_unacknowledged _
    · rfl
  rw [Bool.eq_iff_iff, State.faultN_iff, State.faultN_iff]
  simp only [marks]

end

theorem channelsNamed_eq_none {code : Byte} (h : 3 ≤ code.toNat) : channelsNamed code = none := by
  unfold channelsNamed
  split
  case h_4 => rfl
  all_goals omega

/-- Settles O27: each request answers on the part with its marks, or its LATCHED entries, cleared. -/
theorem ackClearsMarksAndClearUnlatches : Obligations.AckClearsMarksAndClearUnlatches := by
  intro s r hs hp
  have fits : r.payload.length = 0 := by rw [hp]; rfl
  refine ⟨fun hk => ⟨s.acknowledged, ?_, rfl, s.acknowledged_faultN, s.acknowledged_entry⟩,
    fun chs hk hchs => ⟨chs.foldl State.clearChannel s, ?_, s.clearChannels_frame chs, s.clearChannels_faultN chs,
      fun ch k => ⟨fun hmem hl => ?_, fun hno => ?_⟩⟩, fun hk hc => ?_⟩
  · exact (exec_faultAck s).trans (whenExecuting_of hs (Request.isKind_of hk)
      ((State.withLength_eq fits).trans (s.acknowledgeFaults_eq r)))
  · refine (exec_faultClear s).trans (whenExecuting_of hs (Request.isKind_of hk) ?_)
    simp only [hchs]
    exact (State.withLength_eq fits).trans (s.clearFaults_eq chs r)
  · rw [State.clearChannels_entry, if_pos hmem, FaultEntry.clearLatched_of_latched hl]
  · rw [State.clearChannels_entry]
    split
    case isTrue hmem => exact FaultEntry.clearLatched_of_ne (hno.resolve_left fun hn => hn hmem)
    case isFalse => rfl
  · refine (exec_faultClear s).trans (whenExecuting_of hs (Request.isKind_of hk) ?_)
    simp only [channelsNamed_eq_none hc]
    exact s.refuse_eq_answered r .range

/-! ## The action values in force (R174) -/

section

variable (bytes : List Byte) (i : Nat)

/-- R9: the three action codes are read as they are written; assumption 36 is about the others. -/
theorem actionItem_action (h : byteAt bytes (5 * i) ≤ 2) : (actionItem bytes i).action.code = byteAt bytes (5 * i) := by
  rw [actionItem]
  obtain h | h | h : byteAt bytes (5 * i) = 0 ∨ byteAt bytes (5 * i) = 1 ∨ byteAt bytes (5 * i) = 2 := by omega
  all_goals
    rw [h]
    rfl

theorem toNat_beq_one {n : Nat} (h : n ≤ 1) : (n == 1).toNat = n := by
  obtain rfl | rfl : n = 0 ∨ n = 1 := by omega
  all_goals rfl

end

section

variable (s : State) (k : FaultKind)

theorem State.valuesInForce_of_valid (h : (s.table .faultActions).active.state = .valid) :
    s.valuesInForce k = actionItem (s.table .faultActions).active.bytes (k.number - 1) :=
  if_pos ((s.isValid_iff .faultActions).mpr h)

theorem State.valuesInForce_of_ne (h : (s.table .faultActions).active.state ≠ .valid) : s.valuesInForce k = k.builtIn :=
  if_neg (mt (s.isValid_iff .faultActions).mp h)

/-! ## What the views make of an evaluation (R63, R65, R66) -/

variable (ch : Channel) (o : Option Nat)

/-- R63, R65: the entry begins to drive FALLBACK, and the view enters it. -/
theorem State.evaluate_fellBack (hb : (s.entry ch k).Begins (s.judged ch k o) .fallback)
    (hv : (s.view.get ch).state ≠ .fallback) : State.FellBack ch s (s.evaluate ch k o) := by
  obtain ⟨w, heq, view, store, -, link⟩ := s.evaluate_eq_tellView ch k o
  rw [heq, (beginsToDrive_eq_some _ _ _).mpr hb, State.tellView_fallback (by rw [view]; exact hv)]
  exact State.enterFallback_fellBack (by rw [store]) link (by rw [view])

/-- R63: the entry begins to drive HOLD, and a LIVE view goes there. -/
theorem State.evaluate_held (hb : (s.entry ch k).Begins (s.judged ch k o) .hold)
    (hv : (s.view.get ch).state = .live) :
    (s.evaluate ch k o).view.get ch = { s.view.get ch with state := .hold, holdTimer := 0 } ∧
      (s.evaluate ch k o).store = s.store ∧ (s.evaluate ch k o).glare = s.glare := by
  obtain ⟨w, heq, view, store, glare, -⟩ := s.evaluate_eq_tellView ch k o
  have held : w.tellView ch (some .hold) = w.setViewState ch .hold 0 := if_pos (by rw [view]; exact hv)
  rw [heq, (beginsToDrive_eq_some _ _ _).mpr hb, held, ← view]
  exact ⟨Pair.get_set _ ch _, store, glare⟩

/-- R63, R66: a view that no action concerns stands. -/
theorem State.evaluate_stays
    (hf : ¬(s.entry ch k).Begins (s.judged ch k o) .fallback ∨ (s.view.get ch).state = .fallback)
    (hh : ¬(s.entry ch k).Begins (s.judged ch k o) .hold ∨ (s.view.get ch).state ≠ .live) :
    (s.evaluate ch k o).view = s.view ∧ (s.evaluate ch k o).store = s.store ∧ (s.evaluate ch k o).glare = s.glare := by
  obtain ⟨w, heq, view, store, glare, -⟩ := s.evaluate_eq_tellView ch k o
  have stays : s.evaluate ch k o = w := by
    rw [heq]
    cases ha : beginsToDrive (s.entry ch k) (s.judged ch k o) with
    | none => rfl
    | some a =>
      have begins := (beginsToDrive_eq_some _ _ _).mp ha
      cases a with
      | report => rfl
      | hold => exact if_neg (by rw [view]; exact hh.resolve_left fun h => h begins)
      | fallback => exact if_pos (by rw [view]; exact hf.resolve_left fun h => h begins)
  rw [stays]
  exact ⟨view, store, glare⟩

end

/-- Settles O37: the values in force, FAULT_N by its marks, and an evaluation by its entry, its view and its record. -/
theorem evaluationReachesViewAndHistory : Obligations.EvaluationReachesViewAndHistory := by
  refine ⟨?values, rfl, State.faultN_iff, ?evaluation⟩
  case values =>
    rintro s k bank o rfl rfl
    refine ⟨s.valuesInForce_of_ne k, fun valid => ?_⟩
    rw [s.valuesInForce_of_valid k valid]
    exact ⟨actionItem_action _ _, rfl, rfl, toNat_beq_one, toNat_beq_one⟩
  case evaluation =>
    rintro s t ch k outcome after new rfl hjudged
    obtain ⟨rfl, hnew⟩ : after = s.judged ch k outcome ∧
        new = ((s.entry ch k).evaluate (s.valuesInForce k) outcome s.counter (s.link.get ch).frameSeq).2 :=
      Prod.mk.inj hjudged
    obtain ⟨history, count⟩ := s.evaluate_history ch k outcome
    rw [← hnew] at history count
    have frame := s.evaluate_evalFrame ch k outcome
    refine ⟨s.evaluate_entry ch k outcome, fun c j hcj => ?_, s.evaluate_fellBack k ch outcome,
      s.evaluate_held k ch outcome, s.evaluate_stays k ch outcome, ?_, ?_, fun c hc => (frame.other c hc).2,
      frame.frame⟩
    · exact s.evaluate_entry_other ch outcome (not_and_or.mp fun ⟨hj, hc⟩ => hcj (by rw [hj, hc]))
    · rintro rfl
      exact ⟨history, count⟩
    · rintro rfl
      exact ⟨history, count⟩

end Sys2Proof.Machine
end

section
/-! The values a SET takes (R203, R204), and what the effects of the part make of the reset conditions (R207) and of the
Parameter Set (R204, R205). -/

namespace Sys2Proof.Machine

/-! ## Legal values (R204, R206) -/

/-- R206: each range runs upward, and its ends are multiples of the parameter's step. -/
theorem Param.ranges_on_step (p : Param) : ∀ q ∈ p.ranges, q.1 ≤ q.2 ∧ q.1 % p.step = 0 := by
  cases p <;> decide

theorem Param.legal_iff {p : Param} {v : List Nat} : p.Legal v ↔ v.length = p.ranges.length ∧
    ∀ (i lo hi x : Nat), p.ranges[i]? = some (lo, hi) → v[i]? = some x → lo ≤ x ∧ x ≤ hi ∧ x % p.step = 0 := by
  refine and_congr_right fun _ => ⟨fun h i lo hi x hr hx => ?_, fun h q hq => ?_⟩
  · exact h (x, lo, hi) (List.mem_iff_getElem?.mpr ⟨i, List.getElem?_zip_eq_some.mpr ⟨hx, hr⟩⟩)
  · obtain ⟨i, hi⟩ := List.mem_iff_getElem?.mp hq
    obtain ⟨hx, hr⟩ := List.getElem?_zip_eq_some.mp hi
    exact h i _ _ _ hr hx

theorem Param.taken_length {p : Param} {v : List Nat} (h : v.length = p.ranges.length) :
    (p.taken v).length = p.ranges.length := by
  rw [Param.taken, List.length_map, List.length_zip, h, Nat.min_self]

theorem Param.taken_getElem? {p : Param} {v : List Nat} {i lo hi x : Nat} (hr : p.ranges[i]? = some (lo, hi))
    (hx : v[i]? = some x) : (p.taken v)[i]? = some (clampNat x lo hi / p.step * p.step) := by
  rw [Param.taken, List.getElem?_map, List.getElem?_zip_eq_some (z := (x, lo, hi)) |>.mpr ⟨hx, hr⟩]
  rfl

theorem clampNat_between {lo hi : Nat} (h : lo ≤ hi) (a : Nat) : lo ≤ clampNat a lo hi ∧ clampNat a lo hi ≤ hi := by
  unfold clampNat
  split
  · omega
  · split <;> omega

theorem clampNat_eq_self {a lo hi : Nat} (hl : lo ≤ a) (hh : a ≤ hi) : clampNat a lo hi = a := by
  rw [clampNat, if_neg (Nat.not_lt.mpr hl), if_neg (Nat.not_lt.mpr hh)]

/-- Rounding down to a step does not pass below a multiple of it. -/
theorem le_round_down {lo a step : Nat} (h : lo ≤ a) (hs : lo % step = 0) : lo ≤ a / step * step :=
  calc lo = lo / step * step := (Nat.div_mul_cancel (Nat.dvd_of_mod_eq_zero hs)).symm
    _ ≤ a / step * step := Nat.mul_le_mul_right _ (Nat.div_le_div_right h)

/-- R204: what is taken is legal, whatever was written. -/
theorem Param.legal_taken {p : Param} {v : List Nat} (h : v.length = p.ranges.length) : p.Legal (p.taken v) := by
  refine Param.legal_iff.mpr ⟨Param.taken_length h, fun i lo hi y hr hy => ?_⟩
  obtain ⟨inRange, -⟩ := List.getElem?_eq_some_iff.mp hr
  obtain ⟨upward, onStep⟩ := p.ranges_on_step (lo, hi) (List.mem_of_getElem? hr)
  rw [Param.taken_getElem? hr (List.getElem?_eq_getElem (h ▸ inRange)), Option.some.injEq] at hy
  subst hy
  obtain ⟨low, high⟩ := clampNat_between upward v[i]
  exact ⟨le_round_down low onStep, (Nat.div_mul_le_self _ _).trans high, Nat.mul_mod_left _ _⟩

/-- R204: a legal value is taken as it is. -/
theorem Param.taken_eq_self {p : Param} {v : List Nat} (h : p.Legal v) : p.taken v = v := by
  obtain ⟨length, bounds⟩ := Param.legal_iff.mp h
  refine List.ext_getElem ((Param.taken_length length).trans length.symm) fun i hi hv => ?_
  have inRange : i < p.ranges.length := length ▸ hv
  obtain ⟨low, high, onStep⟩ := bounds i _ _ _ (List.getElem?_eq_getElem inRange) (List.getElem?_eq_getElem hv)
  have taken := Param.taken_getElem? (List.getElem?_eq_getElem inRange) (List.getElem?_eq_getElem hv)
  rw [clampNat_eq_self low high, Nat.div_mul_cancel (Nat.dvd_of_mod_eq_zero onStep),
    List.getElem?_eq_getElem hi] at taken
  exact Option.some.inj taken

theorem Param.read_length (p : Param) (payload : List Byte) : (p.read payload).length = p.ranges.length := by
  rw [Param.read, List.length_map, List.length_range]

/-! ## Part-wide values in force (R205) -/

theorem nightModeOf_code {n : Nat} (h : n ≤ 2) : (nightModeOf n).code = n := by
  match n with
  | 0 | 1 | 2 => rfl

theorem Param.Legal.singleton {p : Param} {v : List Nat} {lo hi : Nat} (h : p.Legal v) (hp : p.ranges = [(lo, hi)]) :
    ∃ x, v = [x] ∧ lo ≤ x ∧ x ≤ hi := by
  obtain ⟨length, bounds⟩ := Param.legal_iff.mp h
  rw [hp] at length bounds
  obtain ⟨x, rfl⟩ := List.length_eq_one_iff.mp length
  obtain ⟨low, high, -⟩ := bounds 0 lo hi x rfl rfl
  exact ⟨x, rfl, low, high⟩

section

variable {s : State} {ch : Channel}

/-- R157: the tick schedule holds what is put in it. -/
theorem State.setTickSchedule_partParams (x : PartParams) : (s.setTickSchedule x).partParams = x := by
  rw [State.setTickSchedule]
  split
  · exact Eq.symm ‹_›
  · rfl

theorem State.setTickSchedule_frame (x : PartParams) : s.setTickSchedule x =
    { s with partParams := x, lastTick := (s.setTickSchedule x).lastTick } := by
  rw [State.setTickSchedule]
  split
  · subst_vars; rfl
  · rfl

/-- R93, R205: a value of one channel is put among its parameters; only a NIGHT_MODE also reaches the glare unit. -/
theorem State.putPartWide_of_channel {p : Param} (v : List Nat) (hp : p.partScope = false) :
    ∃ g, s.putPartWide ch p v = { s.setParams ch ((s.params.get ch).put p v) with glare := g } := by
  cases p
  case tickBit | tickEdge => cases hp
  all_goals exact ⟨_, rfl⟩

/-- R156, R157: TICK_BIT and TICK_EDGE go to the tick schedule. -/
theorem State.putPartWide_of_part {p : Param} (v : List Nat) (hp : p.partScope = true) :
    (p = .tickBit ∧ s.putPartWide ch p v = s.setTickSchedule { s.partParams with tickBit := v.getD 0 0 }) ∨
    (p = .tickEdge ∧ s.putPartWide ch p v =
      s.setTickSchedule { s.partParams with tickEdge := if v.getD 0 0 = 0 then .rising else .falling }) := by
  cases p
  case tickBit => exact .inl ⟨rfl, rfl⟩
  case tickEdge => exact .inr ⟨rfl, rfl⟩
  all_goals cases hp

/-- R205: a part-wide SET changes parameters, the glare unit and the tick schedule alone. -/
theorem State.putPartWide_frame (p : Param) (v : List Nat) : s.putPartWide ch p v = { s with
    params := (s.putPartWide ch p v).params, glare := (s.putPartWide ch p v).glare
    partParams := (s.putPartWide ch p v).partParams, lastTick := (s.putPartWide ch p v).lastTick } := by
  cases hs : p.partScope with
  | false =>
    obtain ⟨g, put⟩ := s.putPartWide_of_channel (ch := ch) v hs
    rw [put]
    rfl
  | true =>
    rcases s.putPartWide_of_part (ch := ch) v hs with ⟨-, put⟩ | ⟨-, put⟩ <;> rw [put, State.setTickSchedule_frame]

/-- R205: a part-wide value is in force at the SET, on its channel or, held once, on both. -/
theorem State.putPartWide_paramValue {p : Param} {v : List Nat} (hv : p.Legal v) (hp : p.cls = .part) {c : Channel}
    (hc : c = ch ∨ p.partScope = true) : (s.putPartWide ch p v).paramValue c p = v := by
  cases p
  case nightMode =>
    obtain ⟨x, rfl, -, high⟩ := hv.singleton rfl
    obtain rfl : c = ch := hc.resolve_right nofun
    change [((s.params.set c _).get c).nightMode.code] = [x]
    rw [Pair.get_set]
    exact congrArg (fun n => [n]) (nightModeOf_code high)
  case nightEnter | nightExit | nightDwell =>
    obtain ⟨x, rfl, -, -⟩ := hv.singleton rfl
    obtain rfl : c = ch := hc.resolve_right nofun
    simp only [State.putPartWide, State.paramValue, State.setParams_params, Pair.get_set]
    rfl
  case tickBit =>
    obtain ⟨x, rfl, -, -⟩ := hv.singleton rfl
    simp only [State.putPartWide, State.paramValue, State.setTickSchedule_partParams]
    rfl
  case tickEdge =>
    obtain ⟨x, rfl, -, high⟩ := hv.singleton rfl
    simp only [State.putPartWide, State.paramValue, State.setTickSchedule_partParams]
    match x with
    | 0 | 1 => rfl
  all_goals cases hp

/-- R205: and it leaves every other value in force. -/
theorem State.putPartWide_paramValue_other {p : Param} (v : List Nat) {q : Param} {c : Channel}
    (h : q ≠ p ∨ (c ≠ ch ∧ p.partScope = false)) : (s.putPartWide ch p v).paramValue c q = s.paramValue c q := by
  cases hs : p.partScope with
  | false =>
    obtain ⟨g, put⟩ := s.putPartWide_of_channel (ch := ch) v hs
    rw [put]
    by_cases hc : c = ch
    · subst hc
      have other := s.paramValue_put_other c (s.params.get c) (v := v) (h.resolve_right fun h => h.1 rfl)
      have stands : s.setParams c (s.params.get c) = s := by rw [State.setParams, Pair.set_get]
      rw [stands] at other
      exact other
    · exact State.paramValue_congr (s := s) (t := { s.setParams ch _ with glare := g }) (Pair.get_set_other _ _ hc) rfl q
  | true =>
    have hq : q ≠ p := h.resolve_right fun h => by rw [hs] at h; cases h.2
    rcases s.putPartWide_of_part (ch := ch) v hs with ⟨rfl, put⟩ | ⟨rfl, put⟩
    · rw [put, State.setTickSchedule_frame]
      cases q
      case tickBit => exact absurd rfl hq
      all_goals rfl
    · rw [put, State.setTickSchedule_frame]
      cases q
      case tickEdge => exact absurd rfl hq
      all_goals rfl

end

/-! ## The promise of the Parameter Set (R204, R205) -/

/-- What changes no value keeps them legal. -/
theorem State.ParamsSound.same {s t : State} (h : s.ParamsSound) (hp : t.params = s.params)
    (hq : t.pendingParams = s.pendingParams) (hw : t.partParams = s.partParams) : t.ParamsSound := by
  intro ch
  obtain ⟨force, pending, once⟩ := h ch
  rw [hq]
  exact ⟨fun p => by rw [State.paramValue_congr (by rw [hp]) hw p]; exact force p, pending, once⟩

section

variable {s : State} (h : s.ParamsSound) (ch : Channel)
include h

/-- R205: a legal value that becomes the pending one replaces an earlier one. -/
theorem State.ParamsSound.addPending {p : Param} {v : List Nat} (hv : p.Legal v) :
    (s.setPending ch (addPending (s.pendingParams.get ch) p v)).ParamsSound := by
  intro c
  obtain ⟨force, pending, once⟩ := h c
  refine ⟨force, ?_⟩
  rw [State.setPending_pendingParams, Pair.get_set_eq]
  split
  case isFalse => exact ⟨pending, once⟩
  case isTrue hc =>
    subst hc
    refine ⟨fun pv hpv => ?_, ?_⟩
    · rcases List.mem_append.mp hpv with old | new
      · exact pending pv (List.mem_of_mem_filter old)
      · rw [List.mem_singleton.mp new]; exact hv
    · have fresh : p ∉ ((s.pendingParams.get c).filter fun pv => pv.1 != p).map Prod.fst := by
        intro hp
        obtain ⟨pv, mem, rfl⟩ := List.mem_map.mp hp
        simpa using (List.mem_filter.mp mem).2
      rw [Sys2Proof.Machine.addPending, List.map_append, List.nodup_append]
      refine ⟨once.sublist (List.filter_sublist.map _), List.nodup_singleton p, fun a ha b hb hab => fresh ?_⟩
      obtain rfl : b = p := List.mem_singleton.mp hb
      exact hab ▸ ha

/-- R205: a boundary puts legal values in force. -/
theorem State.ParamsSound.applyPending {cls : ParamClass} (hcls : cls ≠ .part) :
    (s.applyPending ch cls).ParamsSound := by
  obtain ⟨taken, stands, other, rest⟩ := State.applyPending_valuesTaken h ch hcls
  intro c
  by_cases hc : c = ch
  · subst hc
    obtain ⟨force, pending, once⟩ := h c
    refine ⟨fun p => ?_, ?_⟩
    · by_cases hp : p.cls = cls
      · rw [taken p hp]
        cases waits : pendingOf (s.pendingParams.get c) p with
        | none => exact force p
        | some v =>
          obtain ⟨pv, found, rfl⟩ := Option.map_eq_some_iff.mp waits
          obtain rfl : pv.1 = p := by simpa using List.find?_some found
          exact pending pv (List.mem_of_find?_eq_some found)
      · rw [stands p hp]
        exact force p
    · rw [rest]
      exact ⟨fun pv hpv => pending pv (List.mem_of_mem_filter hpv), once.sublist (List.filter_sublist.map _)⟩
  · obtain ⟨params, pending⟩ := other c hc
    rw [pending]
    exact ⟨fun p => by rw [State.paramValue_congr params rfl]; exact (h c).1 p, (h c).2⟩

/-- R205: a legal part-wide value in force at the SET. -/
theorem State.ParamsSound.putPartWide {p : Param} {v : List Nat} (hv : p.Legal v) (hp : p.cls = .part) :
    (s.putPartWide ch p v).ParamsSound := by
  intro c
  obtain ⟨force, pending⟩ := h c
  have waiting : (s.putPartWide ch p v).pendingParams = s.pendingParams := by rw [State.putPartWide_frame]
  rw [waiting]
  refine ⟨fun q => ?_, pending⟩
  by_cases here : q = p ∧ (c = ch ∨ p.partScope = true)
  · obtain ⟨rfl, hc⟩ := here
    rw [State.putPartWide_paramValue hv hp hc]
    exact hv
  · rw [State.putPartWide_paramValue_other v ((not_and_or.mp here).imp_right fun hc =>
      ⟨fun hch => hc (.inl hch), Bool.eq_false_iff.mpr fun hs => hc (.inr hs)⟩)]
    exact force q

end

end Sys2Proof.Machine
end

section
/-! The settings of the part, its reset conditions and its Parameter Set, under the effects of its commands: the step lemma
of R204 and R205. -/

namespace Sys2Proof.Machine

/-! ## Effects that keep the settings -/

/-- From `s` to `t` the reset conditions stand (R207), and a legal Parameter Set stays legal (R204, R205). -/
structure State.KeepsSettings (s t : State) : Prop where
  hold : t.hold = s.hold
  legal : s.ParamsSound → t.ParamsSound

theorem State.KeepsSettings.refl (s : State) : s.KeepsSettings s := ⟨rfl, id⟩

section

variable {s t u : State} {ch : Channel} (h : s.KeepsSettings t)
include h

theorem State.KeepsSettings.trans (k : t.KeepsSettings u) : s.KeepsSettings u :=
  ⟨k.hold.trans h.hold, fun hs => k.legal (h.legal hs)⟩

/-- What touches neither the reset conditions nor a value. -/
theorem State.KeepsSettings.same (hh : u.hold = t.hold) (hp : u.params = t.params)
    (hq : u.pendingParams = t.pendingParams) (hw : u.partParams = t.partParams) : s.KeepsSettings u :=
  ⟨hh.trans h.hold, fun hs => (h.legal hs).same hp hq hw⟩

theorem State.KeepsSettings.setReceiver {x : Receiver} : s.KeepsSettings (t.setReceiver ch x) := h.same rfl rfl rfl rfl
theorem State.KeepsSettings.setStore {x : FrameStore} : s.KeepsSettings (t.setStore ch x) := h.same rfl rfl rfl rfl
theorem State.KeepsSettings.setGlare {x : Glare} : s.KeepsSettings (t.setGlare ch x) := h.same rfl rfl rfl rfl
theorem State.KeepsSettings.setLink {x : LinkUnit} : s.KeepsSettings (t.setLink ch x) := h.same rfl rfl rfl rfl
theorem State.KeepsSettings.setTiming {x : LinkTiming} : s.KeepsSettings (t.setTiming ch x) := h.same rfl rfl rfl rfl
theorem State.KeepsSettings.setOutputs {x : Outputs} : s.KeepsSettings (t.setOutputs ch x) := h.same rfl rfl rfl rfl
theorem State.KeepsSettings.setTables {x : TableStore} : s.KeepsSettings (t.setTables x) := h.same rfl rfl rfl rfl
theorem State.KeepsSettings.setAgent {x : Agent} : s.KeepsSettings (t.setAgent x) := h.same rfl rfl rfl rfl

theorem State.KeepsSettings.evalFrame (k : State.EvalFrame ch t u) : s.KeepsSettings u :=
  h.same k.hold k.params k.pendingParams k.partParams

theorem State.KeepsSettings.receiverFrame (k : t.ReceiverFrame u) : s.KeepsSettings u :=
  h.same (congrArg State.hold k.frame :) k.params k.pendingParams k.partParams

theorem State.KeepsSettings.channelFrame (k : t.ChannelFrame u) : s.KeepsSettings u :=
  h.same (congrArg State.hold k.frame :) (congrArg State.params k.frame :) (congrArg State.pendingParams k.frame :)
    (congrArg State.partParams k.frame :)

theorem State.KeepsSettings.tickFrame (k : t.TickFrame u) : s.KeepsSettings u :=
  h.same (congrArg State.hold k.frame :) (congrArg State.params k.frame :) (congrArg State.pendingParams k.frame :)
    (congrArg State.partParams k.frame :)

theorem State.KeepsSettings.evaluate {k : FaultKind} {o : Option Nat} : s.KeepsSettings (t.evaluate ch k o) :=
  h.evalFrame (t.evaluate_evalFrame ch k o)

theorem State.KeepsSettings.evaluateEach {k : FaultKind} {o : Channel → Option Nat} {chs : List Channel} :
    s.KeepsSettings (t.evaluateEach k o chs) :=
  List.foldlRecOn chs _ h fun _ hu _ _ => hu.evaluate

/-! ## Boundaries (R44, R205) -/

theorem State.KeepsSettings.swapIfWaiting {x : TableId} : s.KeepsSettings (t.swapIfWaiting x) :=
  h.same (State.swapIfWaiting_keeps (fun _ _ => rfl) (fun s ch => (s.evaluate_evalFrame ch _ _).hold) t x)
    (t.swapIfWaiting_params x) (t.swapIfWaiting_pendingParams x) (t.swapIfWaiting_partParams x)

theorem State.KeepsSettings.applyPending {cls : ParamClass} (hcls : cls ≠ .part) :
    s.KeepsSettings (t.applyPending ch cls) :=
  ⟨h.hold, fun hs => (h.legal hs).applyPending ch hcls⟩

theorem State.KeepsSettings.cameraBoundary : s.KeepsSettings (t.cameraBoundary ch) :=
  (h.applyPending (cls := .camera) nofun).swapIfWaiting.swapIfWaiting

theorem State.KeepsSettings.cameraBoundaryIfIdle : s.KeepsSettings (t.cameraBoundaryIfIdle ch) := by
  rw [State.cameraBoundaryIfIdle]
  split
  · exact h
  · exact h.cameraBoundary

theorem State.KeepsSettings.displayBoundary : s.KeepsSettings (t.displayBoundary ch) := by
  have swapped : s.KeepsSettings ((t.displaySwaps ch).applyPending ch .display) :=
    h.swapIfWaiting.swapIfWaiting.swapIfWaiting.swapIfWaiting.applyPending nofun
  obtain ⟨g, begun⟩ := t.displayBoundary_frame ch
  rw [begun]
  exact swapped.same rfl rfl rfl rfl

end

section

variable (s : State) (ch : Channel)

/-! ## The camera receiver -/

theorem State.malformed_keepsSettings (d : Nat) (a : Assembly) : s.KeepsSettings (s.malformed ch d a) :=
  (State.KeepsSettings.refl s).receiverFrame (s.dropped_receiverFrame ch d a) |>.cameraBoundary

theorem State.takeFrameStart_keepsSettings : s.KeepsSettings (s.takeFrameStart ch) := by
  rw [State.takeFrameStart]
  split
  · exact (s.malformed_keepsSettings ch 6 .idle).setStore.setReceiver
  · exact (State.KeepsSettings.refl s).setStore.setReceiver

theorem State.takeEmbedded_keepsSettings (f : Option (BitVec 16 × Byte)) : s.KeepsSettings (s.takeEmbedded ch f) := by
  unfold State.takeEmbedded
  split
  case h_1 => exact (State.KeepsSettings.refl s).setReceiver
  case h_5 | h_6 => exact .refl s
  all_goals exact s.malformed_keepsSettings ch _ _

theorem State.takeLine_keepsSettings (f : Option (Nat × List Nat)) : s.KeepsSettings (s.takeLine ch f) := by
  unfold State.takeLine
  split
  case h_4 =>
    split
    · exact s.malformed_keepsSettings ch _ _
    · exact (State.KeepsSettings.refl s).setStore.setReceiver
  case h_5 | h_6 => exact .refl s
  all_goals exact s.malformed_keepsSettings ch _ _

theorem State.goodFrame_keepsSettings (f : FrameFacts) (counter : BitVec 16) (status : Byte) :
    s.KeepsSettings (s.goodFrame ch f counter status) := by
  have checked : s.KeepsSettings (s.goodChecked ch f counter status) :=
    (State.KeepsSettings.refl s).receiverFrame
      ((s.completed_receiverFrame ch f).trans (State.checked_receiverFrame _ ch counter status))
  rw [State.goodFrame_eq]
  exact checked.setStore.setReceiver.cameraBoundary

theorem State.frameEndTime_keepsSettings : s.KeepsSettings (s.frameEndTime ch) := by
  rw [State.frameEndTime]
  split
  · exact .refl s
  · exact (State.KeepsSettings.refl s).setTiming

theorem State.takeFrameEnd_keepsSettings (f : Option Nat) : s.KeepsSettings (s.takeFrameEnd ch f) := by
  have timed := s.frameEndTime_keepsSettings ch
  unfold State.takeFrameEnd
  split
  case h_4 =>
    split
    · exact timed.trans (State.goodFrame_keepsSettings _ ch _ _ _)
    · exact timed.trans (State.malformed_keepsSettings _ ch _ _)
  case h_5 => exact timed.setReceiver
  case h_6 => exact .refl s
  all_goals exact timed.trans (State.malformed_keepsSettings _ ch _ _)

/-! ## The links and the requests -/

theorem State.takeStatus_keepsSettings (lux : BitVec 16) (fault : Bool) :
    s.KeepsSettings (s.takeStatus ch lux fault) := by
  have reported : s.KeepsSettings (s.reported ch lux fault) := (State.KeepsSettings.refl s).setLink.setGlare
  rw [State.takeStatus_eq]
  exact reported.evaluate

theorem State.takeSignature_keepsSettings (q : Seq) (v : Check) : s.KeepsSettings (s.takeSignature ch q v) := by
  rw [State.takeSignature]
  split
  · exact (State.KeepsSettings.refl s).evaluate
  · exact (State.KeepsSettings.refl s).setLink.evaluate

theorem State.acceptRequest_keepsSettings (r : Request) : s.KeepsSettings (s.acceptRequest r) := by
  rw [State.acceptRequest]
  split
  · exact (State.KeepsSettings.refl s).setLink
  · exact (State.KeepsSettings.refl s).setLink

theorem State.serve_keepsSettings : s.KeepsSettings (s.serve ch) := by
  rw [State.serve]
  split
  · exact .refl s
  · exact (State.KeepsSettings.refl s).setLink.setAgent

theorem State.putPartWide_hold (p : Param) (v : List Nat) : (s.putPartWide ch p v).hold = s.hold := by
  rw [State.putPartWide_frame]

/-- R203 to R205: a SET stages a legal value. -/
theorem State.stageValue_keepsSettings {p : Param} {v : List Nat} (hv : p.Legal v) :
    s.KeepsSettings (s.stageValue ch p v) := by
  have waits : s.KeepsSettings (s.setPending ch (addPending (s.pendingParams.get ch) p v)) :=
    ⟨rfl, fun hs => hs.addPending ch hv⟩
  rw [State.stageValue]
  split
  case h_1 hp => exact ⟨s.putPartWide_hold ch p v, fun hs => hs.putPartWide ch hv hp⟩
  case h_2 => exact waits.cameraBoundaryIfIdle
  case h_3 => exact waits

theorem State.restart_keepsSettings : s.KeepsSettings (s.restart ch) := by
  have received : s.KeepsSettings (s.restartReceiver ch) := (State.KeepsSettings.refl s).setReceiver.cameraBoundary
  exact received.channelFrame (s.restart_channelFrame ch)

/-! ## The tables -/

theorem State.leaveQueue_keepsSettings (t : TableId) : s.KeepsSettings (s.leaveQueue t) := by
  rw [State.leaveQueue_eq]
  exact (State.KeepsSettings.refl s).setTables

theorem State.swapAtVerifyEnd_keepsSettings (t : TableId) : s.KeepsSettings (s.swapAtVerifyEnd t) := by
  cases t with
  | faultActions => exact (State.KeepsSettings.refl s).swapIfWaiting
  | develop | defectList => exact (State.KeepsSettings.refl s).cameraBoundaryIfIdle
  | warpMesh | toneCurves | glareResponse | overlaySet => exact .refl s

theorem State.endVerify_keepsSettings (t : TableId) (load : Load) (supplied : Check) (tag : Byte) :
    s.KeepsSettings (s.endVerify t load supplied tag) := by
  have verified : s.KeepsSettings (s.verified t load supplied tag) := (State.KeepsSettings.refl s).setLink.setTables
  rw [State.endVerify_eq]
  split
  · exact (verified.trans (State.swapAtVerifyEnd_keepsSettings _ t)).trans (State.leaveQueue_keepsSettings _ t)
  · exact verified.trans (State.leaveQueue_keepsSettings _ t)

theorem State.tellMeshLost_keepsSettings (t : TableId) : s.KeepsSettings (s.tellMeshLost t) := by
  cases t with
  | warpMesh ch => exact (State.KeepsSettings.refl s).evalFrame (s.onMeshLost_evalFrame ch)
  | develop | defectList | toneCurves | glareResponse | overlaySet | faultActions => exact .refl s

theorem State.endScrub_keepsSettings (st : ScrubStep) : s.KeepsSettings (s.endScrub st) := by
  have done : s.KeepsSettings s.scrubDone := (State.KeepsSettings.refl s).setTables
  by_cases hm : st.finish (s.table st.table) = (s.table st.table).active.checksum
  · rw [State.endScrub_of_match hm]
    exact done.evaluateEach
  · rw [State.endScrub_of_mismatch hm]
    exact done.setTables.evaluateEach.trans (State.tellMeshLost_keepsSettings _ _)

/-! ## The display frame -/

theorem State.startFrame_keepsSettings : s.KeepsSettings (s.startFrame ch) := by
  have opened : s.KeepsSettings (s.openFrame ch) :=
    (State.KeepsSettings.refl s).setLink.setStore.setLink.displayBoundary
  obtain ⟨d, r, decided⟩ := (s.timeFrame ch).decideAndEvaluate_decided ch
  obtain ⟨items, frame, -⟩ := decided.frame
  have begun : s.KeepsSettings (State.withFrame { s.timeFrame ch with draws := d } ch items) :=
    opened.same rfl rfl rfl rfl
  exact begun.evalFrame frame

theorem State.startLine_keepsSettings : s.KeepsSettings (s.startLine ch) := by
  simp only [State.startLine]
  split
  · exact .refl s
  · exact (State.KeepsSettings.refl s).setLink.setGlare.setOutputs

theorem State.endFrame_keepsSettings : s.KeepsSettings (s.endFrame ch) := by
  rw [State.endFrame]
  split
  · exact .refl s
  · exact (State.KeepsSettings.refl s).setGlare.setLink.evalFrame (State.evaluateFrameEnd_evalFrame _ ch _)

theorem State.sendHeader_keepsSettings : s.KeepsSettings (s.sendHeader ch) := by
  rw [State.sendHeader]
  split
  · exact .refl s
  · exact (State.KeepsSettings.refl s).setLink.setOutputs

theorem State.sendAnswer_keepsSettings (n : Nat) (b : Bool) : s.KeepsSettings (s.sendAnswer ch n b) := by
  simp only [State.sendAnswer]
  split
  · exact .refl s
  · exact (State.KeepsSettings.refl s).setLink.setOutputs

end

/-! ## The induction -/

/-- Every effect of a running part but the MANAGEMENT reset keeps what depends on the settings alone. -/
theorem State.KeepsSettings.worked {Inv : State → Prop} (k : ∀ s t : State, s.KeepsSettings t → Inv s → Inv t)
    (reset : ∀ s, Inv s → Inv (s.completeReset .management)) : State.Worked Inv :=
  have same {s t : State} (h : Inv s) (hh : t.hold = s.hold) (hp : t.params = s.params)
      (hq : t.pendingParams = s.pendingParams) (hw : t.partParams = s.partParams) : Inv t :=
    k s t ((State.KeepsSettings.refl s).same hh hp hq hw) h
  { frameStart := fun s ch => k _ _ (s.takeFrameStart_keepsSettings ch)
    embedded := fun s ch f => k _ _ (s.takeEmbedded_keepsSettings ch f)
    line := fun s ch f => k _ _ (s.takeLine_keepsSettings ch f)
    frameEnd := fun s ch f => k _ _ (s.takeFrameEnd_keepsSettings ch f)
    endPass := fun s ch x p => k _ _ ((State.KeepsSettings.refl s).channelFrame (s.endPass_channelFrame ch x p))
    status := fun s ch lux f => k _ _ (s.takeStatus_keepsSettings ch lux f)
    signature := fun s ch q v => k _ _ (s.takeSignature_keepsSettings ch q v)
    accept := fun s r => k _ _ (s.acceptRequest_keepsSettings r)
    discard := fun _ _ h => same h rfl rfl rfl rfl
    serve := fun s ch h _ => k _ _ (s.serve_keepsSettings ch) h
    finish := fun _ _ _ _ h _ => same h rfl rfl rfl rfl
    stage := fun s r ch p h _ _ => k _ _ (s.stageValue_keepsSettings ch (Param.legal_taken (p.read_length r.payload))) h
    setStaged := fun _ _ _ h _ _ => same h rfl rfl rfl rfl
    loadData := fun _ _ _ _ h _ _ _ => same h rfl rfl rfl rfl
    commit := fun _ _ _ _ h _ _ _ => same h rfl rfl rfl rfl
    abandonVerify := fun s t load _ tag h _ => k _ _ ((State.KeepsSettings.refl s).setLink.setTables.trans
      (State.leaveQueue_keepsSettings ((s.answerCommit load tag .aborted []).setStaged t .idle) t)) h
    abandon := fun _ _ h _ => same h rfl rfl rfl rfl
    lock := fun _ _ _ h => same h rfl rfl rfl rfl
    acknowledge := fun _ h => same h rfl rfl rfl rfl
    clear := fun _ _ h => same h rfl rfl rfl rfl
    restart := fun s ch => k _ _ (s.restart_keepsSettings ch)
    trackerOff := fun _ _ h _ => same h rfl rfl rfl rfl
    trackerOn := fun _ _ h => same h rfl rfl rfl rfl
    bandwidth := fun _ _ _ h => same h rfl rfl rfl rfl
    selectTracked := fun _ _ h _ => same h rfl rfl rfl rfl
    selectInternal := fun _ _ h => same h rfl rfl rfl rfl
    sendPass := fun _ _ _ h _ _ => same h rfl rfl rfl rfl
    writeCoverage := fun _ _ _ h _ _ _ => same h rfl rfl rfl rfl
    fixCoverage := fun _ _ _ h _ => same h rfl rfl rfl rfl
    requestReset := fun _ _ h => same h rfl rfl rfl rfl
    tick := fun s => k _ _ (((State.KeepsSettings.refl s).same (u := { s with lastTick := some s.counter }) rfl rfl rfl
      rfl).tickFrame s.superviseTick_tickFrame)
    verifyStart := fun _ _ _ h _ _ => same h rfl rfl rfl rfl
    verifyEnd := fun s t load supplied tag h _ _ => k _ _ (s.endVerify_keepsSettings t load supplied tag) h
    scrubEnd := fun s st h _ => k _ _ (s.endScrub_keepsSettings st) h
    startFrame := fun s ch => k _ _ (s.startFrame_keepsSettings ch)
    holdLimit := fun s ch => k _ _ ((State.KeepsSettings.refl s).evalFrame (s.enterFallback_evalFrame ch))
    startLine := fun s ch => k _ _ (s.startLine_keepsSettings ch)
    endLine := fun _ _ h => same h rfl rfl rfl rfl
    endFrame := fun s ch => k _ _ (s.endFrame_keepsSettings ch)
    header := fun s ch => k _ _ (s.sendHeader_keepsSettings ch)
    sendAnswer := fun s ch n b => k _ _ (s.sendAnswer_keepsSettings ch n b)
    areaEnd := fun _ _ h => same h rfl rfl rfl rfl
    referenceStart := fun _ _ h => same h rfl rfl rfl rfl
    holdover := fun _ _ h => same h rfl rfl rfl rfl
    manageReset := reset }

/-- R204, R205: every effect of the part keeps its values legal. -/
theorem paramsSound_kept : State.Kept State.ParamsSound where
  toWorked := State.KeepsSettings.worked (fun _ _ k => k.legal) fun _ _ => paramsSound_reset.same rfl rfl rfl
  queue _ _ _ h := h.same rfl rfl rfl
  passTime _ h := h.same rfl rfl rfl
  beginReset _ _ _ := paramsSound_reset.same rfl rfl rfl
  completeReset _ _ _ _ := paramsSound_reset.same rfl rfl rfl
  hold _ _ h := h.same rfl rfl rfl

/-- Settles O60: by the induction over the effects of the part. -/
theorem stepKeepsParametersLegal : Obligations.StepKeepsParametersLegal :=
  fun _ _ h hs => paramsSound_kept.step h hs

end Sys2Proof.Machine
end

section
/-! The part resets: the values they leave (R208), their conditions (R207, R192) and PART-RESET (R209). -/

namespace Sys2Proof.Machine

/-! ## The reset state (R208) -/

/-- Settles O3: block by block, each value by evaluation. -/
theorem resetLeavesResetValues : Obligations.ResetLeavesResetValues := by
  refine ⟨rfl, rfl, rfl, rfl, rfl, rfl, rfl, rfl, fun t => ?tables, rfl, rfl, rfl, fun ch => ?channel⟩
  case tables =>
    rw [State.reset_table]
    exact ⟨rfl, rfl, rfl, rfl, rfl, rfl⟩
  case channel =>
    have buffers (b : BufferId) : (State.reset.store.get ch).get b = .free := by cases ch <;> cases b <;> rfl
    have tiles : (State.reset.glare.get ch).tiles = List.replicate 80 .reset := by cases ch <;> rfl
    have clear : ∀ t ∈ (State.reset.glare.get ch).tiles, t = .reset := fun t ht =>
      List.eq_of_mem_replicate (tiles ▸ ht)
    cases ch <;>
      exact ⟨rfl, rfl, rfl, rfl, rfl, buffers, rfl, rfl, by rw [tiles, List.length_replicate], rfl, clear, rfl, rfl, rfl,
        rfl, rfl, rfl, rfl, rfl, rfl, rfl, rfl, rfl, State.reset_entry _,
        rfl, rfl⟩

/-! ## The arms of the reset conditions -/

section

variable (s : State)

theorem exec_powerOn : exec .powerOn s = execPowerOn s := rfl
theorem exec_powerOnConditionEnd : exec .powerOnConditionEnd s = execPowerOnConditionEnd s := rfl
theorem exec_resetNAssert : exec .resetNAssert s = execResetNAssert s := rfl
theorem exec_resetNDeassert : exec .resetNDeassert s = execResetNDeassert s := rfl
theorem exec_refclkLoss : exec .refclkLoss s = execRefclkLoss s := rfl
theorem exec_refclkReturn : exec .refclkReturn s = execRefclkReturn s := rfl
theorem exec_ancillaryAreaEnd (ch : Channel) : exec (.ancillaryAreaEnd ch) s = execAncillaryAreaEnd ch s := rfl

end

/-! ## Conditions that begin (R207) -/

theorem State.held_iff {s : State} :
    s.held = true ↔ s.hold.powerOn = true ∨ s.hold.resetN = true ∨ s.hold.clockAbsent = true := by
  rw [State.held, Bool.or_eq_true, Bool.or_eq_true, or_assoc]

theorem State.held_eq_false {s : State} :
    s.held = false ↔ s.hold.powerOn = false ∧ s.hold.resetN = false ∧ s.hold.clockAbsent = false := by
  rw [State.held, Bool.or_eq_false_iff, Bool.or_eq_false_iff, and_assoc]

/-- R207: nothing is in flight, and FAULT_N is released. -/
def State.AtRest (s : State) : Prop :=
  s.faultN = false ∧ s.agent.executing = none ∧ s.tables.verifyQueue = [] ∧ s.tables.scrub = none ∧
    (∀ x, (s.table x).staged = .idle) ∧
    ∀ ch, (s.receiver.get ch).assembly = .idle ∧ (s.receiver.get ch).pass = .idle ∧ (s.link.get ch).requests = [] ∧
      (s.link.get ch).answers = [] ∧ (s.link.get ch).resetPending = false

/-- R207: a reset that begins ends all work in flight. -/
theorem State.beginReset_atRest (s : State) (hold : ResetHold) : (s.beginReset hold).AtRest := by
  refine ⟨rfl, rfl, rfl, rfl, fun x => ?_, fun ch => ?_⟩
  · exact congrArg TableEntry.staged (State.reset_table x)
  · cases ch <;> exact ⟨rfl, rfl, rfl, rfl, rfl⟩

/-! ## A held part (R207) -/

/-- R207: every command but those of the reset conditions waits for the part to run. -/
theorem exec_of_held {s : State} (hs : s.held = true) {c : Instr} (h1 : c ≠ .powerOn) (h2 : c ≠ .powerOnConditionEnd)
    (h3 : c ≠ .resetNAssert) (h4 : c ≠ .resetNDeassert) (h5 : c ≠ .refclkLoss) (h6 : c ≠ .refclkReturn) :
    exec c s = .next s := by
  cases c
  case powerOn => exact absurd rfl h1
  case powerOnConditionEnd => exact absurd rfl h2
  case resetNAssert => exact absurd rfl h3
  case resetNDeassert => exact absurd rfl h4
  case refclkLoss => exact absurd rfl h5
  case refclkReturn => exact absurd rfl h6
  all_goals exact congrArg Host.Outcome.next (if_pos hs)

/-! ## No other command sets a flag (R207) -/

/-- Every flag of `h` is also one of `g`. -/
structure ResetHold.Within (h g : ResetHold) : Prop where
  powerOn : h.powerOn = true → g.powerOn = true
  resetN : h.resetN = true → g.resetN = true
  clockAbsent : h.clockAbsent = true → g.clockAbsent = true
  fromPower : h.fromPower = true → g.fromPower = true

theorem ResetHold.Within.refl (h : ResetHold) : h.Within h := ⟨id, id, id, id⟩

/-- R208: a reset that completes sets none. -/
theorem State.completeReset_within {s : State} {g : ResetHold} (h : s.hold.Within g) (cause : ResetCause) :
    (s.completeReset cause).hold.Within g := ⟨h.powerOn, h.resetN, h.clockAbsent, nofun⟩

theorem State.endCondition_within (s : State) {hold g : ResetHold} (h : hold.Within g) (cause : ResetCause) :
    (s.endCondition hold cause).hold.Within g := by
  rw [State.endCondition]
  split
  · exact h
  · exact State.completeReset_within (s := { s with hold := hold }) h _

/-- A running part sets none. -/
theorem within_worked (g : ResetHold) : State.Worked fun t => t.hold.Within g :=
  State.KeepsSettings.worked (fun _ _ k h => k.hold ▸ h) fun _ h => State.completeReset_within h _

/-- Only a condition that begins sets a flag. -/
theorem exec_hold_within {s t : State} {c : Instr} (h1 : c ≠ .powerOn) (h2 : c ≠ .resetNAssert) (h3 : c ≠ .refclkLoss)
    (he : exec c s = .next t) : t.hold.Within s.hold := by
  by_cases h4 : c = .powerOnConditionEnd
  · subst h4
    cases he
    split
    · exact s.endCondition_within (g := s.hold) (hold := { s.hold with powerOn := false }) ⟨nofun, id, id, id⟩ _
    · exact .refl _
  by_cases h5 : c = .resetNDeassert
  · subst h5
    cases he
    split
    · exact s.endCondition_within (g := s.hold) (hold := { s.hold with resetN := false }) ⟨id, nofun, id, id⟩ _
    · exact .refl _
  by_cases h6 : c = .refclkReturn
  · subst h6
    cases he
    split
    · exact s.endCondition_within (g := s.hold) (hold := { s.hold with clockAbsent := false }) ⟨id, id, nofun, id⟩ _
    · exact .refl _
  exact (within_worked s.hold).exec (.refl _) h1 h2 h3 h4 h5 h6 he

/-- Settles O5: a reset that begins leaves the part at rest; every other command waits for the part to run; and a flag is set by
its own condition alone. -/
theorem heldPartTakesNothing : Obligations.HeldPartTakesNothing := by
  refine ⟨fun s c hc => ?begins, fun s c hs h1 h2 h3 h4 h5 h6 => exec_of_held hs h1 h2 h3 h4 h5 h6,
    fun s t c he => ?flags⟩
  case begins =>
    rcases hc with rfl | rfl | rfl
    · obtain ⟨line, rest⟩ := s.beginReset_atRest { s.hold with powerOn := true, fromPower := true }
      exact ⟨_, exec_powerOn s, State.held_iff.mpr (.inl rfl), line, rfl, (if_pos rfl).symm, rfl, rfl, rest⟩
    · obtain ⟨line, rest⟩ := s.beginReset_atRest { s.hold with resetN := true }
      exact ⟨_, exec_resetNAssert s, State.held_iff.mpr (.inr (.inl rfl)), line, rfl,
        ((if_neg nofun).trans (if_pos rfl)).symm, rfl, rfl, rest⟩
    · obtain ⟨line, rest⟩ := s.beginReset_atRest { s.hold with clockAbsent := true }
      exact ⟨_, exec_refclkLoss s, State.held_iff.mpr (.inr (.inr rfl)), line, rfl,
        ((if_neg nofun).trans (if_neg nofun)).symm, rfl, rfl, rest⟩
  case flags =>
    by_cases h1 : c = .powerOn
    · subst h1; cases he
      exact ⟨fun h => absurd rfl h, fun _ => id, fun _ => id, fun h => absurd rfl h⟩
    by_cases h2 : c = .resetNAssert
    · subst h2; cases he
      exact ⟨fun _ => id, fun h => absurd rfl h, fun _ => id, fun _ => id⟩
    by_cases h3 : c = .refclkLoss
    · subst h3; cases he
      exact ⟨fun _ => id, fun _ => id, fun h => absurd rfl h, fun _ => id⟩
    obtain ⟨powerOn, resetN, clockAbsent, fromPower⟩ := exec_hold_within h1 h2 h3 he
    exact ⟨fun _ => powerOn, fun _ => resetN, fun _ => clockAbsent, fun _ => fromPower⟩

/-! ## Conditions that end (R207, R208) -/

/-- R208, R192: what a completed reset leaves: every block at its reset values, with the cause and MODE recorded. -/
def State.restarted (s : State) (cause : ResetCause) : State :=
  { State.reset with
    pending := s.pending, pins := s.pins, coverage := s.coverage, draws := s.draws
    resetRecord := ⟨cause, s.pins.modeStrap⟩ }

theorem State.completeReset_eq {s : State} (h : s.held = false) (cause : ResetCause) :
    s.completeReset cause = s.restarted cause := by
  obtain ⟨powerOn, resetN, clockAbsent⟩ := State.held_eq_false.mp h
  have hold : ({ s.hold with fromPower := false } : ResetHold) = State.reset.hold := by
    change ResetHold.mk s.hold.powerOn s.hold.resetN s.hold.clockAbsent false = _
    rw [powerOn, resetN, clockAbsent]
    rfl
  rw [State.completeReset, hold]
  rfl

theorem State.endCondition_held {s : State} {hold : ResetHold} (h : ({ s with hold := hold } : State).held = true)
    (cause : ResetCause) : s.endCondition hold cause = { s with hold := hold } := if_pos h

theorem State.endCondition_last {s : State} {hold : ResetHold} (h : ({ s with hold := hold } : State).held = false)
    (cause : ResetCause) :
    s.endCondition hold cause = s.restarted (if hold.fromPower then .powerOn else cause) := by
  rw [State.endCondition, if_neg (Bool.eq_false_iff.mp h), State.completeReset_eq h]
  rfl

/-- Settles O6: a condition that ends leaves the part held while another stands, and completes the reset when none does. -/
theorem lastConditionEndCompletesReset : Obligations.LastConditionEndCompletesReset := by
  refine fun s => ⟨fun hp more => ?_, fun hr more => ?_, fun hc more => ?_, fun hp hr hc => ?_, fun hp hr hc => ?_,
    fun hp hr hc => ?_⟩
  · rw [exec_powerOnConditionEnd, execPowerOnConditionEnd, if_pos hp,
      State.endCondition_held (hold := { s.hold with powerOn := false }) (State.held_iff.mpr (.inr more))]
  · rw [exec_resetNDeassert, execResetNDeassert, if_pos hr,
      State.endCondition_held (hold := { s.hold with resetN := false }) (State.held_iff.mpr (more.imp id .inr))]
  · rw [exec_refclkReturn, execRefclkReturn, if_pos hc,
      State.endCondition_held (hold := { s.hold with clockAbsent := false }) (State.held_iff.mpr (more.imp id .inl))]
  · rw [exec_powerOnConditionEnd, execPowerOnConditionEnd, if_pos hp,
      State.endCondition_last (hold := { s.hold with powerOn := false }) (State.held_eq_false.mpr ⟨rfl, hr, hc⟩), ite_self]
    rfl
  · rw [exec_resetNDeassert, execResetNDeassert, if_pos hr,
      State.endCondition_last (hold := { s.hold with resetN := false }) (State.held_eq_false.mpr ⟨hp, rfl, hc⟩)]
    rfl
  · rw [exec_refclkReturn, execRefclkReturn, if_pos hc,
      State.endCondition_last (hold := { s.hold with clockAbsent := false }) (State.held_eq_false.mpr ⟨hp, hr, rfl⟩)]
    rfl

/-! ## PART-RESET (R209, R142) -/

/-- Settles O32: the request by its row; the end of the area by its stage, whose MANAGEMENT reset completes at once. -/
theorem partResetFollowsItsAnswer : Obligations.PartResetFollowsItsAnswer := by
  refine ⟨fun s r hs hk hp => ?request, fun s ch running stage => ?carried, fun s ch running stage => ?plain⟩
  case request =>
    rw [exec_partReset, execPartReset]
    exact whenExecuting_of hs (Request.isKind_of hk) (State.withLength_eq (congrArg List.length hp))
  case carried =>
    rw [exec_ancillaryAreaEnd, execAncillaryAreaEnd, whenRunning_eq running]
    simp only [stage]
    exact congrArg _ (State.completeReset_eq running .management)
  case plain =>
    rw [exec_ancillaryAreaEnd, execAncillaryAreaEnd, whenRunning_eq running]
    simp only [stage]
    rfl

end Sys2Proof.Machine
end

section
/-! Camera packets and return cells (R210 to R212): the bytes laid out are read back (R34, R143), and no others. -/

namespace Sys2Proof.Machine

/-! ## Fields read back -/

theorem byteAt_of_get {bytes : List Byte} {i : Nat} {b : Byte} (h : bytes[i]? = some b) : byteAt bytes i = b.toNat := by
  rw [byteAt, List.getD_eq_getElem?_getD, h]
  rfl

theorem ofNat_le16 {bytes : List Byte} {i : Nat} {x : BitVec 16} (h : bytes[i]? = some (BitVec.ofNat 8 x.toNat))
    (h' : bytes[i + 1]? = some (BitVec.ofNat 8 (x.toNat / 256))) : BitVec.ofNat 16 (le16 bytes i) = x := by
  rw [le16_ofNat h h', Nat.mod_eq_of_lt x.isLt, BitVec.ofNat_toNat, BitVec.setWidth_eq]

/-- What stands between two other runs of bytes. -/
theorem slice_middle (xs ys zs : List Byte) : slice (xs ++ ys ++ zs) xs.length ys.length = ys := by
  rw [slice, List.append_assoc, List.drop_left, List.take_left]

/-! ## The check (R210) -/

/-- A run of another length, or with another check, fails. -/
theorem checkPasses_eq_false {bytes : List Byte} {n : Nat} (h : bytes.length ≠ n ∨
    le32 bytes (bytes.length - 4) ≠ (pairSum (bytes.take (bytes.length - 4))).toNat) : checkPasses bytes n = false := by
  refine Bool.eq_false_iff.mpr fun passes => ?_
  rw [checkPasses, Bool.and_eq_true, Bool.and_eq_true, beq_iff_eq, beq_iff_eq] at passes
  obtain ⟨⟨rfl, -⟩, check⟩ := passes
  exact h.elim (absurd rfl) (absurd check)

theorem withCheck_checkPasses {body : List Byte} {n : Nat} (hb : body ≠ []) (hn : body.length + 4 = n) :
    checkPasses (withCheck body) n = true := hn ▸ (withCheck_passes hb).2

/-! ## The kinds of camera packet (R34, R211) -/

section

variable {bytes : List Byte}

theorem readCameraPacket_frameStart (h : byteAt bytes 0 = 1) :
    readCameraPacket bytes = if checkPasses bytes 5 then .frameStart else .discarded := by
  simp only [readCameraPacket, h]

theorem readCameraPacket_embedded (h : byteAt bytes 0 = 2) : readCameraPacket bytes =
    if checkPasses bytes 8 then .embedded (BitVec.ofNat 16 (le16 bytes 1)) (BitVec.ofNat 8 (byteAt bytes 3))
    else .embeddedFailed := by
  simp only [readCameraPacket, h]

theorem readCameraPacket_line (h : byteAt bytes 0 = 3) : readCameraPacket bytes =
    if checkPasses bytes (9 + 2 * le16 bytes 3) then .line (le16 bytes 1) (pixelValues bytes (le16 bytes 3))
    else .lineFailed := by
  simp only [readCameraPacket, h]

theorem readCameraPacket_frameEnd (h : byteAt bytes 0 = 4) :
    readCameraPacket bytes = if checkPasses bytes 7 then .frameEnd (le16 bytes 1) else .frameEndFailed := by
  simp only [readCameraPacket, h]

theorem readCameraPacket_reply (h : byteAt bytes 0 = 5) : readCameraPacket bytes =
    if byteAt bytes 1 ≤ 48 ∧ checkPasses bytes (6 + byteAt bytes 1) = true then .reply (slice bytes 2 (byteAt bytes 1))
    else .discarded := by
  simp only [readCameraPacket, h]

theorem readCameraPacket_unknown (h : byteAt bytes 0 < 1 ∨ 5 < byteAt bytes 0) : readCameraPacket bytes = .discarded := by
  unfold readCameraPacket
  split
  case h_6 => rfl
  all_goals omega

/-! ## The kinds of return cell (R143, R212) -/

theorem readReturnCell_status (h : byteAt bytes 0 = 16) : readReturnCell bytes =
    if checkPasses bytes 8 ∧ byteAt bytes 3 ≤ 1 then
      .monitorStatus (BitVec.ofNat 16 (le16 bytes 1)) (byteAt bytes 3 == 1)
    else .discarded := by
  simp only [readReturnCell, h]

theorem readReturnCell_signature (h : byteAt bytes 0 = 17) : readReturnCell bytes =
    if checkPasses bytes 11 then .signature (BitVec.ofNat 16 (le16 bytes 1)) (BitVec.ofNat 32 (le32 bytes 3))
    else .discarded := by
  simp only [readReturnCell, h]

theorem readReturnCell_request (h : byteAt bytes 0 = 18) : readReturnCell bytes =
    if byteAt bytes 5 ≤ 48 ∧ checkPasses bytes (10 + byteAt bytes 5) = true then
      .request (bytes.getD 1 0) (bytes.getD 2 0) (bytes.getD 3 0) (bytes.getD 4 0) (slice bytes 6 (byteAt bytes 5))
    else .discarded := by
  simp only [readReturnCell, h]

theorem readReturnCell_unknown (h : byteAt bytes 0 < 16 ∨ 18 < byteAt bytes 0) : readReturnCell bytes = .discarded := by
  unfold readReturnCell
  split
  case h_4 => rfl
  all_goals omega

end

/-! ## Pixels laid out (R211) -/

/-- R211: the values of a LINE, each as two bytes. -/
def pixelRun (pixels : List Nat) : List Byte := (pixels.map (toLe 2)).flatten

theorem pixelRun_length (pixels : List Nat) : (pixelRun pixels).length = 2 * pixels.length := by
  induction pixels with
  | nil => rfl
  | cons v rest ih =>
    rw [pixelRun, List.map_cons, List.flatten_cons, List.length_append, toLe_length, List.length_cons]
    exact (congrArg (2 + ·) ih).trans (by omega)

theorem le16_pixelRun {pixels : List Nat} {k : Nat} (hk : k < pixels.length) (rest : List Byte) :
    le16 (pixelRun pixels ++ rest) (2 * k) = pixels[k] % 65536 := by
  induction pixels generalizing k with
  | nil => cases hk
  | cons v more ih =>
    cases k with
    | zero => exact le16_ofNat rfl rfl
    | succ k => exact ih (k := k) (Nat.lt_of_succ_lt_succ hk)

/-- R211: the values laid out after the five bytes of a LINE's fields are read back. -/
theorem pixelValues_pixelRun {fields : List Byte} (hf : fields.length = 5) {pixels : List Nat}
    (hp : ∀ v ∈ pixels, v < 65536) (rest : List Byte) :
    pixelValues (fields ++ (pixelRun pixels ++ rest)) pixels.length = pixels := by
  refine List.ext_getElem (by rw [pixelValues, List.length_map, List.length_range]) fun k hk hp' => ?_
  have shifted (i : Nat) : byteAt (fields ++ (pixelRun pixels ++ rest)) (5 + i) = byteAt (pixelRun pixels ++ rest) i :=
    hf ▸ byteAt_append_right fields _ i
  have read : le16 (fields ++ (pixelRun pixels ++ rest)) (5 + 2 * k) = le16 (pixelRun pixels ++ rest) (2 * k) := by
    rw [le16, le16, Nat.add_assoc, shifted, shifted]
  simp only [pixelValues, List.getElem_map, List.getElem_range]
  rw [read, le16_pixelRun hp', Nat.mod_eq_of_lt (hp _ (List.getElem_mem hp'))]

/-! ## What is laid out is read back (R211, R212) -/

theorem readCameraPacket_laidFrameStart : readCameraPacket (withCheck [1]) = .frameStart := by
  have passes : checkPasses (withCheck [1]) 5 = true := withCheck_checkPasses nofun rfl
  rw [readCameraPacket_frameStart rfl, if_pos passes]

theorem readCameraPacket_laidEmbedded (counter : BitVec 16) (status : Byte) :
    readCameraPacket (withCheck (toLe 1 2 ++ toLe 2 counter.toNat ++ [status])) = .embedded counter status := by
  generalize laid : withCheck (toLe 1 2 ++ toLe 2 counter.toNat ++ [status]) = bytes
  have kind : byteAt bytes 0 = 2 := laid ▸ rfl
  have passes : checkPasses bytes 8 = true := laid ▸ withCheck_checkPasses nofun rfl
  have number : BitVec.ofNat 16 (le16 bytes 1) = counter := laid ▸ ofNat_le16 rfl rfl
  have state : byteAt bytes 3 = status.toNat := laid ▸ byteAt_of_get rfl
  rw [readCameraPacket_embedded kind, if_pos passes, number, state, BitVec.ofNat_toNat, BitVec.setWidth_eq]

theorem readCameraPacket_laidLine {index : Nat} {pixels : List Nat} (hi : index < 65536) (hl : pixels.length < 65536)
    (hp : ∀ v ∈ pixels, v < 65536) :
    readCameraPacket (withCheck (toLe 1 3 ++ toLe 2 index ++ toLe 2 pixels.length ++ pixelRun pixels)) =
      .line index pixels := by
  have length : (toLe 1 3 ++ toLe 2 index ++ toLe 2 pixels.length ++ pixelRun pixels).length + 4 =
      9 + 2 * pixels.length := by
    rw [List.length_append, pixelRun_length]
    change 5 + 2 * pixels.length + 4 = _
    omega
  generalize laid : withCheck (toLe 1 3 ++ toLe 2 index ++ toLe 2 pixels.length ++ pixelRun pixels) = bytes
  have kind : byteAt bytes 0 = 3 := laid ▸ rfl
  have number : le16 bytes 1 = index := laid ▸ (le16_ofNat rfl rfl).trans (Nat.mod_eq_of_lt hi)
  have count : le16 bytes 3 = pixels.length := laid ▸ (le16_ofNat rfl rfl).trans (Nat.mod_eq_of_lt hl)
  have passes : checkPasses bytes (9 + 2 * pixels.length) = true := laid ▸ withCheck_checkPasses nofun length
  have values : pixelValues bytes pixels.length = pixels := by
    rw [← laid, withCheck, List.append_assoc]
    exact pixelValues_pixelRun rfl hp _
  rw [readCameraPacket_line kind, number, count, if_pos passes, values]

theorem readCameraPacket_laidFrameEnd {sent : Nat} (h : sent < 65536) :
    readCameraPacket (withCheck (toLe 1 4 ++ toLe 2 sent)) = .frameEnd sent := by
  generalize laid : withCheck (toLe 1 4 ++ toLe 2 sent) = bytes
  have kind : byteAt bytes 0 = 4 := laid ▸ rfl
  have passes : checkPasses bytes 7 = true := laid ▸ withCheck_checkPasses nofun rfl
  have lines : le16 bytes 1 = sent := laid ▸ (le16_ofNat rfl rfl).trans (Nat.mod_eq_of_lt h)
  rw [readCameraPacket_frameEnd kind, if_pos passes, lines]

theorem readCameraPacket_laidReply {payload : List Byte} (h : payload.length ≤ 48) :
    readCameraPacket (withCheck (toLe 1 5 ++ toLe 1 payload.length ++ payload)) = .reply payload := by
  have length : (toLe 1 5 ++ toLe 1 payload.length ++ payload).length + 4 = 6 + payload.length := by
    rw [List.length_append]
    change 2 + payload.length + 4 = _
    omega
  generalize laid : withCheck (toLe 1 5 ++ toLe 1 payload.length ++ payload) = bytes
  have kind : byteAt bytes 0 = 5 := laid ▸ rfl
  have declared : byteAt bytes 1 = payload.length := laid ▸ (byteAt_ofNat rfl).trans (Nat.mod_eq_of_lt (by omega))
  have passes : checkPasses bytes (6 + payload.length) = true := laid ▸ withCheck_checkPasses nofun length
  have carried : slice bytes 2 payload.length = payload :=
    laid ▸ slice_middle (toLe 1 5 ++ toLe 1 payload.length) payload _
  rw [readCameraPacket_reply kind, declared, if_pos ⟨h, passes⟩, carried]

theorem readReturnCell_laidStatus (lux : BitVec 16) (fault : Bool) :
    readReturnCell (withCheck (toLe 1 16 ++ toLe 2 lux.toNat ++ boolByte fault)) = .monitorStatus lux fault := by
  generalize laid : withCheck (toLe 1 16 ++ toLe 2 lux.toNat ++ boolByte fault) = bytes
  have kind : byteAt bytes 0 = 16 := laid ▸ rfl
  have passes : checkPasses bytes 8 = true := laid ▸ withCheck_checkPasses nofun rfl
  have light : BitVec.ofNat 16 (le16 bytes 1) = lux := laid ▸ ofNat_le16 rfl rfl
  have backlight : byteAt bytes 3 = fault.toNat := laid ▸ (byteAt_ofNat rfl).trans (by cases fault <;> rfl)
  rw [readReturnCell_status kind, light, backlight, if_pos ⟨passes, fault.toNat_le⟩]
  cases fault <;> rfl

theorem readReturnCell_laidSignature (seq : Seq) (value : Check) :
    readReturnCell (withCheck (toLe 1 17 ++ toLe 2 seq.toNat ++ toLe 4 value.toNat)) = .signature seq value := by
  generalize laid : withCheck (toLe 1 17 ++ toLe 2 seq.toNat ++ toLe 4 value.toNat) = bytes
  have kind : byteAt bytes 0 = 17 := laid ▸ rfl
  have passes : checkPasses bytes 11 = true := laid ▸ withCheck_checkPasses nofun rfl
  have number : BitVec.ofNat 16 (le16 bytes 1) = seq := laid ▸ ofNat_le16 rfl rfl
  have signature : le32 bytes 3 = value.toNat := laid ▸ (le32_toLe value.toNat).trans (Nat.mod_eq_of_lt value.isLt)
  rw [readReturnCell_signature kind, if_pos passes, number, signature, BitVec.ofNat_toNat, BitVec.setWidth_eq]

theorem readReturnCell_laidRequest (tag kind channel item : Byte) {payload : List Byte} (h : payload.length ≤ 48) :
    readReturnCell (withCheck (toLe 1 18 ++ [tag, kind, channel, item] ++ toLe 1 payload.length ++ payload)) =
      .request tag kind channel item payload := by
  have length : (toLe 1 18 ++ [tag, kind, channel, item] ++ toLe 1 payload.length ++ payload).length + 4 =
      10 + payload.length := by
    rw [List.length_append]
    change 6 + payload.length + 4 = _
    omega
  generalize laid :
    withCheck (toLe 1 18 ++ [tag, kind, channel, item] ++ toLe 1 payload.length ++ payload) = bytes
  have cell : byteAt bytes 0 = 18 := laid ▸ rfl
  have declared : byteAt bytes 5 = payload.length := laid ▸ (byteAt_ofNat rfl).trans (Nat.mod_eq_of_lt (by omega))
  have passes : checkPasses bytes (10 + payload.length) = true := laid ▸ withCheck_checkPasses nofun length
  have carried : slice bytes 6 payload.length = payload :=
    laid ▸ slice_middle (toLe 1 18 ++ [tag, kind, channel, item] ++ toLe 1 payload.length) payload _
  rw [readReturnCell_request cell, declared, if_pos ⟨h, passes⟩, carried, ← laid]
  rfl

/-- Settles O8: each kind as laid out by its own lemma; of the other runs, by kind, the test of the kind that fails. -/
theorem packetsAndCellsAreReadByLayout : Obligations.PacketsAndCellsAreReadByLayout := by
  refine ⟨⟨readCameraPacket_laidFrameStart, readCameraPacket_laidEmbedded,
    fun _ _ hi hl hp => readCameraPacket_laidLine hi hl hp, fun _ h => readCameraPacket_laidFrameEnd h,
    fun _ h => readCameraPacket_laidReply h, readReturnCell_laidStatus, readReturnCell_laidSignature,
    fun tag kind channel item _ h => readReturnCell_laidRequest tag kind channel item h⟩, ?_⟩
  rintro bytes kind wrong rfl wrong_iff
  have fails {n : Nat} (h : wrong n) : ¬checkPasses bytes n = true :=
    Bool.eq_false_iff.mp (checkPasses_eq_false ((wrong_iff n).mp h))
  refine ⟨readCameraPacket_unknown, fun hk hw => ?_, fun hk hw => ?_, fun hk hw => ?_, fun hk hw => ?_, fun hk hw => ?_,
    readReturnCell_unknown, fun hk hw => ?_, fun hk hw => ?_, fun hk hw => ?_⟩
  · rw [readCameraPacket_frameStart hk, if_neg (fails hw)]
  · rw [readCameraPacket_embedded hk, if_neg (fails hw)]
  · rw [readCameraPacket_line hk, if_neg (fails hw)]
  · rw [readCameraPacket_frameEnd hk, if_neg (fails hw)]
  · rw [readCameraPacket_reply hk, if_neg fun h => hw.elim (Nat.not_lt.mpr h.1) fun hw => fails hw h.2]
  · rw [readReturnCell_status hk, if_neg fun h => hw.elim (Nat.not_lt.mpr h.2) fun hw => fails hw h.1]
  · rw [readReturnCell_signature hk, if_neg (fails hw)]
  · rw [readReturnCell_request hk, if_neg fun h => hw.elim (Nat.not_lt.mpr h.1) fun hw => fails hw h.2]

end Sys2Proof.Machine
end

section
/-! REQUEST cells and the agent's turn (R196 to R198). -/

namespace Sys2Proof.Machine

section

variable {s : State}

theorem exec_agentTakesRequest (s : State) : exec .agentTakesRequest s = execAgentTakesRequest s := rfl

/-- R197: with a slot free a request joins the tail of its link's queue. -/
theorem State.acceptRequest_queued {r : Request} (h : s.slotsHeld r.link < 8) : s.acceptRequest r =
    s.setLink r.link { s.link.get r.link with requests := (s.link.get r.link).requests ++ [r] } :=
  if_neg (Nat.not_le.mpr h)

/-- R197, R144: with 8 slots held it is discarded. -/
theorem State.acceptRequest_discarded {r : Request} (h : 8 ≤ s.slotsHeld r.link) :
    s.acceptRequest r = s.discardCell r.link := if_pos h

theorem exec_requestCell_request {ch : Channel} {cell payload : List Byte} {tag kind channel item : Byte}
    (hs : s.held = false) (hc : readReturnCell cell = .request tag kind channel item payload) :
    exec (.requestCell ch cell) s = .next (s.acceptRequest
      { link := ch, tag := tag, kind := kind, channel := channel, item := item, payload := payload }) := by
  rw [exec_requestCell]
  refine (whenRunning_eq hs).trans ?_
  simp only [hc]

/-- R198: the link not served last comes first. -/
theorem State.linkToServe_next (h : (s.link.get (otherLink s.agent.lastServed)).requests ≠ []) :
    s.linkToServe = some (otherLink s.agent.lastServed) := if_pos h

theorem State.linkToServe_same (h : (s.link.get (otherLink s.agent.lastServed)).requests = [])
    (h' : (s.link.get s.agent.lastServed).requests ≠ []) : s.linkToServe = some s.agent.lastServed :=
  (if_neg (not_not.mpr h)).trans (if_pos h')

/-- R198: the agent takes the oldest request of the link it serves. -/
theorem exec_agentTakesRequest_serves {link : Channel} {r : Request} {rest : List Request} (hs : s.held = false)
    (free : s.agent.executing = none) (hl : s.linkToServe = some link) (hr : (s.link.get link).requests = r :: rest) :
    exec .agentTakesRequest s = .next
      ((s.setLink link { s.link.get link with requests := rest }).setAgent { executing := some r, lastServed := link }) := by
  rw [exec_agentTakesRequest]
  refine (whenRunning_eq hs).trans ?_
  simp only [free, hl, State.serve, hr]

end

/-- Settles O18: the cell by the slots held, the agent by the link it serves. -/
theorem requestsQueueAndAreServedInTurn : Obligations.RequestsQueueAndAreServedInTurn := by
  refine ⟨fun ch cell s tag kind channel item payload running cells => ⟨fun room => ?queued, fun full => ?discarded⟩,
    fun s r rest running free => ⟨fun next => ?next, fun none same => ?same⟩⟩
  case queued =>
    exact (exec_requestCell_request running cells).trans (congrArg Host.Outcome.next (State.acceptRequest_queued room))
  case discarded =>
    exact (exec_requestCell_request running cells).trans (congrArg Host.Outcome.next (State.acceptRequest_discarded full))
  case next =>
    exact exec_agentTakesRequest_serves running free
      (State.linkToServe_next (next ▸ List.cons_ne_nil r rest)) next
  case same =>
    exact exec_agentTakesRequest_serves running free
      (State.linkToServe_same none (same ▸ List.cons_ne_nil r rest)) same

end Sys2Proof.Machine
end

section
/-! The records of R215: where each field stands. -/

namespace Sys2Proof.Machine

/-! ## Fields at their offsets -/

section

variable {bytes : List Byte} {i : Nat}

theorem byteAt_of_lt {n : Nat} (h : bytes[i]? = some (BitVec.ofNat 8 n)) (hn : n < 256) : byteAt bytes i = n :=
  (byteAt_ofNat h).trans (Nat.mod_eq_of_lt hn)

theorem byteAt_toNat {b : Bool} (h : bytes[i]? = some (BitVec.ofNat 8 b.toNat)) : byteAt bytes i = b.toNat :=
  byteAt_of_lt h (b.toNat_le.trans_lt (by decide))

theorem le16_toNat {x : BitVec 16} (h : bytes[i]? = some (BitVec.ofNat 8 x.toNat))
    (h' : bytes[i + 1]? = some (BitVec.ofNat 8 (x.toNat / 256))) : le16 bytes i = x.toNat :=
  (le16_ofNat h h').trans (Nat.mod_eq_of_lt x.isLt)

/-- A field of four bytes stands as `toLe` lays it out. -/
theorem le32_ofNat {n : Nat} (h : slice bytes i 4 = toLe 4 n) : le32 bytes i = n % 4294967296 := by
  have field (k : Nat) (hk : k < 4) : byteAt bytes (i + k) = byteAt (toLe 4 n) k := by
    rw [← h, slice, byteAt, byteAt, List.getD_eq_getElem?_getD, List.getD_eq_getElem?_getD,
      List.getElem?_take_of_lt hk, List.getElem?_drop]
  change le32 bytes i = n % 2 ^ 32
  rw [← le32_toLe n]
  simp only [le32, le16, Nat.add_assoc, field, Nat.lt_succ_self, Nat.reduceAdd, Nat.reduceLT, Nat.zero_add,
    ← field 0 (by decide), Nat.add_zero]

theorem le32_toNat {x : BitVec 32} (h : slice bytes i 4 = toLe 4 x.toNat) : le32 bytes i = x.toNat :=
  (le32_ofNat h).trans (Nat.mod_eq_of_lt x.isLt)

end

/-! ## Codes that fit a byte -/

theorem channelCode_lt (ch : Channel) : channelCode ch < 256 := by cases ch <;> decide
theorem BufferId.number_lt (b : BufferId) : b.number < 256 := by cases b <;> decide
theorem bufferByte_lt (b : Option BufferId) : bufferByte b < 256 := by
  cases b with
  | none => decide
  | some b => exact b.number_lt
theorem meshByte_lt (m : Option MeshChoice) : meshByte m < 256 := by
  match m with
  | none | some .primary | some .turn => decide
theorem NightMode.code_lt (m : NightMode) : m.code < 256 := by cases m <;> decide
theorem TileState.code_lt (t : TileState) : t.code < 256 := by cases t <;> decide
theorem EntryState.code_lt (e : EntryState) : e.code < 256 := by cases e <;> decide
theorem Action.code_lt (a : Action) : a.code < 256 := by cases a <;> decide
theorem FaultKind.number_lt_byte (k : FaultKind) : k.number < 256 := by cases k <;> decide
theorem ActiveState.code_lt (a : ActiveState) : a.code < 256 := by cases a <;> decide
theorem Lock.code_lt (l : Lock) : l.code < 256 := by cases l <;> decide
theorem TickEdge.code_lt (e : TickEdge) : e.code < 256 := by cases e <;> decide

/-! ## Optional fields (R215): each in the same bytes, present or not -/

/-- A present byte, and a number or 0. -/
def presentBytes (width : Nat) (n : Option Nat) : List Byte := toLe 1 n.isSome.toNat ++ toLe width (n.getD 0)

theorem activationBytes_eq (a : Option Activation) : activationBytes a =
    presentBytes 4 (a.map fun a => a.time.toNat) ++ toLe 2 ((a.map fun a => a.seq.toNat).getD 0) := by
  cases a <;> rfl

theorem timeBytes_eq (t : Option Time) : timeBytes t = presentBytes 4 (t.map BitVec.toNat) := by cases t <;> rfl

/-- R215: the fields of a display frame record, each by its number. -/
theorem frameRecordBytes_eq (r : Option FrameRecord) : frameRecordBytes r =
    toLe 2 ((r.map fun r => r.seq.toNat).getD 0) ++ toLe 4 ((r.map fun r => r.start.toNat).getD 0)
      ++ toLe 1 ((r.map fun r => r.view.code).getD 0) ++ toLe 1 (bufferByte (r.bind FrameRecord.buffer))
      ++ toLe 1 ((r.map fun r => r.fresh.toNat).getD 0) ++ toLe 1 (meshByte (r.bind FrameRecord.mesh))
      ++ toLe 1 ((r.map fun r => r.night.toNat).getD 0) ++ toLe 2 ((r.map fun r => r.conditions.toNat).getD 0) := by
  cases r <;> rfl

/-- R215: one signature entry. -/
def signatureEntry (e : Option (Seq × Check)) : List Byte :=
  toLe 2 ((e.map fun e => e.1.toNat).getD 0) ++ toLe 4 ((e.map fun e => e.2.toNat).getD 0)

theorem signatureBytes_eq (queue : List (Seq × Check)) : signatureBytes queue =
    signatureEntry queue[0]? ++ signatureEntry queue[1]? ++ signatureEntry queue[2]? ++ signatureEntry queue[3]? := by
  have entries : signatureBytes queue = ((List.range 4).map fun k => signatureEntry queue[k]?).flatten := by
    refine congrArg List.flatten (List.map_congr_left fun k _ => ?_)
    cases queue[k]? <;> rfl
  rw [entries]
  simp only [List.range_succ, List.range_zero, List.nil_append, List.cons_append, List.map_cons, List.map_nil,
    List.flatten_cons, List.flatten_nil, List.append_nil, List.append_assoc]

/-! ## CHANNEL (R74, R96, R117, R153) -/

theorem State.channelRecord_layout {s : State} {ch : Channel} {rec : List Byte} (h : rec = s.channelRecord ch) :
    rec.length = 54 ∧ byteAt rec 0 = (s.view.get ch).state.code ∧ byteAt rec 1 = (s.view.get ch).holdTimer % 256 ∧
    (∀ fr, (s.view.get ch).record = some fr →
      le16 rec 2 = fr.seq.toNat ∧ le32 rec 4 = fr.start.toNat ∧ byteAt rec 8 = fr.view.code ∧
      byteAt rec 9 = bufferByte fr.buffer ∧ byteAt rec 10 = fr.fresh.toNat ∧ byteAt rec 11 = meshByte fr.mesh ∧
      byteAt rec 12 = fr.night.toNat ∧ le16 rec 13 = fr.conditions.toNat) ∧
    byteAt rec 15 = (s.glare.get ch).night.toNat ∧ byteAt rec 16 = (s.glare.get ch).dwell % 256 ∧
    byteAt rec 17 = (s.params.get ch).nightMode.code ∧ le16 rec 18 = (s.link.get ch).nextSeq.toNat ∧
    byteAt rec 20 = (s.link.get ch).expected.length % 256 ∧
    (∀ k, k < 4 →
      (∀ e, (s.link.get ch).expected[k]? = some e →
        le16 rec (21 + 6 * k) = e.1.toNat ∧ le32 rec (23 + 6 * k) = e.2.toNat) ∧
      ((s.link.get ch).expected[k]? = none → le16 rec (21 + 6 * k) = 0 ∧ le32 rec (23 + 6 * k) = 0)) ∧
    byteAt rec 45 = s.slotsHeld ch % 256 ∧ byteAt rec 46 = (s.link.get ch).answers.length % 256 ∧
    byteAt rec 47 = (s.link.get ch).rxDiscard.toNat ∧ byteAt rec 48 = (s.link.get ch).statusSeen.toNat ∧
    byteAt rec 49 = (s.link.get ch).silentTicks % 256 ∧
    ((s.link.get ch).lastStatus = none → rec.drop 50 = [0, 0, 0, 0]) ∧
    ∀ lux fault, (s.link.get ch).lastStatus = some (lux, fault) →
      byteAt rec 50 = 1 ∧ le16 rec 51 = lux.toNat ∧ byteAt rec 53 = fault.toNat := by
  simp only [State.channelRecord, frameRecordBytes_eq, signatureBytes_eq, signatureEntry, boolByte, toLe, List.cons_append,
    List.nil_append] at h
  subst h
  refine ⟨?length, byteAt_of_lt rfl (ViewState.code_lt _), byteAt_ofNat rfl, fun fr hfr => ?record, byteAt_toNat rfl,
    byteAt_ofNat rfl, byteAt_of_lt rfl (NightMode.code_lt _), le16_toNat rfl rfl, byteAt_ofNat rfl, fun k hk => ?signatures,
    byteAt_ofNat rfl, byteAt_ofNat rfl, byteAt_toNat rfl, byteAt_toNat rfl, byteAt_ofNat rfl, fun none => ?noStatus,
    fun lux fault status => ?status⟩
  case length => cases (s.link.get ch).lastStatus <;> rfl
  case record =>
    rw [hfr]
    exact ⟨le16_toNat rfl rfl, le32_toNat rfl, byteAt_of_lt rfl (ViewState.code_lt _), byteAt_of_lt rfl (bufferByte_lt _),
      byteAt_toNat rfl, byteAt_of_lt rfl (meshByte_lt _), byteAt_toNat rfl, le16_toNat rfl rfl⟩
  case signatures =>
    match k, hk with
    | 0, _ | 1, _ | 2, _ | 3, _ =>
      refine ⟨fun e he => ?_, fun none => ?_⟩
      · rw [he]
        exact ⟨le16_toNat rfl rfl, le32_toNat rfl⟩
      · rw [none]
        exact ⟨rfl, rfl⟩
  case noStatus =>
    rw [none]
    rfl
  case status =>
    rw [status]
    exact ⟨rfl, le16_toNat rfl rfl, byteAt_toNat rfl⟩

/-! ## BUFFER and TILE (R55, R74, R117) -/

theorem Buffer.record_length (b : Buffer) : b.record.length = 12 := by cases b <;> rfl

/-- R215: the records of the three buffers follow each other. -/
theorem FrameStore.record_slot (fs : FrameStore) (b : BufferId) :
    slice fs.record (12 * b.number) 12 = (fs.get b).record := by
  have l0 := fs.b0.record_length
  have l1 := fs.b1.record_length
  have l2 := fs.b2.record_length
  rw [FrameStore.record]
  cases b with
  | b0 =>
    have first := slice_middle [] fs.b0.record (fs.b1.record ++ fs.b2.record)
    rw [l0] at first
    rw [List.append_assoc]
    exact first
  | b1 =>
    have second := slice_middle fs.b0.record fs.b1.record fs.b2.record
    rw [l0, l1] at second
    exact second
  | b2 =>
    have third := slice_middle (fs.b0.record ++ fs.b1.record) fs.b2.record []
    rw [List.append_nil, List.length_append, l0, l1, l2] at third
    exact third

section

variable {bytes : List Byte} {o n : Nat}

theorem byteAt_slice {i : Nat} (h : i < n) : byteAt (slice bytes o n) i = byteAt bytes (o + i) := by
  rw [slice, byteAt, byteAt, List.getD_eq_getElem?_getD, List.getD_eq_getElem?_getD, List.getElem?_take_of_lt h,
    List.getElem?_drop]

theorem le16_slice {i : Nat} (h : i + 1 < n) : le16 (slice bytes o n) i = le16 bytes (o + i) := by
  rw [le16, le16, byteAt_slice (Nat.lt_of_succ_lt h), byteAt_slice h, Nat.add_assoc]

theorem le32_slice {i : Nat} (h : i + 3 < n) : le32 (slice bytes o n) i = le32 bytes (o + i) := by
  rw [le32, le32, le16_slice (by omega), le16_slice (by omega), Nat.add_assoc]

theorem slice_slice {i m : Nat} (h : i + m ≤ n) : slice (slice bytes o n) i m = slice bytes (o + i) m := by
  rw [slice, slice, slice, List.drop_take, List.take_take, List.drop_drop, Nat.min_eq_left (by omega)]

end

theorem Buffer.record_picture {b : Buffer} {p : Picture} (h : b.picture = some p) :
    le32 b.record 1 = p.arrival.toNat ∧ le16 b.record 5 = p.width % 65536 ∧ le16 b.record 7 = p.height % 65536 := by
  cases b with
  | free => cases h
  | filling q | ready q _ | shown q _ _ =>
    obtain rfl : q = p := Option.some.inj h
    exact ⟨le32_toNat rfl, le16_ofNat rfl rfl, le16_ofNat rfl rfl⟩

theorem FrameStore.record_layout {fs : FrameStore} {rec : List Byte} (h : rec = fs.record) :
    rec.length = 36 ∧ ∀ b o, o = 12 * b.number →
      (fs.get b = .free → slice rec o 12 = List.replicate 12 0) ∧
      (∀ p, (fs.get b).picture = some p → le32 rec (o + 1) = p.arrival.toNat ∧
        le16 rec (o + 5) = p.width % 65536 ∧ le16 rec (o + 7) = p.height % 65536) ∧
      (∀ p, fs.get b = .filling p → byteAt rec o = 1 ∧ slice rec (o + 9) 3 = [0, 0, 0]) ∧
      (∀ p n, fs.get b = .ready p n → byteAt rec o = 2 ∧ le16 rec (o + 9) = n.toNat ∧ byteAt rec (o + 11) = 0) ∧
      (∀ p n times, fs.get b = .shown p n times →
        byteAt rec o = 3 ∧ le16 rec (o + 9) = n.toNat ∧ byteAt rec (o + 11) = times % 256) := by
  subst h
  refine ⟨?length, ?slots⟩
  case length =>
    rw [FrameStore.record, List.length_append, List.length_append, Buffer.record_length, Buffer.record_length,
      Buffer.record_length]
  case slots =>
    rintro b o rfl
    have slot := fs.record_slot b
    have byte {i : Nat} (hi : i < 12) : byteAt fs.record (12 * b.number + i) = byteAt (fs.get b).record i :=
      slot ▸ (byteAt_slice hi).symm
    have word {i : Nat} (hi : i + 1 < 12) : le16 fs.record (12 * b.number + i) = le16 (fs.get b).record i :=
      slot ▸ (le16_slice hi).symm
    have long {i : Nat} (hi : i + 3 < 12) : le32 fs.record (12 * b.number + i) = le32 (fs.get b).record i :=
      slot ▸ (le32_slice hi).symm
    have first : byteAt fs.record (12 * b.number) = byteAt (fs.get b).record 0 := byte (i := 0) (by decide)
    refine ⟨fun free => ?_, fun p hp => ?_, fun p hb => ?_, fun p n hb => ?_, fun p n times hb => ?_⟩
    · rw [slot, free]
      rfl
    · rw [long (by decide), word (by decide), word (by decide)]
      exact Buffer.record_picture hp
    · rw [first, ← slice_slice (n := 12) (by decide), slot, hb]
      exact ⟨rfl, rfl⟩
    · rw [first, word (by decide), byte (by decide), hb]
      exact ⟨rfl, le16_toNat rfl rfl, rfl⟩
    · rw [first, word (by decide), byte (by decide), hb]
      exact ⟨rfl, le16_toNat rfl rfl, byteAt_ofNat rfl⟩

theorem Glare.tileRecord_layout {g : Glare} {i : Nat} {rec : List Byte} (h : rec = g.tileRecord i) :
    rec.length = 9 ∧
    (∀ t, g.tiles[i]? = some t →
      byteAt rec 0 = t.state.code ∧ byteAt rec 1 = t.run % 256 ∧ byteAt rec 2 = t.qLast % 256 ∧
      le16 rec 3 = t.target % 65536 ∧ le16 rec 5 = t.gain % 65536) ∧
    ∀ n, g.last[i]? = some n → le16 rec 7 = n % 65536 := by
  subst h
  refine ⟨rfl, fun t ht => ?_, fun n hn => ?_⟩
  · rw [Glare.tileRecord, List.getD_eq_getElem?_getD, ht]
    exact ⟨byteAt_of_lt rfl (TileState.code_lt _), byteAt_ofNat rfl, byteAt_ofNat rfl, le16_ofNat rfl rfl,
      le16_ofNat rfl rfl⟩
  · rw [Glare.tileRecord, List.getD_eq_getElem?_getD (l := g.last), hn]
    exact le16_ofNat rfl rfl

/-! ## FAULT-ENTRY and HISTORY (R191, R195) -/

theorem FaultEntry.drives_toNat (e : FaultEntry) :
    e.drives.toNat = if e.state = .active ∨ e.state = .recovering ∨ e.state = .latched then 1 else 0 := by
  rw [FaultEntry.drives]
  cases e.state <;> rfl

theorem FaultEntry.record_eq (e : FaultEntry) (v : ActionValues) : e.record v =
    toLe 1 e.state.code ++ toLe 1 e.run ++ e.applied.bytes ++ toLe 1 e.occurrences ++ activationBytes e.first
      ++ activationBytes e.last ++ presentBytes 4 e.detail ++ boolByte e.unacknowledged ++ v.bytes
      ++ boolByte e.drives := by
  rw [FaultEntry.record]
  cases e.detail <;> rfl

theorem FaultEntry.record_layout {e : FaultEntry} {v : ActionValues} {rec : List Byte} (h : rec = e.record v) :
    rec.length = 34 ∧ byteAt rec 0 = e.state.code ∧ byteAt rec 1 = e.run % 256 ∧ byteAt rec 2 = e.applied.action.code ∧
    byteAt rec 3 = e.applied.debounce % 256 ∧ byteAt rec 4 = e.applied.recovery % 256 ∧
    byteAt rec 5 = e.applied.latch.toNat ∧ byteAt rec 6 = e.applied.assertLine.toNat ∧
    byteAt rec 7 = e.occurrences % 256 ∧
    (e.first = none → slice rec 8 7 = List.replicate 7 0) ∧
    (∀ a, e.first = some a → byteAt rec 8 = 1 ∧ le32 rec 9 = a.time.toNat ∧ le16 rec 13 = a.seq.toNat) ∧
    (e.last = none → slice rec 15 7 = List.replicate 7 0) ∧
    (∀ a, e.last = some a → byteAt rec 15 = 1 ∧ le32 rec 16 = a.time.toNat ∧ le16 rec 20 = a.seq.toNat) ∧
    (e.detail = none → slice rec 22 5 = List.replicate 5 0) ∧
    (∀ d, e.detail = some d → byteAt rec 22 = 1 ∧ le32 rec 23 = d % 4294967296) ∧
    byteAt rec 27 = e.unacknowledged.toNat ∧ byteAt rec 28 = v.action.code ∧ byteAt rec 29 = v.debounce % 256 ∧
    byteAt rec 30 = v.recovery % 256 ∧ byteAt rec 31 = v.latch.toNat ∧ byteAt rec 32 = v.assertLine.toNat ∧
    byteAt rec 33 = if e.state = .active ∨ e.state = .recovering ∨ e.state = .latched then 1 else 0 := by
  simp only [FaultEntry.record_eq, activationBytes_eq, presentBytes, ActionValues.bytes, boolByte, toLe, List.cons_append,
    List.nil_append] at h
  subst h
  refine ⟨rfl, byteAt_of_lt rfl (EntryState.code_lt _), byteAt_ofNat rfl, byteAt_of_lt rfl (Action.code_lt _),
    byteAt_ofNat rfl, byteAt_ofNat rfl, byteAt_toNat rfl, byteAt_toNat rfl, byteAt_ofNat rfl, fun none => ?noFirst,
    fun a first => ?first, fun none => ?noLast, fun a last => ?last, fun none => ?noDetail, fun d detail => ?detail,
    byteAt_toNat rfl, byteAt_of_lt rfl (Action.code_lt _), byteAt_ofNat rfl, byteAt_ofNat rfl, byteAt_toNat rfl,
    byteAt_toNat rfl, (byteAt_toNat rfl).trans e.drives_toNat⟩
  case noFirst => rw [none]; rfl
  case first => rw [first]; exact ⟨rfl, le32_toNat rfl, le16_toNat rfl rfl⟩
  case noLast => rw [none]; rfl
  case last => rw [last]; exact ⟨rfl, le32_toNat rfl, le16_toNat rfl rfl⟩
  case noDetail => rw [none]; rfl
  case detail => rw [detail]; exact ⟨rfl, le32_ofNat rfl⟩

theorem State.historyRecord_layout {s : State} {i : Nat} {rec : List Byte} (h : rec = s.historyRecord i) :
    rec.length = 15 ∧ byteAt rec 0 = s.historyCount.toNat ∧ byteAt rec 1 = s.history.length % 256 ∧
    (s.history[i]? = none → rec.drop 2 = List.replicate 13 0) ∧
    ∀ h, s.history[i]? = some h → byteAt rec 2 = 1 ∧ byteAt rec 3 = h.kind.number ∧
      byteAt rec 4 = channelCode h.channel ∧ le32 rec 5 = h.time.toNat ∧ le16 rec 9 = h.seq.toNat ∧
      le32 rec 11 = h.detail % 4294967296 := by
  subst h
  rw [State.historyRecord]
  refine ⟨by cases s.history[i]? <;> rfl, byteAt_of_lt rfl s.historyCount.isLt, byteAt_ofNat rfl, fun none => ?absent,
    fun h found => ?present⟩
  case absent => rw [none]; rfl
  case present =>
    rw [found]
    exact ⟨rfl, byteAt_of_lt rfl h.kind.number_lt_byte, byteAt_of_lt rfl (channelCode_lt _), le32_toNat rfl,
      le16_toNat rfl rfl, le32_ofNat rfl⟩

/-! ## TABLE (R10) -/

theorem TableEntry.record_layout {e : TableEntry} {rec : List Byte} (h : rec = e.record) :
    rec.length = 21 ∧ byteAt rec 0 = e.active.state.code ∧ le16 rec 1 = e.active.length % 65536 ∧
    le32 rec 3 = e.active.checksum.toNat ∧ le16 rec 7 = e.active.generation.toNat ∧ byteAt rec 20 = e.lock.code ∧
    (e.staged = .idle → slice rec 9 11 = [0, 0, 0, 0, 0, 255, 0, 0, 0, 0, 0]) ∧
    (∀ load, (e.staged = .loading load ∨ (∃ supplied tag, e.staged = .verifying load supplied tag) ∨
        ∃ supplied, e.staged = .swapWait load supplied) →
      le16 rec 10 = load.declared % 65536 ∧ le16 rec 12 = load.bytes.length % 65536 ∧
      byteAt rec 14 = channelCode load.owner) ∧
    (∀ load, e.staged = .loading load → byteAt rec 9 = 1 ∧ slice rec 15 5 = List.replicate 5 0) ∧
    (∀ load supplied tag, e.staged = .verifying load supplied tag →
      byteAt rec 9 = 2 ∧ byteAt rec 15 = 1 ∧ le32 rec 16 = supplied.toNat) ∧
    (∀ load supplied, e.staged = .swapWait load supplied →
      byteAt rec 9 = 3 ∧ byteAt rec 15 = 1 ∧ le32 rec 16 = supplied.toNat) := by
  subst h
  rw [TableEntry.record]
  refine ⟨?length, byteAt_of_lt rfl (ActiveState.code_lt _), le16_ofNat rfl rfl, le32_toNat rfl, le16_toNat rfl rfl, ?lock,
    fun idle => ?idle, fun load held => ?load, fun load loading => ?loading, fun load supplied tag verifying => ?verifying,
    fun load supplied waiting => ?waiting⟩
  case length => cases e.staged <;> rfl
  case lock => cases e.staged <;> exact byteAt_of_lt rfl (Lock.code_lt _)
  case idle => rw [idle]; rfl
  case load =>
    rcases held with held | ⟨_, _, held⟩ | ⟨_, held⟩ <;> rw [held] <;>
      exact ⟨le16_ofNat rfl rfl, le16_ofNat rfl rfl, byteAt_of_lt rfl (channelCode_lt _)⟩
  case loading => rw [loading]; exact ⟨rfl, rfl⟩
  case verifying => rw [verifying]; exact ⟨rfl, rfl, le32_toNat rfl⟩
  case waiting => rw [waiting]; exact ⟨rfl, rfl, le32_toNat rfl⟩

/-! ## PARAMETER (R203, R204) -/

theorem Param.write_length {p : Param} {v : List Nat} (h : v.length = p.ranges.length) : (p.write v).length = p.width := by
  have flat (fields : List Nat) : ((fields.map (toLe p.fieldWidth)).flatten).length = p.fieldWidth * fields.length := by
    induction fields with
    | nil => rfl
    | cons x rest ih =>
      rw [List.map_cons, List.flatten_cons, List.length_append, toLe_length, ih, List.length_cons, Nat.mul_succ,
        Nat.add_comm]
  rw [Param.write, flat, h, Param.width]

theorem State.paramInUse_length {s : State} (h : s.ParamsSound) (ch : Channel) (p : Param) :
    (s.paramInUse ch p).length = p.ranges.length := by
  have force : (s.paramValue ch p).length = p.ranges.length := ((h ch).1 p).1
  cases p
  case nightExit | glareOff | span | unlockWindow => rfl
  all_goals exact force

/-- R215: what waits for a parameter. -/
def pendingBytes (p : Param) : Option (List Nat) → List Byte
  | none => List.replicate (1 + p.width) 0
  | some v => 1 :: p.write v

theorem State.parameterRecord_eq (s : State) (ch : Channel) (id : Byte) (p : Param) : s.parameterRecord ch id p =
    id :: p.write (s.paramValue ch p) ++ pendingBytes p (pendingOf (s.pendingParams.get ch) p)
      ++ p.write (s.paramInUse ch p) := by
  rw [State.parameterRecord]
  cases pendingOf (s.pendingParams.get ch) p with
  | none =>
    rw [pendingBytes, Nat.add_comm, List.replicate_succ]
    rfl
  | some v => rfl

theorem State.parameterRecord_layout {s : State} (hs : s.ParamsSound) {ch : Channel} {id : Byte} {p : Param} {w : Nat}
    (hw : w = p.width) {rec : List Byte} (h : rec = s.parameterRecord ch id p) :
    rec.length = 2 + 3 * w ∧ rec.take (1 + w) = id :: p.write (s.paramValue ch p) ∧
    (pendingOf (s.pendingParams.get ch) p = none → slice rec (1 + w) (1 + w) = List.replicate (1 + w) 0) ∧
    (∀ v, pendingOf (s.pendingParams.get ch) p = some v → slice rec (1 + w) (1 + w) = 1 :: p.write v) ∧
    rec.drop (2 + 2 * w) = p.write (s.paramInUse ch p) := by
  subst hw
  obtain ⟨force, pending, -⟩ := hs ch
  have front : (id :: p.write (s.paramValue ch p)).length = 1 + p.width := by
    rw [List.length_cons, Param.write_length (force p).1, Nat.add_comm]
  have middle : (pendingBytes p (pendingOf (s.pendingParams.get ch) p)).length = 1 + p.width := by
    cases waits : pendingOf (s.pendingParams.get ch) p with
    | none => exact List.length_replicate
    | some v =>
      obtain ⟨pv, found, rfl⟩ := Option.map_eq_some_iff.mp waits
      obtain rfl : pv.1 = p := by simpa using List.find?_some found
      rw [pendingBytes, List.length_cons, Param.write_length (pending pv (List.mem_of_find?_eq_some found)).1, Nat.add_comm]
  have back : (p.write (s.paramInUse ch p)).length = p.width := Param.write_length (State.paramInUse_length hs ch p)
  rw [State.parameterRecord_eq] at h
  subst h
  have waiting := slice_middle (id :: p.write (s.paramValue ch p))
    (pendingBytes p (pendingOf (s.pendingParams.get ch) p)) (p.write (s.paramInUse ch p))
  rw [front, middle] at waiting
  refine ⟨?length, ?front, fun none => ?absent, fun v some => ?present, ?back⟩
  case length =>
    rw [List.length_append, List.length_append, front, middle, back]
    omega
  case front => rw [List.append_assoc, List.take_left' front]
  case absent => rw [waiting, none]; rfl
  case present => rw [waiting, some]; rfl
  case back => exact List.drop_left' (by rw [List.length_append, front, middle]; omega)

/-! ## COVERAGE, PASS and TIMING (R30, R50, R171) -/

theorem Coverage.record_layout {c : Coverage} {rec : List Byte} (h : rec = c.record) :
    rec.length = 9 ∧ (c = .unwritten → rec = List.replicate 9 0) ∧ (∀ q, c = .written q → byteAt rec 0 = 1) ∧
    (∀ q, c = .fixed q → byteAt rec 0 = 2) ∧
    ∀ q, c.rect = some q → le16 rec 1 = q.x0 % 65536 ∧ le16 rec 3 = q.y0 % 65536 ∧ le16 rec 5 = q.x1 % 65536 ∧
      le16 rec 7 = q.y1 % 65536 := by
  subst h
  refine ⟨by cases c <;> rfl, ?_, ?_, ?_, fun q hq => ?_⟩
  · rintro rfl; rfl
  · rintro q rfl; rfl
  · rintro q rfl; rfl
  · cases c with
    | unwritten => cases hq
    | written p | fixed p =>
      obtain rfl : p = q := Option.some.inj hq
      exact ⟨le16_ofNat rfl rfl, le16_ofNat rfl rfl, le16_ofNat rfl rfl, le16_ofNat rfl rfl⟩

theorem PassRecord.record_layout {p : PassRecord} {rec : List Byte} (h : rec = p.record) :
    rec.length = 4 ∧ (p = .idle → rec = [0, 0, 0, 0]) ∧
    ∀ link tag ticks, p = .waiting link tag ticks →
      byteAt rec 0 = 1 ∧ byteAt rec 1 = channelCode link ∧ byteAt rec 2 = tag.toNat ∧ byteAt rec 3 = ticks % 256 := by
  subst h
  refine ⟨by cases p <;> rfl, ?_, ?_⟩
  · rintro rfl; rfl
  · rintro link tag ticks rfl
    exact ⟨rfl, byteAt_of_lt rfl (channelCode_lt _), byteAt_of_get rfl, byteAt_ofNat rfl⟩

theorem Tracker.record_eq (k : Tracker) : k.record =
    toLe 1 k.state.code ++ boolByte k.locked ++ toLe 1 k.bandwidth.code ++ toLe 2 k.period
      ++ presentBytes 4 (k.nextRef.map BitVec.toNat) ++ presentBytes 4 (k.frameEnd.map BitVec.toNat)
      ++ presentBytes 4 (k.lastError.map fun e => (BitVec.ofInt 32 e).toNat) ++ toLe 1 k.lockRun ++ toLe 1 k.unlockRun
      ++ toLe 1 k.emptyCount := by
  rw [Tracker.record, timeBytes_eq, timeBytes_eq]
  cases k.lastError <;> rfl

/-- R156: the phase of the transition within a period of the counter. -/
def PartParams.phase (p : PartParams) : Nat :=
  match p.tickEdge with
  | .rising => 2 ^ p.tickBit
  | .falling => 0

theorem PartParams.phase_lt (p : PartParams) : p.phase < 2 ^ (p.tickBit + 1) := by
  have positive := Nat.two_pow_pos p.tickBit
  rw [PartParams.phase, Nat.pow_succ]
  split <;> omega

theorem PartParams.transitionAt_iff {p : PartParams} {t : Time} :
    p.transitionAt t = true ↔ t.toNat % 2 ^ (p.tickBit + 1) = p.phase := beq_iff_eq

/-- From any count, the wait for a phase of a period ends at that phase. -/
theorem add_wait_mod {c period phase : Nat} (h : phase < period) :
    (c + (period - (c + period - phase) % period)) % period = phase := by
  have whole := Nat.div_add_mod (c + period - phase) period
  have below : (c + period - phase) % period < period := Nat.mod_lt _ (by omega)
  have reached : c + (period - (c + period - phase) % period) = phase + period * ((c + period - phase) / period) := by
    omega
  rw [reached, Nat.add_mul_mod_self_left, Nat.mod_eq_of_lt h]

theorem State.ParamsSound.tickBit_le {s : State} (hs : s.ParamsSound) : s.partParams.tickBit ≤ 24 := by
  obtain ⟨x, value, -, high⟩ := ((hs .left).1 .tickBit).singleton rfl
  have bit : s.partParams.tickBit = x := List.singleton_inj.mp value
  exact bit ▸ high

/-- R156, R171: the transition that the record of a TIMING query names stands at that time. -/
theorem State.transitionAt_nextTick {s : State} (hs : s.ParamsSound) : s.partParams.transitionAt s.nextTick = true := by
  rw [State.nextTick]
  split
  case isTrue due =>
    rw [State.tickDue, Bool.and_eq_true] at due
    exact due.1
  case isFalse =>
    have divides : 2 ^ (s.partParams.tickBit + 1) ∣ 2 ^ 32 := Nat.pow_dvd_pow 2 (by have := hs.tickBit_le; omega)
    have reached := add_wait_mod (c := s.counter.toNat) s.partParams.phase_lt
    have after : s.tickAfter = s.counter + BitVec.ofNat 32 (2 ^ (s.partParams.tickBit + 1) -
        (s.counter.toNat + 2 ^ (s.partParams.tickBit + 1) - s.partParams.phase) % 2 ^ (s.partParams.tickBit + 1)) := rfl
    rw [PartParams.transitionAt_iff, after, BitVec.toNat_add, BitVec.toNat_ofNat, Nat.add_mod_mod,
      Nat.mod_mod_of_dvd _ divides, reached]

theorem State.timingRecord_layout {s : State} {ch : Channel} {g : LinkTiming} {k : Tracker} (hg : g = s.timing.get ch)
    (hk : k = g.tracker) {rec : List Byte} (h : rec = s.timingRecord ch) :
    rec.length = 45 ∧
    le32 rec 0 = s.counter.toNat ∧ byteAt rec 4 = s.partParams.tickBit % 256 ∧
    byteAt rec 5 = s.partParams.tickEdge.code ∧ le32 rec 6 = s.nextTick.toNat ∧
    (s.ParamsSound → s.partParams.transitionAt s.nextTick = true) ∧ byteAt rec 10 = g.source.code ∧
    byteAt rec 11 = g.aligned.toNat ∧ (∀ start, g.start = some start → le32 rec 12 = start.toNat) ∧
    le16 rec 16 = g.period % 65536 ∧ le32 rec 18 = g.nextStart.toNat ∧ byteAt rec 22 = k.state.code ∧
    byteAt rec 23 = k.locked.toNat ∧ byteAt rec 24 = k.bandwidth.code ∧ le16 rec 25 = k.period % 65536 ∧
    (k.nextRef = none → slice rec 27 5 = List.replicate 5 0) ∧
    (∀ v, k.nextRef = some v → byteAt rec 27 = 1 ∧ le32 rec 28 = v.toNat) ∧
    (k.frameEnd = none → slice rec 32 5 = List.replicate 5 0) ∧
    (∀ v, k.frameEnd = some v → byteAt rec 32 = 1 ∧ le32 rec 33 = v.toNat) ∧
    (k.lastError = none → slice rec 37 5 = List.replicate 5 0) ∧
    (∀ e, k.lastError = some e → byteAt rec 37 = 1 ∧ le32 rec 38 = (BitVec.ofInt 32 e).toNat) ∧
    byteAt rec 42 = k.lockRun % 256 ∧ byteAt rec 43 = k.unlockRun % 256 ∧ byteAt rec 44 = k.emptyCount % 256 := by
  subst hg hk
  simp only [State.timingRecord, Tracker.record_eq, presentBytes, boolByte, toLe, List.cons_append, List.nil_append] at h
  subst h
  refine ⟨rfl, le32_toNat rfl, byteAt_ofNat rfl, byteAt_of_lt rfl (TickEdge.code_lt _), le32_toNat rfl,
    State.transitionAt_nextTick, byteAt_of_lt rfl ((Source.code_lt _).trans (by decide)), byteAt_toNat rfl,
    fun start begun => ?start, le16_ofNat rfl rfl, le32_toNat rfl, byteAt_of_lt rfl (TrackerState.code_lt _),
    byteAt_toNat rfl, byteAt_of_lt rfl ((Bandwidth.code_lt _).trans (by decide)), le16_ofNat rfl rfl,
    fun none => ?noRef, fun v some => ?ref, fun none => ?noEnd, fun v some => ?frameEnd, fun none => ?noError,
    fun e some => ?error, byteAt_ofNat rfl, byteAt_ofNat rfl, byteAt_ofNat rfl⟩
  case start => rw [begun]; exact le32_toNat rfl
  case noRef => rw [none]; rfl
  case ref => rw [some]; exact ⟨rfl, le32_toNat rfl⟩
  case noEnd => rw [none]; rfl
  case frameEnd => rw [some]; exact ⟨rfl, le32_toNat rfl⟩
  case noError => rw [none]; rfl
  case error => rw [some]; exact ⟨rfl, le32_toNat rfl⟩

end Sys2Proof.Machine
end

section
/-! QUERY (R199, R202): each record kind answered with its record. -/

namespace Sys2Proof.Machine

theorem exec_queryIdentity (s : State) : exec .queryIdentity s = execQueryIdentity s := rfl

theorem execQueryTile_of {s : State} {r : Request} {ch : Channel} (hs : s.Executes r) (hk : r.kind = 1)
    (hp : r.payload = [3]) (hc : channelOf r.channel = some ch) (hi : r.item.toNat ≤ 79) :
    execQueryTile s = .next (s.answered r .ok ((s.glare.get ch).tileRecord r.item.toNat)) :=
  whenExecuting_of hs (Request.isQuery_of hk hp) ((State.onChannel_eq hc).trans (if_pos hi))

theorem execQueryFaultEntry_of {s : State} {r : Request} {ch : Channel} {k : FaultKind} (hs : s.Executes r)
    (hk : r.kind = 1) (hp : r.payload = [4]) (hc : channelOf r.channel = some ch)
    (hn : kindOfNumber r.item.toNat = some k) :
    execQueryFaultEntry s = .next (s.answered r .ok ((s.entry ch k).record (s.valuesInForce k))) := by
  refine whenExecuting_of hs (Request.isQuery_of hk hp) ((State.onChannel_eq hc).trans ?_)
  simp only [hn]
  rfl

theorem execQueryParameter_of {s : State} {r : Request} {ch : Channel} {p : Param} (hs : s.Executes r) (hk : r.kind = 1)
    (hp : r.payload = [7]) (hid : paramOfId r.item = some p) (hc : paramChannel p r.channel = some ch) :
    execQueryParameter s = .next (s.answered r .ok (s.parameterRecord ch r.item p)) := by
  refine whenExecuting_of hs (Request.isQuery_of hk hp) ?_
  simp only [hid, hc]
  rfl

/-- Settles O19: each QUERY is answered with its record, whose fields its layout gives. -/
theorem queriesAnswerTheirRecords : Obligations.QueriesAnswerTheirRecords := by
  intro s r ch hs hk
  refine ⟨fun hp => ?identity, fun hp hc => ?channel, fun hp hc => ?buffer, fun hp hc hi => ?tile,
    fun hp hc k e v hn he hv => ?faultEntry, fun hp hi => ?history, fun hp t e hn he => ?table,
    fun hp sound p w hid hc hw => ?parameter, fun hp hc => ?coverage, fun hp hc g k hg hgk => ?timing,
    fun hp hc => ?pass⟩
  case identity =>
    exact (exec_queryIdentity s).trans (whenExecuting_of hs (Request.isQuery_of hk hp) rfl)
  case channel =>
    obtain ⟨length, state, timer, record, rest⟩ := State.channelRecord_layout (s := s) (ch := ch) rfl
    refine ⟨_, (exec_queryChannel s).trans (whenExecuting_of hs (Request.isQuery_of hk hp) (State.onChannel_eq hc)),
      length, state, timer, fun fr hfr => ?_, rest⟩
    obtain ⟨seq, start, view, buffer, fresh, mesh, night⟩ := record fr hfr
    refine ⟨seq, start, view, buffer.trans ?_, fresh, mesh.trans ?_, night⟩
    · cases fr.buffer <;> rfl
    · rcases fr.mesh with _ | _ | _ <;> rfl
  case buffer =>
    exact ⟨_, (exec_queryBuffer s).trans (whenExecuting_of hs (Request.isQuery_of hk hp) (State.onChannel_eq hc)),
      FrameStore.record_layout rfl⟩
  case tile =>
    exact ⟨_, (exec_queryTile s).trans (execQueryTile_of hs hk hp hc hi), Glare.tileRecord_layout rfl⟩
  case faultEntry =>
    subst he hv
    exact ⟨_, (exec_queryFaultEntry s).trans (execQueryFaultEntry_of hs hk hp hc hn), FaultEntry.record_layout rfl⟩
  case history =>
    exact ⟨_, (exec_queryHistory s).trans (whenExecuting_of hs (Request.isQuery_of hk hp) (if_pos hi)),
      State.historyRecord_layout rfl⟩
  case table =>
    subst he
    exact ⟨_, (exec_queryTable s).trans (whenExecuting_of hs (Request.isQuery_of hk hp) (State.onTable_eq hn)),
      TableEntry.record_layout rfl⟩
  case parameter =>
    exact ⟨_, (exec_queryParameter s).trans (execQueryParameter_of hs hk hp hid hc),
      State.parameterRecord_layout sound hw rfl⟩
  case coverage =>
    exact ⟨_, (exec_queryCoverage s).trans (whenExecuting_of hs (Request.isQuery_of hk hp) (State.onChannel_eq hc)),
      Coverage.record_layout rfl⟩
  case timing =>
    exact ⟨_, (exec_queryTiming s).trans (whenExecuting_of hs (Request.isQuery_of hk hp) (State.onChannel_eq hc)),
      State.timingRecord_layout hg hgk rfl⟩
  case pass =>
    exact ⟨_, (exec_queryPass s).trans (whenExecuting_of hs (Request.isQuery_of hk hp) (State.onChannel_eq hc)),
      PassRecord.record_layout rfl⟩

end Sys2Proof.Machine
end

section
/-! SET (R203 to R205): the value taken, and what each class of parameter makes of it. -/

namespace Sys2Proof.Machine

section

variable {s : State} {ch : Channel}

/-! ## Part-wide values (R93, R157, R205) -/

theorem State.stageValue_link (p : Param) (v : List Nat) : (s.stageValue ch p v).link = s.link := by
  rw [State.stageValue]
  split
  · rw [State.putPartWide_frame]
  · exact (State.cameraBoundaryIfIdle_swapFrame _ ch).link
  · rfl

/-- R157: new tick values make no tick themselves. -/
theorem State.setTickSchedule_changed {x : PartParams} (h : x ≠ s.partParams) :
    (s.setTickSchedule x).tickDue = false ∧
      s.setTickSchedule x = { s with partParams := x, lastTick := some s.counter } := by
  have changed : s.setTickSchedule x = { s with partParams := x, lastTick := some s.counter } := if_neg h
  refine ⟨?_, changed⟩
  rw [changed, State.tickDue]
  exact Bool.and_eq_false_iff.mpr (.inr (bne_self_eq_false _))

/-- R157, R205: a SET that leaves the tick values as they are changes nothing; another makes no tick itself. -/
theorem State.stageValue_tick {p : Param} {v : List Nat} {t : State} (hp : p = .tickBit ∨ p = .tickEdge)
    (ht : t = s.stageValue ch p v) :
    (t.partParams = s.partParams → t = s) ∧
    (t.partParams ≠ s.partParams → t.tickDue = false ∧
      t = { s with partParams := t.partParams, lastTick := some s.counter }) := by
  obtain ⟨x, rfl⟩ : ∃ x, t = s.setTickSchedule x := by
    rcases hp with rfl | rfl <;> exact ⟨_, ht⟩
  rw [State.setTickSchedule_partParams]
  exact ⟨fun same => if_pos same, State.setTickSchedule_changed⟩

/-! ## NIGHT_MODE (R94) -/

/-- R94: the mode in force set again changes nothing. -/
theorem Glare.changeMode_same (g : Glare) (m : NightMode) : g.changeMode m (nightModeOf m.code) = g :=
  if_pos (by cases m <;> rfl)

/-- R94: a change clears the dwell count; DAY and NIGHT set the flag. -/
theorem Glare.changeMode_changed (g : Glare) {before : NightMode} {x : Nat} (hx : x ≤ 2) (h : [x] ≠ [before.code]) :
    g.changeMode before (nightModeOf x) = { g with
      dwell := 0, night := if [x] = [1] then false else if [x] = [2] then true else g.night } := by
  have changed : before ≠ nightModeOf x := by
    rintro rfl
    exact h (by rw [nightModeOf_code hx])
  refine (if_neg changed).trans ?_
  match x with
  | 0 | 1 | 2 => rfl

theorem State.stageValue_nightMode_glare (v : List Nat) : (s.stageValue ch .nightMode v).glare =
    s.glare.set ch ((s.glare.get ch).changeMode (s.params.get ch).nightMode (nightModeOf (v.getD 0 0))) := rfl

/-! ## Camera-side values (R44, R205) -/

/-- R205: at a boundary the pending value of its class that came last is in force. -/
theorem State.applyPending_addPending {p : Param} {v : List Nat} (hv : p.Legal v) (hp : p.cls ≠ .part) :
    ((s.setPending ch (addPending (s.pendingParams.get ch) p v)).applyPending ch p.cls).paramValue ch p = v := by
  have due : (addPending (s.pendingParams.get ch) p v).filter (fun pv => pv.1.cls == p.cls) =
      (((s.pendingParams.get ch).filter fun pv => pv.1 != p).filter fun pv => pv.1.cls == p.cls) ++ [(p, v)] := by
    rw [addPending, List.filter_append, List.filter_singleton, beq_self_eq_true, cond_true]
  simp only [State.applyPending, State.setPending_pendingParams, Pair.get_set, due, List.foldl_append, List.foldl_cons,
    List.foldl_nil]
  exact State.paramValue_put_self _ ch _ hv hp

theorem pendingOf_eq_none {ps : List PendingValue} {p : Param} (h : ∀ pv ∈ ps, pv.1 ≠ p) : pendingOf ps p = none := by
  rw [pendingOf, Option.map_eq_none_iff, List.find?_eq_none]
  exact fun pv hpv => mt beq_iff_eq.mp (h pv hpv)

/-- R44, R205: with no camera frame in progress a camera-side value is in force at once. -/
theorem State.stageValue_camera_idle {p : Param} {v : List Nat} (hv : p.Legal v) (hp : p.cls = .camera)
    (idle : (s.receiver.get ch).assembly.inProgress = false) :
    (s.stageValue ch p v).paramValue ch p = v ∧ pendingOf ((s.stageValue ch p v).pendingParams.get ch) p = none := by
  have staged : s.stageValue ch p v = (s.setPending ch (addPending (s.pendingParams.get ch) p v)).cameraBoundary ch := by
    rw [State.stageValue]
    simp only [hp]
    exact if_neg (Bool.eq_false_iff.mp idle)
  rw [staged]
  constructor
  · have taken := State.applyPending_addPending (s := s) (ch := ch) hv (by rw [hp]; nofun)
    rw [hp] at taken
    refine Eq.trans (State.paramValue_congr ?_ ?_ p) taken
    · rw [State.cameraBoundary, State.swapIfWaiting_params, State.swapIfWaiting_params]
    · rw [State.cameraBoundary, State.swapIfWaiting_partParams, State.swapIfWaiting_partParams]
  · rw [State.cameraBoundary_pendingParams]
    refine pendingOf_eq_none fun pv hpv => ?_
    rintro rfl
    simpa [hp] using (List.mem_filter.mp hpv).2

/-- R205: a value that waits is the pending one. -/
theorem State.stageValue_pending {p : Param} {v : List Nat}
    (h : p.cls = .display ∨ p.cls = .camera ∧ (s.receiver.get ch).assembly.inProgress = true) :
    s.stageValue ch p v = s.setPending ch (addPending (s.pendingParams.get ch) p v) := by
  rw [State.stageValue]
  rcases h with hp | ⟨hp, busy⟩
  · simp only [hp]
  · simp only [hp]
    exact if_pos busy

end

/-! ## The SET -/

/-- R203: a SET that passes its tests stages what it takes and is answered with it. -/
theorem exec_set_of {s : State} {r : Request} {ch : Channel} {p : Param} (hs : s.Executes r) (hk : r.kind = 2)
    (hid : paramOfId r.item = some p) (hc : paramChannel p r.channel = some ch) (hl : r.payload.length = p.width)
    (hb : p.badCode (p.read r.payload) = false) :
    exec .set s = .next ((s.stageValue ch p (p.taken (p.read r.payload))).answered r
      (if p.taken (p.read r.payload) = p.read r.payload then .ok else .clamped) (p.write (p.taken (p.read r.payload)))) := by
  rw [exec_set]
  refine whenExecuting_of hs (Request.isKind_of hk) ?_
  rw [State.runSet_eq hid hc, State.withLength_eq hl]
  exact if_neg (Bool.eq_false_iff.mp hb)

/-- Settles O20: the value by R204's bounds, the answer by the tests passed, the effects by class. -/
theorem setStagesByClass : Obligations.SetStagesByClass := by
  refine ⟨fun p fields hf => ?taken, ?set⟩
  case taken =>
    exact ⟨Param.legal_taken hf, Param.taken_eq_self, Param.taken_length hf,
      fun i lo hi v hr hv => Param.taken_getElem? hr hv⟩
  case set =>
    rintro s r ch p written taken hs hk hid hc hl rfl hb rfl
    have legal : p.Legal (p.taken (p.read r.payload)) := Param.legal_taken (p.read_length _)
    obtain ⟨swaps, coverage⟩ := s.stageValue_swapsOnly (ch := ch) p (p.taken (p.read r.payload))
    refine ⟨_, exec_set_of hs hk hid hc hl hb, swaps.keeps.1, coverage, State.stageValue_link p _, fun hp => ?display,
      fun hp busy => ?busy, fun hp idle => State.stageValue_camera_idle legal hp idle, fun hp => ?part,
      ?modeStands, ?modeChanges, fun hp => State.stageValue_tick hp rfl⟩
    case display => exact State.stageValue_pending (.inl hp)
    case busy => exact State.stageValue_pending (.inr ⟨hp, busy⟩)
    case part =>
      have put : s.stageValue ch p (p.taken (p.read r.payload)) =
          s.putPartWide ch p (p.taken (p.read r.payload)) := by
        rw [State.stageValue]
        simp only [hp]
      rw [put]
      exact ⟨State.putPartWide_paramValue legal hp (.inl rfl), by rw [State.putPartWide_frame]⟩
    case modeStands =>
      rintro rfl same
      rw [State.stageValue_nightMode_glare, same]
      exact (congrArg (s.glare.set ch) (Glare.changeMode_same _ _)).trans (Pair.set_get _ _)
    case modeChanges =>
      rintro rfl changes
      obtain ⟨x, value, -, high⟩ := legal.singleton rfl
      rw [value] at changes ⊢
      exact congrArg (s.glare.set ch) (Glare.changeMode_changed _ high changes)

end Sys2Proof.Machine
end

section
/-! # The step and the front of the queue

The companion of `step_idle`: a step of a state whose queue holds a command runs that command. -/

namespace Sys2Proof.Machine

/-- With a command waiting, a step takes it off the queue and runs it. -/
theorem step_of_pending {c : Instr} {rest : List Instr} {s : State} (h : s.pending = c :: rest) :
    step s = exec c { s with pending := rest } := by rw [step, h]

/-- Settles O1: the second equation of `step`. -/
theorem stepTakesFrontCommand : Obligations.StepTakesFrontCommand :=
  fun _ _ _ h => step_of_pending h

end Sys2Proof.Machine
end
